-- ==== Sys2Proof/Word.lean ====
section
/-! DEFINITION. The word types of the PS-820 and their plainest arithmetic: the 32-bit word of shared memory and of the
register window, the byte, and the saturating 32-bit count of the area summary (R12, R35). -/

namespace Sys2Proof

/-- A 32-bit word of shared memory or of the register window (spec 12, opening). -/
abbrev Word := BitVec 32

/-- A byte of shared memory. -/
abbrev Byte := BitVec 8

/-- 4,294,967,295, where the area summary counters and the duration saturate (R35, R139). -/
abbrev maxCount : Nat := 4294967295

/-- A count increased by 1 that saturates at 4,294,967,295 (R35). -/
def satSucc (n : Nat) : Nat := if n < maxCount then n + 1 else maxCount

end Sys2Proof
end

