-- ==== Sys2Proof/Syntax.lean ====
section
/-! DEFINITION. The commands of the PS-820: one constructor per row of spec/opcode_table.json, in the table's order.
The rows give no operands; each constructor carries what the event brings from outside the device (a written value, a
probe and tag, a converter sample). Log entry 2 names every operand. -/

namespace Sys2Proof

/-- A probe number 0..7 (P0..P7). P0..P3 are TOP and P4..P7 are BOTTOM (R96). -/
abbrev ProbeNo := Fin 8

/-- The two machine lines that pass through a filter (R28). -/
inductive MachineLine where
  | guard | board
  deriving DecidableEq, Repr

/-- The registers whose host writes are ignored without a trace (R1, R8). -/
inductive IgnoredRegister where
  | ident | cause
  deriving DecidableEq, Repr

/-- The kinds of Memory Port request, each made by one block (R13). The last three are the fill-word writes of R11,
whose completion is no row of the table. -/
inductive ReqKind where
  | loading | ready | runWord | areaWrite | stoppingWrite | haltWrite
  | fetch
  | record | release | capture
  | notice
  | logFill | captureFill | noticeFill
  deriving DecidableEq, Repr

/-- The commands and events of spec/opcode_table.json. -/
inductive Instr where
  | startA
  | startB
  | continueRun
  | stop
  | room
  | softReset
  /-- A COMMAND write of a code that names none of the six commands (R3). -/
  | undefinedCommandCode (code : Byte)
  | anchorWrite (value : Word)
  | stateWrite (value : Word)
  | causeRead
  | irqEnableWrite (value : Word)
  | ignoredRegisterWrite (reg : IgnoredRegister) (value : Word)
  | por
  | pin
  /-- The raw level of a line becomes `level`: for the guard, true is open; for the board, true is present (R28). -/
  | rawLineChange (line : MachineLine) (level : Bool)
  | firstLevelTaken (line : MachineLine)
  | guardOpened
  | guardClosed
  | boardLost
  | boardSeated
  | linkDown
  | linkUp
  | timeStampTick
  | timeWrap
  | landed (p : ProbeNo) (tag : BitVec 4)
  | lifted (p : ProbeNo) (tag : BitVec 4)
  | parked (p : ProbeNo) (tag : BitVec 4)
  | cleaned (p : ProbeNo) (tag : BitVec 4)
  | fault (p : ProbeNo) (tag : BitVec 4) (code : Byte)
  | stopped
  | orderDeadlineExpiry (p : ProbeNo)
  | stopDeadlineExpiry
  | loadingReadComplete
  | fetchReadComplete
  | returnReleased
  | endDrained
  | pauseDrained
  | resumeReleased
  | areaWriteComplete
  | readyPoll
  | readyReadComplete
  | runWordReadComplete
  | stoppingWriteComplete
  | haltWriteComplete
  /-- The oldest outstanding request of the kind fails at its word number `words`, counted from 0 (R14). -/
  | memoryError (kind : ReqKind) (words : Nat)
  /-- A check ends; `loop` is the loop's resistance in mΩ, none for an open loop (R120). -/
  | checkEnd (p : ProbeNo) (loop : Option Nat)
  | measurementTake
  | settleElapsed
  /-- A converter sample of 4 µV per count (R135). -/
  | sample (value : BitVec 20)
  /-- The ramp reaches V_th within tick number `ticks` (R136). -/
  | rampCrossing (ticks : Nat)
  | rampTimeLimit
  /-- The Reading Calculator answers, `micros` µs after the attempt entered COMPUTING (R137, R139). -/
  | attemptJudged (micros : Nat)
  | classificationReturned
  | captureHandoff
  | captureWriteComplete
  | headTaken
  | markRemoved
  | recordWriteComplete
  | releaseReadComplete
  | releasePoll
  | noticeWriteComplete
  deriving DecidableEq, Repr

end Sys2Proof
end

