-- ==== Sys2Proof/WellFormed.lean ====
section
/-! DEFINITION. The check of a command's operands: which operand values the spec's own events can bring. The types of the
operands (a probe number below 8, a 4-bit tag, a 20-bit sample) already carry the other bounds. -/

namespace Sys2Proof

/-- The six command codes of COMMAND (spec 12.5): 1 START_A .. 6 SOFT_RESET. -/
def isCommandCode (code : Byte) : Bool := decide (1 ≤ code.toNat) && decide (code.toNat ≤ 6)

/-- A tick count of a ramp lies in 1..2,147,483,648, the range of T_max (R129, R136). -/
def isTickCount (ticks : Nat) : Bool := decide (1 ≤ ticks) && decide (ticks ≤ 2147483648)

/-- The operand check: an undefined code names no command (R3), and a crossing's tick count is one a ramp can reach
(R136). Every other operand value can arise. -/
def Instr.wellFormed : Instr → Bool
  | .undefinedCommandCode code => !isCommandCode code
  | .rampCrossing ticks => isTickCount ticks
  | .startA | .startB | .continueRun | .stop | .room | .softReset => true
  | .anchorWrite _ | .stateWrite _ | .causeRead | .irqEnableWrite _ | .ignoredRegisterWrite _ _ => true
  | .por | .pin | .rawLineChange _ _ | .firstLevelTaken _ => true
  | .guardOpened | .guardClosed | .boardLost | .boardSeated | .linkDown | .linkUp => true
  | .timeStampTick | .timeWrap => true
  | .landed _ _ | .lifted _ _ | .parked _ _ | .cleaned _ _ | .fault _ _ _ | .stopped => true
  | .orderDeadlineExpiry _ | .stopDeadlineExpiry => true
  | .loadingReadComplete | .fetchReadComplete => true
  | .returnReleased | .endDrained | .pauseDrained | .resumeReleased => true
  | .areaWriteComplete | .readyPoll | .readyReadComplete | .runWordReadComplete => true
  | .stoppingWriteComplete | .haltWriteComplete | .memoryError _ _ => true
  | .checkEnd _ _ | .measurementTake | .settleElapsed | .sample _ | .rampTimeLimit => true
  | .attemptJudged _ | .classificationReturned | .captureHandoff | .captureWriteComplete => true
  | .headTaken | .markRemoved | .recordWriteComplete | .releaseReadComplete | .releasePoll => true
  | .noticeWriteComplete => true

end Sys2Proof
end

