-- ==== Sys2Proof/Decode.lean ====
section
/-! DEFINITION. What spells a command. No row of spec/opcode_table.json has bits, so no table word spells one. The host's
commands are spelled by a write on the card bus instead: a register offset and a written word (spec 12.5). -/

namespace Sys2Proof

/-- The command that a word spells by the table's bits: none, since no row gives any. -/
def decodeTableWord (_nbits _w : Nat) : Option Instr := none

/-- The command that a code written to COMMAND gives (R3, spec 12.5). -/
def commandOfCode (code : Byte) : Instr :=
  match code.toNat with
  | 1 => .startA
  | 2 => .startB
  | 3 => .continueRun
  | 4 => .stop
  | 5 => .room
  | 6 => .softReset
  | _ => .undefinedCommandCode code

/-- The command that a host write of a word at a register offset gives; none past the six registers (R1, R2, R3, R5, R8, R9,
spec 12.5). COMMAND takes bits 7 to 0. -/
def busWrite (offset : Nat) (value : Word) : Option Instr :=
  match offset with
  | 0x00 => some (.ignoredRegisterWrite .ident value)
  | 0x04 => some (.anchorWrite value)
  | 0x08 => some (commandOfCode (value.extractLsb' 0 8))
  | 0x0C => some (.stateWrite value)
  | 0x10 => some (.ignoredRegisterWrite .cause value)
  | 0x14 => some (.irqEnableWrite value)
  | _ => none

end Sys2Proof
end

