-- ==== Sys2Proof/Config.lean ====
section
/-! DEFINITION. What is fixed for every PS-820, and the one free value of the model. The free value has no body, so no
proof can see what it is. -/

namespace Sys2Proof.Config

/-- Bytes of the shared-memory window: 32 MiB = 33,554,432 (R2, R14). -/
abbrev windowSize : Nat := 33554432

/-- The family code of the PS-820 (R1). -/
abbrev familyCode : Nat := 820

/-- The revision of the silicon the manual describes (R1). -/
abbrev revision : Nat := 1

/-- The deadline of STOP in ms (R30, R109). -/
abbrev stopDeadlineMs : Nat := 500

/-- Places in the Step Window (R74). -/
abbrev windowCapacity : Nat := 8

/-- Places in the notice request queue (R179). -/
abbrev noticeQueueSize : Nat := 16

/-- Records of the notice ring (R10). -/
abbrev noticeRingSize : Nat := 128

/-- FREE VALUE (log entry 5). How many words of its outstanding requests the Memory Port had written when a reset
abandoned them (R13): the spec leaves the number open. Applied to State.free, a fresh value for each reset. -/
opaque wordsWrittenAtReset : Nat → Nat

end Sys2Proof.Config
end

