-- ==== Sys2Proof/Machine/State.lean ====
section
/-! DEFINITION. The state of the PS-820 as plain data: the twelve blocks of the block diagram (spec 00), shared memory, and
the queue of waiting commands. Each field's docstring names the rule that gives it; State.reset is the device right after a
power-on reset (R37). Values the spec gives no reset for are marked and logged (log entry 1). -/

namespace Sys2Proof.Machine

open Sys2Proof

/-- Eight things, one per probe P0..P7. -/
structure Per (α : Type) where
  p0 : α
  p1 : α
  p2 : α
  p3 : α
  p4 : α
  p5 : α
  p6 : α
  p7 : α
  deriving DecidableEq, Repr

/-- The same thing for every probe. -/
def Per.all {α : Type} (a : α) : Per α := ⟨a, a, a, a, a, a, a, a⟩

/-! ## Names of the manual -/

/-- The nine run states (R15). -/
inductive RunState where
  | idle | starting | running | paused | chainWait | boardWait | guardHold | stopping | halted
  deriving DecidableEq, Repr

/-- The end codes (R16). -/
inductive EndCode where
  | none | finished | aborted | notReady | badAnchor | haltedByTable | doubleFault | memoryError | linkLost | boardLost
  deriving DecidableEq, Repr

/-- The two program areas (R12). -/
inductive Area where
  | a | b
  deriving DecidableEq, Repr

/-- What a BOARD_WAIT waits for: a board seated at START, at an area switch (R20), or a board change (R22). -/
inductive WaitKind where
  | seatAtStart | seatAtSwitch | change
  deriving DecidableEq, Repr

/-- The loading reads of a START (R17): the banks and the diversion entries are read one record at a time (log entry 10). -/
inductive LoadStep where
  | anchor | bank (n : Nat) | nulls | diversion (n : Nat) | wear | runWord
  deriving DecidableEq, Repr

/-- The faces of the board (R60, R96). -/
inductive Side where
  | top | bottom
  deriving DecidableEq, Repr

/-- The measurement kinds (R39). -/
inductive MeasKind where
  | res2 | res4 | cap | diode | cont
  deriving DecidableEq, Repr

/-- The five roles in slot order (R39). -/
inductive RoleName where
  | forceHi | forceLo | senseHi | senseLo | guard
  deriving DecidableEq, Repr

/-- Role states (R77). -/
inductive RoleState where
  | waiting | ordered | checking | retouching | contactOk
  deriving DecidableEq, Repr

/-- States of a mask member of a CLEAN or PARK entry (R88, R89). -/
inductive MemberState where
  | waiting | ordered | complete
  deriving DecidableEq, Repr

/-- Kinds of window entry (R75). -/
inductive EntryKind where
  | measure | skipped | mark | clean | park | programError | landingRefused
  deriving DecidableEq, Repr

/-- Entry states (R76). -/
inductive EntryState where
  | pending | ready | measuring | done | failed | skipped
  deriving DecidableEq, Repr

/-- The causes of the diversion table, codes 1..8 (R158). -/
inductive Cause where
  | measureFail | overrange | noContact | motionFault | motionTimeout | landingRefused | programError | tipService
  deriving DecidableEq, Repr

/-- The classifications of a log record (R172). -/
inductive Classification where
  | pass | failLow | failHigh | marginal | overrange | noContact | motionFault | motionTimeout | landingRefused
  | programError | skipped
  deriving DecidableEq, Repr

/-- The notice kinds, codes 1..18 (R181). -/
inductive NoticeKind where
  | stepFailed | logHalf | logWrap | logHeld | captureHalf | captureWrap | mark | paused | chainWaitEntered
  | boardWaitEntered | areaDone | divertEntered | divertReturned | serviceDue | guardOpened | guardClosed | timeWrap
  | runEnded
  deriving DecidableEq, Repr

/-- The modes of RESUME (R40). -/
inductive ResumeMode where
  | retry | next | halt
  deriving DecidableEq, Repr

/-- The actions of a diversion table entry (R159). -/
inductive DivAction where
  | continue_ | divert | halt
  deriving DecidableEq, Repr

/-! ## Interrupt sources and registers -/

/-- One flag for each of the five interrupt sources (R9, R182). -/
structure Sources where
  memoryError : Bool
  guard : Bool
  runEnd : Bool
  logHeld : Bool
  notice : Bool
  deriving DecidableEq, Repr

/-- No source. -/
def Sources.clear : Sources := ⟨false, false, false, false, false⟩

/-- The Register Window: what it keeps itself (R2, R5, R6, R7, R9). IDENT is constant and COMMAND reads 0; STATE's other
fields and CAUSE are read from the blocks that hold them. -/
structure RegWindow where
  /-- ANCHOR (R2). -/
  anchor : Word
  /-- The five enables of IRQ_ENABLE (R9). -/
  irqEnable : Sources
  /-- Reset-cause flags (R6). -/
  porFlag : Bool
  pinFlag : Bool
  softFlag : Bool
  /-- REFUSED (R7). -/
  refused : Bool
  /-- The value the last CAUSE read returned on the card bus (R8). The MODEL's own field. -/
  causeRead : Word
  deriving DecidableEq, Repr

/-! ## Settings in force -/

/-- A reach rectangle, inclusive (R10, R65). -/
structure Rect where
  xMin : Int
  xMax : Int
  yMin : Int
  yMax : Int
  deriving DecidableEq, Repr

/-- The anchor block settings in force, after clamping (R10), with the offset of the block they were read from (R2). -/
structure Settings where
  anchorBase : Nat
  pointBase : Nat
  pointCount : Nat
  limitBase : Nat
  limitCount : Nat
  groupBase : Nat
  keepOutTop : Nat
  keepOutBottom : Nat
  mapX0 : Int
  mapY0 : Int
  cell : Nat
  reachTop : Rect
  reachBottom : Rect
  dMin : Nat
  bankBase : Nat
  nullBase : Nat
  wearBase : Nat
  divBase : Nat
  logBase : Nat
  logSize : Nat
  capBase : Nat
  capSize : Nat
  noticeBase : Nat
  timeRes : Nat
  moveDeadline : Nat
  cleanDeadline : Nat
  contactOhm : Nat
  touchLimit : Nat
  missLimit : Nat
  logPasses : Bool
  logSkipped : Bool
  noticeFailures : Bool
  loadWear : Bool
  noticeMask : Word
  deriving DecidableEq, Repr

/-- The board correction in force (R61). -/
structure Correction where
  ox : Int
  oy : Int
  c : Int
  s : Int
  deriving DecidableEq, Repr

/-! ## Memory Port -/

/-- What a request asks for: a read of a number of words, or a write of words in ascending offset (R13). -/
inductive ReqBody where
  | read (words : Nat)
  | write (data : List Word)
  deriving DecidableEq, Repr

/-- An outstanding request of the Memory Port (R13). -/
structure Request where
  kind : ReqKind
  addr : Nat
  body : ReqBody
  /-- Clear once the block that made the request no longer acts on its completion (R17, R21, R23, R43, R142, R176). -/
  live : Bool
  /-- Requests with one number were made together, in one step (R13). The MODEL's own field. -/
  epoch : Nat
  deriving DecidableEq, Repr

/-- The Memory Port: its outstanding requests in the order made (R13). -/
structure Port where
  reqs : List Request
  /-- The number the requests of the present step take. The MODEL's own field. -/
  epoch : Nat
  deriving DecidableEq, Repr

/-! ## Run Controller -/

/-- A machine line and its filter (R28): the raw level, the filtered level, and whether the first level after the reset has
been taken. For the guard true is open; for the board true is present. The filter is timing exactly while the raw level
differs from the filtered one or the first level is awaited. -/
structure Line where
  raw : Bool
  filtered : Bool
  taken : Bool
  deriving DecidableEq, Repr

/-- The five area summary counters (R35). -/
structure Summary where
  logged : Nat
  passed : Nat
  failed : Nat
  skipped : Nat
  stale : Nat
  deriving DecidableEq, Repr

/-- The area-completion writes of R21: the one in flight, the AREA_DONE notice, and the move that follows it. -/
inductive AreaPhase where
  | summary | ready | doneCount | notice | move
  deriving DecidableEq, Repr

/-- The closing writes of R26 and R27: a wear record, the summary, the RUN_ENDED notice. -/
inductive ClosePhase where
  | wear (p : Nat) | summary | notice
  deriving DecidableEq, Repr

/-- The writes of one HALTED entry that are still to be made, with what was fixed at the entry (R27). -/
structure HaltSeq where
  phase : ClosePhase
  wearBase : Nat
  runWordAddr : Nat
  underWay : Bool
  summary : Summary
  endCode : EndCode
  causes : Word
  deriving DecidableEq, Repr

/-- Whether the Run Controller has parked a probe in the present STOPPING or board change (R22, R25). -/
inductive ParkMark where
  | none | issued | failed
  deriving DecidableEq, Repr

/-- The Run Controller. -/
structure RunControl where
  /-- Run state (R15). -/
  run : RunState
  /-- Remembered state (R15). -/
  remembered : RunState
  /-- End code (R16). -/
  endCode : EndCode
  /-- Current area (R5). -/
  area : Area
  /-- Time stamp counter (R34). -/
  time : Word
  /-- Area summary counters (R35). -/
  summary : Summary
  /-- The guard line; true is open (R28). -/
  guardLine : Line
  /-- The board-seated line; true is present (R28). -/
  boardLine : Line
  /-- FOLLOW and BOARD_CHANGE as recorded for the current area (R18, R23). -/
  follow : Bool
  boardChange : Bool
  /-- Main list offset of the current area (R18, R23). -/
  mainList : Nat
  /-- Done count read with the run word (R21). -/
  doneCount : Word
  /-- STOPPED-received mark (R30). -/
  stoppedReceived : Bool
  /-- Seen-absent flag of a board change (R22). -/
  seenAbsent : Bool
  /-- What the BOARD_WAIT in force waits for (R20, R22). -/
  waitKind : WaitKind
  /-- A run is under way (R15). -/
  underWay : Bool
  /-- The filtered guard level has read open in this STARTING (R18). -/
  guardSeenOpen : Bool
  /-- The loading read in flight (R17). -/
  loadStep : Option LoadStep
  /-- The settings in force were taken by a loading whose checks of R17 passed (R36). -/
  loadedGood : Bool
  /-- Area completion in progress (R21). -/
  areaSeq : Option AreaPhase
  /-- STOPPING completion in progress (R26). -/
  stopSeq : Option ClosePhase
  /-- HALTED-entry writes in progress, oldest entry first (R27). -/
  haltSeqs : List HaltSeq
  /-- The end code STOPPING will set (R25, R26). -/
  pendingEnd : EndCode
  /-- The second parameter of RUN_ENDED for the halt in force (R181). -/
  endCauses : Word
  /-- Parking done by the Run Controller itself (R22, R25). -/
  parking : Per ParkMark
  /-- The guard has changed to open during this STOPPING (R26). -/
  parkGivenUp : Bool
  /-- A ROOM asked for a second READY read after the one in flight (R4). -/
  readyAgain : Bool
  deriving DecidableEq, Repr

/-! ## Test programs and the Program Fetcher -/

/-- One frame of the call stack (R41). -/
structure Frame where
  list : Nat
  index : Nat
  dx : Int
  dy : Int
  board : Nat
  deriving DecidableEq, Repr

/-- The held entry (R47). -/
inductive HeldEntry where
  | ret | endOfArea | pause | resume (mode : ResumeMode)
  deriving DecidableEq, Repr

/-- A point record as read (R60). -/
structure PointRec where
  x : Int
  y : Int
  side : Byte
  net : Nat
  pad : Nat
  deriving DecidableEq, Repr

/-- A limit record (R154). -/
inductive LimitRec where
  | abs (lo hi : Int)
  | nomtol (nominal : Int) (tl th : Nat)
  | cont (shortMax openMin : Nat) (expectIsolated : Bool)
  deriving DecidableEq, Repr

/-- The transaction in flight: the reads of R42 made so far, with the words they returned. -/
inductive Txn where
  | entry
  | group (ws : List Word)
  | points (ws : List Word) (pts : List PointRec)
  | limit (ws : List Word) (pts : List PointRec)
  | keepOut (ws : List Word) (pts : List PointRec) (lim : Option LimitRec) (role : Nat)
  deriving DecidableEq, Repr

/-- The Program Fetcher (R41). -/
structure Fetcher where
  /-- Fetch position. -/
  list : Nat
  index : Nat
  /-- Fetch-area flag: set for RECOVERY. -/
  recovery : Bool
  /-- Call stack, innermost last. -/
  stack : List Frame
  /-- Current bank (R50). -/
  bank : Nat
  held : Option HeldEntry
  txn : Option Txn
  /-- The fetcher has been stopped and has not been started again (R25, R27, R48). -/
  stopped : Bool
  deriving DecidableEq, Repr

/-! ## Step Window -/

/-- The origin of a window entry: area A, area B or recovery (R58). -/
inductive OriginArea where
  | a | b | recovery
  deriving DecidableEq, Repr

/-- An origin (R58). -/
structure Origin where
  area : OriginArea
  list : Nat
  index : Nat
  deriving DecidableEq, Repr

/-- A snapshot (R58). -/
structure Snapshot where
  origin : Origin
  depth : Nat
  bank : Nat
  deriving DecidableEq, Repr

/-- A role slot as written in the program entry: its present flag, probe number byte and point index (R39, R54). -/
structure RoleSlot where
  present : Bool
  probe : Byte
  point : Word
  deriving DecidableEq, Repr

/-- A role of a MEASURE entry (R75). -/
structure Role where
  name : RoleName
  probe : ProbeNo
  point : Nat
  x : Int
  y : Int
  side : Side
  net : Nat
  pad : Nat
  state : RoleState
  retouches : Nat
  deriving DecidableEq, Repr

/-- A mask member of a CLEAN or PARK entry (R75). -/
structure Member where
  probe : ProbeNo
  state : MemberState
  deriving DecidableEq, Repr

/-- The results of a completed measurement (R75, R87). -/
structure Reading where
  value : Int
  range : Nat
  changes : Nat
  rangeLimited : Bool
  overrange : Bool
  cls : Classification
  /-- Time stamp at measurement start. -/
  start : Word
  /-- Duration in µs. -/
  duration : Nat
  /-- Capture reference: offset and sample count. -/
  capture : Option (Nat × Nat)
  deriving DecidableEq, Repr

/-- A window entry (R75). -/
structure Entry where
  /-- Tells entries of one origin apart (R74). The MODEL's own field. -/
  uid : Nat
  snap : Snapshot
  board : Nat
  kind : EntryKind
  state : EntryState
  cause : Option Cause
  detail : Nat
  /-- Kind byte of the program entry, as read. -/
  entryByte : Byte
  /-- Measurement kind byte, as read. -/
  measByte : Byte
  slots : List RoleSlot
  roles : List Role
  members : List Member
  mask : Byte
  cycles : Nat
  markValue : Word
  /-- Net numbers of the points read, in slot order; the first is the force-hi point's (R52, R57). -/
  nets : List Nat
  limit : Option LimitRec
  bank : Nat
  capture : Bool
  result : Option Reading
  deriving DecidableEq, Repr

/-! ## Probes and the motion link -/

/-- Probe states (R96, R97). -/
inductive ProbeState where
  | unknown | parked | moving | landed | lifting | lifted | parking | cleaning | faulted
  deriving DecidableEq, Repr

/-- A per-probe order as sent on the link; its tag is the probe's order tag (R99, R100). -/
inductive Order where
  | move (x y : Int)
  | retouch (x y : Int)
  | lift
  | park
  | clean (cycles : Nat)
  deriving DecidableEq, Repr

/-- A record of the Probe Table (R96). The deadline is the span in ms started with the order (R100). -/
structure Probe where
  state : ProbeState
  pos : Option (Int × Int)
  order : Option Order
  verified : Bool
  tag : BitVec 4
  deadline : Option Nat
  touch : Nat
  miss : Nat
  due : Bool
  faultCode : Byte
  deriving DecidableEq, Repr

/-- The Motion Link Controller: the Probe Table, the STOP state with its deadline in ms, and the link status (R96, R109,
R111). -/
structure MotionLink where
  probes : Per Probe
  stop : Option Nat
  up : Bool
  /-- The probes whose orders are outstanding, in the order in which the orders were taken, which is the order in which they
  are sent on the link (R99). -/
  sent : List ProbeNo
  deriving DecidableEq, Repr

/-! ## Contact Checker -/

/-- A check record (R118). -/
structure CheckRec where
  /-- The requesting role: its entry and its place among the entry's roles. -/
  entry : Nat
  role : Nat
  landingTag : BitVec 4
  firstTouch : Bool
  deriving DecidableEq, Repr

/-- A check slot (R118): IDLE with neither, DEFERRED with only a held record, RUNNING with a running one. -/
structure CheckSlot where
  running : Option CheckRec
  held : Option CheckRec
  deriving DecidableEq, Repr

/-! ## Measurement Unit -/

/-- A settings bank with the two values formed at load (R129). -/
structure Bank where
  k : Nat
  settle : Nat
  start : Nat
  floor : Nat
  ceiling : Nat
  autoEnable : Bool
  maxChanges : Nat
  vth : Nat
  tMax : Nat
  retouchLimit : Nat
  autoInForce : Bool
  startInForce : Nat
  deriving DecidableEq, Repr

/-- The unit states other than IDLE (R131); COMPUTING is told apart by what is awaited: the judgement, the classification,
the taking of the capture hand-off by the logger, its writes. -/
inductive UnitPhase where
  | settling | acquiring | judging | classifying | handoff | captureWriting
  deriving DecidableEq, Repr

/-- The current attempt (R131). -/
structure Attempt where
  samples : List Int
  sum : Int
  saturated : Bool
  ticks : Nat
  crossed : Bool
  deriving DecidableEq, Repr

/-- The step record (R131). -/
structure StepRec where
  phase : UnitPhase
  entry : Nat
  kind : MeasKind
  bank : Nat
  hi : ProbeNo
  lo : ProbeNo
  hasGuard : Bool
  range : Nat
  tried : List Nat
  changes : Nat
  start : Word
  /-- The unit's own time since the take, in 10 ns ticks; its microsecond count is a hundredth of it (R131, R139). -/
  elapsed : Nat
  attempt : Attempt
  rangeLimited : Bool
  /-- What the classification returned, while the capture hand-off is awaited (R139). -/
  final : Option (Int × Classification × Bool)
  deriving DecidableEq, Repr

/-- The Measurement Unit and its front end (R129..R132). No step record is the unit state IDLE. -/
structure MeasUnit where
  banks : List Bank
  resNull : Per (Per Nat)
  capNull : Per (Per Nat)
  step : Option StepRec
  sourceOn : Bool
  guardOn : Bool
  deriving DecidableEq, Repr

/-! ## Diversion Unit -/

/-- An entry of the diversion table (R159). -/
structure DivEntry where
  action : DivAction
  list : Nat
  bank : Nat
  budget : Nat
  exhausted : DivAction
  deriving DecidableEq, Repr

/-- The Diversion Unit (R160). The active flag is the DIVERTED flag of STATE. -/
structure DivUnit where
  table : Per DivEntry
  active : Bool
  returnPoint : Option Snapshot
  /-- Return kind: set for AFTER, clear for AT_OR_AFTER. -/
  returnAfter : Bool
  savedBank : Nat
  firstCause : Option Cause
  secondCause : Option Cause
  retryCount : Nat
  retryOrigin : Option Origin
  deriving DecidableEq, Repr

/-! ## Result Logger and Notice Unit -/

/-- The Result Logger (R171). -/
structure Logger where
  fill : Nat
  release : Nat
  nextSeq : Nat
  capFill : Nat
  busy : Bool
  held : Bool
  /-- The head has failed the room test and the release read made for it has not returned (R176). -/
  waiting : Bool
  /-- How many release reads made before that read, by ROOM, have not returned: their values are taken, and the room test
  waits for its own read (R176). -/
  ahead : Nat
  /-- A ROOM asked for a second release read after the one in flight (R4). -/
  readAgain : Bool
  /-- The sequence number of the record being written (R175, R177). -/
  writingSeq : Nat
  deriving DecidableEq, Repr

/-- What waits for a notice to be written (R21, R26, R27). The MODEL's own. -/
inductive NoticeMark where
  | plain | area | stopping | halt
  deriving DecidableEq, Repr

/-- A notice request (R180). -/
structure Notice where
  kind : NoticeKind
  first : Word
  second : Word
  time : Word
  mark : NoticeMark
  deriving DecidableEq, Repr

/-- The Notice Unit (R179). -/
structure NoticeUnit where
  inForce : Bool
  base : Nat
  fill : Nat
  wrap : Nat
  queue : List Notice
  /-- Requests held at the blocks that made them, in the order made (R180). -/
  held : List Notice
  pend : Sources
  deriving DecidableEq, Repr

/-! ## The whole device -/

/-- The PS-820, its shared memory, and the commands that wait. -/
structure State where
  /-- The commands that are waiting, first in, first out. The MODEL's own field. -/
  pending : List Instr
  /-- Shared memory: the listed bytes, addresses strictly rising, none equal to 0 (log entry 3). -/
  mem : List Host.Cell
  regs : RegWindow
  settings : Settings
  corr : Correction
  port : Port
  rc : RunControl
  fetch : Fetcher
  window : List Entry
  /-- The number the next window entry takes. The MODEL's own field. -/
  nextUid : Nat
  link : MotionLink
  checks : Per CheckSlot
  unit : MeasUnit
  div : DivUnit
  log : Logger
  notice : NoticeUnit
  /-- How many free values have been taken. The MODEL's own field (log entry 5). -/
  free : Nat
  deriving DecidableEq, Repr

/-- No command of the PS-820 ends in a fault: what goes wrong at the device (a memory error, a motion fault) is a state the
spec describes, and the device goes on. Safe: nothing is cut short. -/
inductive Fault where
  deriving DecidableEq, Repr

/-- Why a command would have no meaning. No arm of exec answers with it. -/
inductive Refusal where
  /-- Raised by an arm of exec whose command has no meaning yet; there is none. Safe. -/
  | notModelled (mnemonic : String)
  deriving DecidableEq, Repr

/-! ## Reset values -/

/-- A rectangle that contains no point (R61). -/
def Rect.empty : Rect := ⟨0, -1, 0, -1⟩

/-- The settings after a reset: the values of R34, R61 and R118, and for the rest the least value of each setting's range
(log entry 1). -/
def Settings.reset : Settings where
  anchorBase := 0
  pointBase := 0
  pointCount := 0
  limitBase := 0
  limitCount := 0
  groupBase := 0
  keepOutTop := 0
  keepOutBottom := 0
  mapX0 := 0
  mapY0 := 0
  cell := 100
  reachTop := Rect.empty
  reachBottom := Rect.empty
  dMin := 0
  bankBase := 0
  nullBase := 0
  wearBase := 0
  divBase := 0
  logBase := 0
  logSize := 64
  capBase := 0
  capSize := 4096
  noticeBase := 0
  timeRes := 0
  moveDeadline := 1
  cleanDeadline := 1
  contactOhm := 1000
  touchLimit := 0
  missLimit := 0
  logPasses := false
  logSkipped := false
  noticeFailures := false
  loadWear := false
  noticeMask := 0

/-- The correction after a reset (R61). -/
def Correction.reset : Correction := ⟨0, 0, 1073741824, 0⟩

/-- A filter that restarts over the raw level: the filtered level reads `lvl` until the first level is taken (R28). -/
def Line.restart (raw lvl : Bool) : Line := ⟨raw, lvl, false⟩

/-- All five counters 0 (R19, R35). -/
def Summary.zero : Summary := ⟨0, 0, 0, 0, 0⟩

/-- The Run Controller after a reset (R15, R16, R28, R30, R34, R35, R37). The raw levels come from the machine: open and
absent here (log entry 1). -/
def RunControl.reset : RunControl where
  run := .idle
  remembered := .idle
  endCode := .none
  area := .a
  time := 0
  summary := Summary.zero
  guardLine := Line.restart true true
  boardLine := Line.restart false false
  follow := false
  boardChange := false
  mainList := 0
  doneCount := 0
  stoppedReceived := false
  seenAbsent := false
  waitKind := .seatAtStart
  underWay := false
  guardSeenOpen := false
  loadStep := none
  loadedGood := false
  areaSeq := none
  stopSeq := none
  haltSeqs := []
  pendingEnd := .none
  endCauses := 0
  parking := Per.all .none
  parkGivenUp := false
  readyAgain := false

/-- The Program Fetcher after a reset (R41). -/
def Fetcher.reset : Fetcher where
  list := 0
  index := 0
  recovery := false
  stack := []
  bank := 0
  held := none
  txn := none
  stopped := true

/-- A probe record after POR or PIN (R98). -/
def Probe.reset : Probe where
  state := .unknown
  pos := none
  order := none
  verified := false
  tag := 0
  deadline := none
  touch := 0
  miss := 0
  due := false
  faultCode := 0

/-- A settings bank after a reset (R129). -/
def Bank.reset : Bank where
  k := 0
  settle := 0
  start := 6
  floor := 6
  ceiling := 6
  autoEnable := false
  maxChanges := 0
  vth := 1000
  tMax := 1
  retouchLimit := 0
  autoInForce := false
  startInForce := 6

/-- The Measurement Unit after a reset (R129, R130, R131). -/
def MeasUnit.reset : MeasUnit where
  banks := [Bank.reset, Bank.reset, Bank.reset, Bank.reset]
  resNull := Per.all (Per.all 0)
  capNull := Per.all (Per.all 0)
  step := none
  sourceOn := false
  guardOn := false

/-- A diversion table entry after a reset (R159). -/
def DivEntry.reset : DivEntry := ⟨.halt, 0, 0, 0, .halt⟩

/-- The Diversion Unit after a reset (R160). -/
def DivUnit.reset : DivUnit where
  table := Per.all DivEntry.reset
  active := false
  returnPoint := none
  returnAfter := false
  savedBank := 0
  firstCause := none
  secondCause := none
  retryCount := 0
  retryOrigin := none

/-- The Result Logger after a reset (R171). -/
def Logger.reset : Logger where
  fill := 0
  release := 0
  nextSeq := 1
  capFill := 0
  busy := false
  held := false
  waiting := false
  ahead := 0
  readAgain := false
  writingSeq := 0

/-- The Notice Unit after a reset (R179). -/
def NoticeUnit.reset : NoticeUnit where
  inForce := false
  base := 0
  fill := 0
  wrap := 0
  queue := []
  held := []
  pend := Sources.clear

/-- The Register Window after a POR reset (R2, R6, R7, R9). -/
def RegWindow.reset : RegWindow where
  anchor := 0
  irqEnable := Sources.clear
  porFlag := true
  pinFlag := false
  softFlag := false
  refused := false
  causeRead := 0

/-- The device right after a power-on reset (R37), the link down and memory with nothing listed (log entry 1). -/
def State.reset : State where
  pending := []
  mem := []
  regs := RegWindow.reset
  settings := Settings.reset
  corr := Correction.reset
  port := ⟨[], 0⟩
  rc := RunControl.reset
  fetch := Fetcher.reset
  window := []
  nextUid := 0
  link := ⟨Per.all Probe.reset, none, false, []⟩
  checks := Per.all ⟨none, none⟩
  unit := MeasUnit.reset
  div := DivUnit.reset
  log := Logger.reset
  notice := NoticeUnit.reset
  free := 0

end Sys2Proof.Machine
end

