-- ==== Sys2Proof/Machine/Ops.lean ====
section
/-! DEFINITION. The shared operations: access by probe number, shared memory, the Memory Port, the interrupt sources and the
notice queue. Every block of the device that reads or writes shared memory, or reports an event, does it through these. -/

namespace Sys2Proof.Machine

open Sys2Proof

/-! ## One thing per probe -/

/-- The thing of probe `p`. -/
def Per.get {α : Type} (x : Per α) (p : ProbeNo) : α :=
  match p with
  | 0 => x.p0
  | 1 => x.p1
  | 2 => x.p2
  | 3 => x.p3
  | 4 => x.p4
  | 5 => x.p5
  | 6 => x.p6
  | 7 => x.p7

/-- `x` with probe `p`'s thing replaced. -/
def Per.set {α : Type} (x : Per α) (p : ProbeNo) (a : α) : Per α :=
  match p with
  | 0 => { x with p0 := a }
  | 1 => { x with p1 := a }
  | 2 => { x with p2 := a }
  | 3 => { x with p3 := a }
  | 4 => { x with p4 := a }
  | 5 => { x with p5 := a }
  | 6 => { x with p6 := a }
  | 7 => { x with p7 := a }

/-- Every probe's thing changed by `f`. -/
def Per.map {α β : Type} (f : α → β) (x : Per α) : Per β :=
  ⟨f x.p0, f x.p1, f x.p2, f x.p3, f x.p4, f x.p5, f x.p6, f x.p7⟩

/-- The table whose entry for probe `p` is `f p`. -/
def Per.make {α : Type} (f : ProbeNo → α) : Per α := ⟨f 0, f 1, f 2, f 3, f 4, f 5, f 6, f 7⟩

/-- The probes in probe order, P0 first. -/
def allProbes : List ProbeNo := [0, 1, 2, 3, 4, 5, 6, 7]

/-- The side a probe works (R96). -/
def probeSide (p : ProbeNo) : Side := if p.val < 4 then .top else .bottom

/-- The probe number made of the low three bits of a number. -/
def probeOfNat (n : Nat) : ProbeNo := ⟨n % 8, Nat.mod_lt n (by decide)⟩

/-! ## Shared memory -/

/-- A byte of shared memory; an unlisted byte reads 0 (log entry 3). -/
def memByte : List Host.Cell → Nat → Byte
  | [], _ => 0
  | (a, b) :: t, x => if x = a then b else memByte t x

/-- Shared memory with the byte at `x` written, in canonical form. -/
def memSet : List Host.Cell → Nat → Byte → List Host.Cell
  | [], x, v => if v = 0 then [] else [(x, v)]
  | (a, b) :: t, x, v =>
    if x < a then (if v = 0 then (a, b) :: t else (x, v) :: (a, b) :: t)
    else if x = a then (if v = 0 then t else (x, v) :: t)
    else (a, b) :: memSet t x v

/-- Every listed address is at or above `lo`, addresses rise strictly, and no listed byte is 0. -/
def memWfFrom : Nat → List Host.Cell → Bool
  | _, [] => true
  | lo, (a, b) :: t => decide (lo ≤ a) && decide (b ≠ 0) && memWfFrom (a + 1) t

/-- The canonical form of shared memory. -/
def Memory.wf (m : List Host.Cell) : Bool := memWfFrom 0 m

/-- Byte `n` (0 the least significant) of a word. -/
def wordByte (w : Word) (n : Nat) : Byte := w.extractLsb' (8 * n) 8

/-- The word at offset `x`, little-endian (spec 00, Shared memory). -/
def memWord (m : List Host.Cell) (x : Nat) : Word :=
  memByte m (x + 3) ++ memByte m (x + 2) ++ memByte m (x + 1) ++ memByte m x

/-- Shared memory with the word at offset `x` written, little-endian. -/
def memSetWord (m : List Host.Cell) (x : Nat) (w : Word) : List Host.Cell :=
  memSet (memSet (memSet (memSet m x (wordByte w 0)) (x + 1) (wordByte w 1)) (x + 2) (wordByte w 2)) (x + 3) (wordByte w 3)

/-- `n` words from offset `x` up. -/
def memWords (m : List Host.Cell) (x : Nat) : Nat → List Word
  | 0 => []
  | n + 1 => memWord m x :: memWords m (x + 4) n

/-- Shared memory with consecutive words written from offset `x` up. -/
def memSetWords (m : List Host.Cell) (x : Nat) : List Word → List Host.Cell
  | [] => m
  | w :: ws => memSetWords (memSetWord m x w) (x + 4) ws

/-- What the host's own write of a word does between two commands (R11, R12). The table has no row for it (log entry 4);
it stands here so that statements can speak of it. -/
def hostWriteWord (x : Nat) (w : Word) (s : State) : State := { s with mem := memSetWord s.mem x w }

/-! ## The Memory Port -/

/-- The blocks that make requests (R13). -/
inductive Block where
  | runController | fetcher | logger | noticeUnit
  deriving DecidableEq, Repr

/-- The block that makes a request of the kind. -/
def reqBlock : ReqKind → Block
  | .loading | .ready | .runWord | .areaWrite | .stoppingWrite | .haltWrite => .runController
  | .fetch => .fetcher
  | .record | .release | .capture | .logFill | .captureFill => .logger
  | .notice | .noticeFill => .noticeUnit

/-- The fill-word writes of R11: no block waits for their completion. -/
def isFillWord : ReqKind → Bool
  | .logFill | .captureFill | .noticeFill => true
  | .loading | .ready | .runWord | .areaWrite | .stoppingWrite | .haltWrite => false
  | .fetch | .record | .release | .capture | .notice => false

/-- How many words a request covers. -/
def Request.words (r : Request) : Nat :=
  match r.body with
  | .read n => n
  | .write ws => ws.length

/-- No word of the request lies at or above 33,554,432 (R14). -/
def Request.inWindow (r : Request) : Bool := decide (r.addr + 4 * r.words ≤ Config.windowSize)

/-- A block makes a request (R13). -/
def issue (k : ReqKind) (addr : Nat) (body : ReqBody) (s : State) : State :=
  { s with port := { s.port with reqs := s.port.reqs ++ [⟨k, addr, body, true, s.port.epoch⟩] } }

/-- The first outstanding request of the kind, with the requests before and after it. -/
def splitReq (k : ReqKind) : List Request → Option (List Request × Request × List Request)
  | [] => none
  | r :: rs =>
    if r.kind = k then some ([], r, rs)
    else
      match splitReq k rs with
      | none => none
      | some (before, x, after) => some (r :: before, x, after)

/-- A request may be served once every older one has been, where requests of different blocks made together go in either
order and fill words are served in passing (R13). -/
def mayServe (before : List Request) (r : Request) : Bool :=
  before.all fun q => isFillWord q.kind || (decide (q.epoch = r.epoch) && decide (reqBlock q.kind ≠ reqBlock r.kind))

/-- What a served request does to memory. -/
def performReq (m : List Host.Cell) (r : Request) : List Host.Cell :=
  match r.body with
  | .read _ => m
  | .write ws => if r.inWindow then memSetWords m r.addr ws else m

/-- The fill words among some requests, written in order. -/
def performFills (m : List Host.Cell) : List Request → List Host.Cell
  | [] => m
  | r :: rs => performFills (if isFillWord r.kind then performReq m r else m) rs

/-- The requests of a list that are not fill words. -/
def withoutFills (rs : List Request) : List Request := rs.filter fun r => !isFillWord r.kind

/-- The words a served read returns. -/
def readData (m : List Host.Cell) (r : Request) : List Word :=
  match r.body with
  | .read n => memWords m r.addr n
  | .write _ => []

/-- The oldest request of the kind completes: the request, the words read, and the state after (R13). None where no such
request is outstanding, where an older one must be served first, or where the request lies outside the window. -/
def serve (k : ReqKind) (s : State) : Option (Request × List Word × State) :=
  match splitReq k s.port.reqs with
  | none => none
  | some (before, r, after) =>
    if mayServe before r && r.inWindow then
      let m := performFills s.mem before
      some (r, readData m r, { s with
        mem := performReq m r
        port := { s.port with reqs := withoutFills before ++ after } })
    else none

/-- The oldest request of the kind ends in a memory error at its word number `n` (R14): a write leaves the words before the
failed one written, and none where the request lies outside the window; a read returns no data. Answers the request and the
state after. -/
def serveFailing (k : ReqKind) (n : Nat) (s : State) : Option (Request × State) :=
  match splitReq k s.port.reqs with
  | none => none
  | some (before, r, after) =>
    if mayServe before r then
      let m := performFills s.mem before
      let done := if r.inWindow then min n (r.words - 1) else 0
      let m' := match r.body with
        | .read _ => m
        | .write ws => memSetWords m r.addr (ws.take done)
      some (r, { s with
        mem := m'
        port := { s.port with reqs := withoutFills before ++ after } })
    else none

/-- The block that made requests of the kind no longer acts on their completion. -/
def dropReqs (k : ReqKind) (s : State) : State :=
  { s with port := { s.port with
      reqs := s.port.reqs.map fun r => if r.kind = k then { r with live := false } else r } }

/-- A request of the kind is outstanding whose block still acts on it. -/
def hasLive (k : ReqKind) (s : State) : Bool := s.port.reqs.any fun r => decide (r.kind = k) && r.live

/-- How many requests of the kind are outstanding whose block still acts on them. -/
def countLive (k : ReqKind) (s : State) : Nat := s.port.reqs.countP fun r => decide (r.kind = k) && r.live

/-- A request of the kind is outstanding. -/
def hasReq (k : ReqKind) (s : State) : Bool := s.port.reqs.any fun r => decide (r.kind = k)

/-- What a reset leaves of the outstanding requests when `n` words had been written (R13): fill words in passing, and the
words before the cut of the first request whose completion a block awaits. -/
def abandonWrites (m : List Host.Cell) (n : Nat) : List Request → List Host.Cell
  | [] => m
  | r :: rs =>
    match r.body with
    | .read _ => m
    | .write ws =>
      if isFillWord r.kind && decide (ws.length ≤ n) then abandonWrites (performReq m r) (n - ws.length) rs
      else if r.inWindow then memSetWords m r.addr (ws.take n) else m

/-- The port serves its oldest request when that is a fill word, whose completion no command reports (log entry 6). -/
def serveFillWord (s : State) : State :=
  match s.port.reqs with
  | [] => s
  | r :: rs =>
    if isFillWord r.kind then { s with mem := performReq s.mem r, port := { s.port with reqs := rs } }
    else s

/-- The requests of the step that ends are numbered; the next step's requests take the next number (R13). -/
def sealPort (s : State) : State :=
  if s.port.reqs.any (fun r => decide (r.epoch = s.port.epoch)) then
    { s with port := { s.port with epoch := s.port.epoch + 1 } }
  else s

/-! ## Interrupt sources (R182) -/

/-- The MEMORY_ERROR source is made pending (R14). -/
def pendMemoryError (s : State) : State :=
  { s with notice := { s.notice with pend := { s.notice.pend with memoryError := true } } }

/-- The GUARD source is made pending (R28). -/
def pendGuard (s : State) : State :=
  { s with notice := { s.notice with pend := { s.notice.pend with guard := true } } }

/-- The RUN_END source is made pending (R18, R26, R27). -/
def pendRunEnd (s : State) : State :=
  { s with notice := { s.notice with pend := { s.notice.pend with runEnd := true } } }

/-- The LOG_HELD source is made pending (R176). -/
def pendLogHeld (s : State) : State :=
  { s with notice := { s.notice with pend := { s.notice.pend with logHeld := true } } }

/-- The NOTICE source is made pending (R180). -/
def pendNotice (s : State) : State :=
  { s with notice := { s.notice with pend := { s.notice.pend with notice := true } } }

/-! ## Notices (R179..R181) -/

/-- The code of a notice kind (R181). -/
def NoticeKind.code : NoticeKind → Nat
  | .stepFailed => 1
  | .logHalf => 2
  | .logWrap => 3
  | .logHeld => 4
  | .captureHalf => 5
  | .captureWrap => 6
  | .mark => 7
  | .paused => 8
  | .chainWaitEntered => 9
  | .boardWaitEntered => 10
  | .areaDone => 11
  | .divertEntered => 12
  | .divertReturned => 13
  | .serviceDue => 14
  | .guardOpened => 15
  | .guardClosed => 16
  | .timeWrap => 17
  | .runEnded => 18

/-- The four words of a notice record (spec 12.4). -/
def noticeWords (n : Notice) : List Word := [BitVec.ofNat 32 n.kind.code, n.first, n.second, n.time]

/-- The unit begins the write of its oldest request, unless one is being written (R180). -/
def startNotice (s : State) : State :=
  if hasLive .notice s then s
  else
    match s.notice.queue with
    | [] => s
    | n :: _ => issue .notice (s.notice.base + 16 * s.notice.fill) (.write (noticeWords n)) s

/-- Held requests take the free places of the queue in the order they were made (R180). -/
def refillNotices (s : State) : State :=
  let room := Config.noticeQueueSize - s.notice.queue.length
  { s with notice := { s.notice with
      queue := s.notice.queue ++ s.notice.held.take room
      held := s.notice.held.drop room } }

/-- A block requests a notice (R179, R180): discarded while the ring is not in force, else queued, or held when 16 are
queued, with the time stamp of the request. -/
def requestNotice (k : NoticeKind) (first second : Word) (mark : NoticeMark) (s : State) : State :=
  if !s.notice.inForce then s
  else
    let n : Notice := ⟨k, first, second, s.rc.time, mark⟩
    if s.notice.queue.length < Config.noticeQueueSize then
      startNotice { s with notice := { s.notice with queue := s.notice.queue ++ [n] } }
    else { s with notice := { s.notice with held := s.notice.held ++ [n] } }

/-- The notice fill word: bits 15–0 the index, bits 31–16 the wrap count (spec 12.1). -/
def noticeFillWord (fill wrap : Nat) : Word := BitVec.ofNat 32 (fill + 65536 * wrap)

/-- Nothing waits for a queued notice any more. -/
def clearNoticeMarks (s : State) : State :=
  { s with notice := { s.notice with
      queue := s.notice.queue.map fun n => { n with mark := .plain }
      held := s.notice.held.map fun n => { n with mark := .plain } } }

/-- The ring comes into force (R179): fill index and wrap count 0, queued requests discarded, the fill word written. -/
def ringIntoForce (s : State) : State :=
  let s1 := dropReqs .notice { s with notice := { s.notice with
      inForce := true, base := s.settings.noticeBase, fill := 0, wrap := 0, queue := [] } }
  startNotice (refillNotices (issue .noticeFill (s.settings.anchorBase + 0x10C) (.write [noticeFillWord 0 0]) s1))

/-- The ring goes out of force and the queued requests are discarded (R179). -/
def ringOutOfForce (s : State) : State :=
  dropReqs .notice { s with notice := { s.notice with inForce := false, queue := [], held := [] } }

/-! ## Places of the anchor block (spec 12.1) -/

/-- Offset of the run word of an area. -/
def runWordAddr (base : Nat) : Area → Nat
  | .a => base + 0x200
  | .b => base + 0x240

/-- The other area. -/
def Area.other : Area → Area
  | .a => .b
  | .b => .a

/-- The guard reads open (R28). -/
def guardOpen (s : State) : Bool := s.rc.guardLine.filtered

/-- A board reads present (R28). -/
def boardPresent (s : State) : Bool := s.rc.boardLine.filtered

/-- A stale report is counted (R35, R103). -/
def countStale (s : State) : State :=
  { s with rc := { s.rc with summary := { s.rc.summary with stale := satSucc s.rc.summary.stale } } }

end Sys2Proof.Machine
end

