-- ==== Sys2Proof/Machine/Operands.lean ====
section
/-! DEFINITION. Taking the fields of shared-memory structures from the words read, with the clamping of each mechanism, and
laying out the records the device writes (spec 12, R183, R184). -/

namespace Sys2Proof.Machine

open Sys2Proof

/-! ## Fields of the words of a structure -/

/-- The word at byte offset `off`. -/
def fieldWord (ws : List Word) (off : Nat) : Word := ws.getD (off / 4) 0

/-- The word at byte offset `off`, unsigned. -/
def fieldNat (ws : List Word) (off : Nat) : Nat := (fieldWord ws off).toNat

/-- The word at byte offset `off`, signed. -/
def fieldInt (ws : List Word) (off : Nat) : Int := (fieldWord ws off).toInt

/-- The byte at byte offset `off`. -/
def fieldByte (ws : List Word) (off : Nat) : Byte := wordByte (fieldWord ws off) (off % 4)

/-- The 16 bits at byte offset `off`. -/
def fieldHalf (ws : List Word) (off : Nat) : Nat := (fieldByte ws (off + 1) ++ fieldByte ws off).toNat

/-- The signed 64-bit field at byte offset `off`, low word first. -/
def fieldInt64 (ws : List Word) (off : Nat) : Int := (fieldWord ws (off + 4) ++ fieldWord ws off).toInt

/-- A flag: bit 0 of its byte. -/
def fieldFlag (ws : List Word) (off : Nat) : Bool := (fieldByte ws off).getLsbD 0

/-- A setting clamped to `lo..hi` (spec 00, Settings and clamping). -/
def clampNat (lo hi n : Nat) : Nat := max lo (min hi n)

/-- A signed value clamped to `lo..hi`. -/
def clampInt (lo hi n : Int) : Int := max lo (min hi n)

/-! ## The anchor block (R10) -/

/-- The settings in force from the words of the anchor block at `base`, clamped (R10). -/
def parseSettings (base : Nat) (ws : List Word) : Settings where
  anchorBase := base
  pointBase := fieldNat ws 0x000
  pointCount := clampNat 0 262144 (fieldNat ws 0x004)
  limitBase := fieldNat ws 0x008
  limitCount := clampNat 0 65535 (fieldNat ws 0x00C)
  groupBase := fieldNat ws 0x010
  keepOutTop := fieldNat ws 0x014
  keepOutBottom := fieldNat ws 0x018
  mapX0 := fieldInt ws 0x01C
  mapY0 := fieldInt ws 0x020
  cell := clampNat 100 10000 (fieldNat ws 0x024)
  reachTop := ⟨fieldInt ws 0x028, fieldInt ws 0x02C, fieldInt ws 0x030, fieldInt ws 0x034⟩
  reachBottom := ⟨fieldInt ws 0x038, fieldInt ws 0x03C, fieldInt ws 0x040, fieldInt ws 0x044⟩
  dMin := clampNat 0 10000 (fieldNat ws 0x048)
  bankBase := fieldNat ws 0x04C
  nullBase := fieldNat ws 0x050
  wearBase := fieldNat ws 0x054
  divBase := fieldNat ws 0x058
  logBase := fieldNat ws 0x05C
  logSize := fieldNat ws 0x060
  capBase := fieldNat ws 0x064
  capSize := fieldNat ws 0x068
  noticeBase := fieldNat ws 0x06C
  timeRes := clampNat 0 2 (fieldNat ws 0x070)
  moveDeadline := clampNat 1 65535 (fieldNat ws 0x074)
  cleanDeadline := clampNat 1 65535 (fieldNat ws 0x078)
  contactOhm := clampNat 1 1000 (fieldNat ws 0x07C)
  touchLimit := clampNat 0 65535 (fieldNat ws 0x080)
  missLimit := clampNat 0 15 (fieldNat ws 0x084)
  logPasses := (fieldWord ws 0x088).getLsbD 0
  logSkipped := (fieldWord ws 0x088).getLsbD 1
  noticeFailures := (fieldWord ws 0x088).getLsbD 2
  loadWear := (fieldWord ws 0x088).getLsbD 3
  noticeMask := fieldWord ws 0x08C

/-- A power of two within `lo..hi` (R10). -/
def isPowerOfTwoWithin (lo hi n : Nat) : Bool :=
  decide (lo ≤ n) && decide (n ≤ hi) && decide (2 ^ n.log2 = n)

/-- The checks of R17 after loading step 1: every base a multiple of 64 and both ring sizes as R10 gives them. -/
def settingsGood (t : Settings) : Bool :=
  [t.pointBase, t.limitBase, t.groupBase, t.keepOutTop, t.keepOutBottom, t.bankBase, t.nullBase, t.wearBase, t.divBase,
    t.logBase, t.capBase, t.noticeBase].all (fun b => decide (b % 64 = 0))
  && isPowerOfTwoWithin 64 65536 t.logSize && isPowerOfTwoWithin 4096 1048576 t.capSize

/-- ANCHOR names a place an anchor block can have (R2). -/
def anchorGood (a : Nat) : Bool := decide (a % 4096 = 0) && decide (a < Config.windowSize)

/-- The board correction of a run word (R61, spec 12.1). -/
def parseCorrection (ws : List Word) : Correction :=
  ⟨fieldInt ws 0x0C, fieldInt ws 0x10, fieldInt ws 0x14, fieldInt ws 0x18⟩

/-! ## Tables read at START -/

/-- A settings bank from its record, clamped, with the two values formed at load (R129). DESIGN CHOICE (log entry 46): the retouch
limit, for which spec 12.3 gives no width, is the byte at 06h. -/
def parseBank (ws : List Word) : Bank :=
  let start := clampNat 0 6 (fieldByte ws 0x01).toNat
  let floor := clampNat 0 6 (fieldByte ws 0x02).toNat
  let ceiling := clampNat 0 6 (fieldByte ws 0x03).toNat
  let auto := fieldFlag ws 0x04
  { k := clampNat 0 8 (fieldByte ws 0x00).toNat
    settle := fieldHalf ws 0x08
    start := start
    floor := floor
    ceiling := ceiling
    autoEnable := auto
    maxChanges := clampNat 0 6 (fieldByte ws 0x05).toNat
    vth := clampNat 200 2000 (fieldHalf ws 0x0A)
    tMax := clampNat 1 2147483648 (fieldNat ws 0x0C)
    retouchLimit := clampNat 0 7 (fieldByte ws 0x06).toNat
    autoInForce := auto && decide (floor ≤ ceiling)
    startInForce := if floor ≤ ceiling then clampNat floor ceiling start else start }

/-- An 8 × 8 null table from its 64 words, each value clamped to 0..`hi` (R130). -/
def parseNulls (hi : Nat) (ws : List Word) : Per (Per Nat) :=
  Per.make fun p => Per.make fun q => clampNat 0 hi (fieldNat ws (4 * (8 * p.val + q.val)))

/-- A diversion action byte: a value naming none of the three is HALT (R159). -/
def parseAction (b : Byte) : DivAction :=
  if b = 0 then .continue_ else if b = 1 then .divert else .halt

/-- An exhausted action byte: 1 names neither permitted value, so all but 0 is HALT (R159, spec 12.3). -/
def parseExhausted (b : Byte) : DivAction := if b = 0 then .continue_ else .halt

/-- A diversion table entry (R159). -/
def parseDivEntry (ws : List Word) : DivEntry :=
  ⟨parseAction (fieldByte ws 0), fieldNat ws 4, clampNat 0 3 (fieldByte ws 1).toNat, clampNat 0 15 (fieldByte ws 2).toNat,
    parseExhausted (fieldByte ws 3)⟩

/-! ## Program entries (R38..R40, spec 12.2) -/

/-- The measurement kind a byte names. -/
def measKindOf (b : Byte) : Option MeasKind :=
  if b = 1 then some .res2
  else if b = 2 then some .res4
  else if b = 3 then some .cap
  else if b = 4 then some .diode
  else if b = 5 then some .cont
  else none

/-- The place of a role in slot order. -/
def roleIndex : RoleName → Nat
  | .forceHi => 0
  | .forceLo => 1
  | .senseHi => 2
  | .senseLo => 3
  | .guard => 4

/-- The roles in slot order (R39). -/
def slotOrder : List RoleName := [.forceHi, .forceLo, .senseHi, .senseLo, .guard]

/-- The role slots as written (R54). -/
def entrySlots (ws : List Word) : List RoleSlot :=
  slotOrder.map fun r =>
    ⟨fieldFlag ws (0x10 + 8 * roleIndex r + 5), fieldByte ws (0x10 + 8 * roleIndex r + 4),
      fieldWord ws (0x10 + 8 * roleIndex r)⟩

/-- The slots a kind uses, and of those the required ones (R39). -/
def usedSlots : MeasKind → List RoleName
  | .res4 => slotOrder
  | .res2 | .cap | .diode | .cont => [.forceHi, .forceLo, .guard]

/-- The slots a kind requires (R39). -/
def requiredSlots : MeasKind → List RoleName
  | .res4 => [.forceHi, .forceLo, .senseHi, .senseLo]
  | .res2 | .cap | .diode | .cont => [.forceHi, .forceLo]

/-- The slot of a role is present. -/
def slotPresent (ws : List Word) (r : RoleName) : Bool := fieldFlag ws (0x10 + 8 * roleIndex r + 5)

/-- The probe number byte of a slot. -/
def slotProbe (ws : List Word) (r : RoleName) : Nat := (fieldByte ws (0x10 + 8 * roleIndex r + 4)).toNat

/-- The point index of a slot. -/
def slotPoint (ws : List Word) (r : RoleName) : Nat := fieldNat ws (0x10 + 8 * roleIndex r)

/-- The roles of a step: its used slots that are present, in slot order (R39). -/
def stepRoles (k : MeasKind) (ws : List Word) : List RoleName := (usedSlots k).filter (slotPresent ws)

/-- The bank field: 0..3, or FFh for CURRENT, which gives `current` (R50). None for any other value. -/
def resolveBank (current : Nat) (b : Byte) : Option Nat :=
  if b = 0xFF then some current else if b.toNat ≤ 3 then some b.toNat else none

/-- The limit index FFFFFFFFh is none (spec 12.2). -/
def limitIndex (ws : List Word) : Option Nat :=
  if fieldWord ws 0x04 = 0xFFFFFFFF then none else some (fieldNat ws 0x04)

/-- A point record, x and y clamped (R60). -/
def parsePoint (ws : List Word) : PointRec :=
  ⟨clampInt (-1000000) 1000000 (fieldInt ws 0x00), clampInt (-1000000) 1000000 (fieldInt ws 0x04), fieldByte ws 0x08,
    fieldHalf ws 0x0C, fieldHalf ws 0x0E⟩

/-- The side a byte names; none is WRONG_SIDE (R60). -/
def sideOf (b : Byte) : Option Side := if b = 0 then some .top else if b = 1 then some .bottom else none

/-- A limit record; none where its form names no code (R55, R154). -/
def parseLimit (ws : List Word) : Option LimitRec :=
  if fieldByte ws 0x00 = 1 then some (.abs (fieldInt64 ws 0x08) (fieldInt64 ws 0x10))
  else if fieldByte ws 0x00 = 2 then some (.nomtol (fieldInt64 ws 0x08) (fieldHalf ws 0x10) (fieldHalf ws 0x12))
  else if fieldByte ws 0x00 = 3 then
    some (.cont (fieldNat ws 0x08) (fieldNat ws 0x0C) (fieldFlag ws 0x10))
  else none

/-- The mode of a RESUME (R40). -/
def parseMode (b : Byte) : Option ResumeMode :=
  if b = 1 then some .retry else if b = 2 then some .next else if b = 3 then some .halt else none

/-- The probes of a mask, in probe order. -/
def maskProbes (m : Byte) : List ProbeNo := allProbes.filter fun p => m.getLsbD p.val

/-! ## Records the device writes (R184, spec 12.4) -/

/-- A word from its four bytes, least significant first. -/
def wordOfBytes (b0 b1 b2 b3 : Byte) : Word := b3 ++ b2 ++ b1 ++ b0

/-- A word from its two halves, least significant first. -/
def wordOfHalves (h0 h1 : Nat) : Word := BitVec.ofNat 16 h1 ++ BitVec.ofNat 16 h0

/-- A byte holding a number. -/
def byteOf (n : Nat) : Byte := BitVec.ofNat 8 n

/-- One flag bit. -/
def bitAt (n : Nat) (b : Bool) : Byte := if b then BitVec.ofNat 8 (2 ^ n) else 0

/-- The code of a classification (spec 12.4). -/
def classCode : Classification → Nat
  | .pass => 0
  | .failLow => 1
  | .failHigh => 2
  | .marginal => 3
  | .overrange => 4
  | .noContact => 5
  | .motionFault => 6
  | .motionTimeout => 7
  | .landingRefused => 8
  | .programError => 9
  | .skipped => 10

/-- The code of a cause (R158). -/
def causeCode : Cause → Nat
  | .measureFail => 1
  | .overrange => 2
  | .noContact => 3
  | .motionFault => 4
  | .motionTimeout => 5
  | .landingRefused => 6
  | .programError => 7
  | .tipService => 8

/-- The code of a cause that may be none. -/
def causeCodeOpt : Option Cause → Nat
  | none => 0
  | some c => causeCode c

/-- The record kind of an entry kind (R173, spec 12.4). -/
def recordKindCode : EntryKind → Nat
  | .measure | .skipped | .landingRefused | .mark => 1
  | .clean => 2
  | .park => 3
  | .programError => 4

/-- The origin area code (spec 12.4). -/
def originCode : OriginArea → Nat
  | .a => 0
  | .b => 1
  | .recovery => 2

/-- The classification of an entry's record (R173). -/
def entryClass (e : Entry) : Classification :=
  match e.kind, e.state, e.cause, e.result with
  | .skipped, _, _, _ => .skipped
  | .landingRefused, _, _, _ => .landingRefused
  | .programError, _, _, _ => .programError
  | _, .failed, some .noContact, _ => .noContact
  | _, .failed, some .motionFault, _ => .motionFault
  | _, .failed, some .motionTimeout, _ => .motionTimeout
  | _, .failed, _, some r => r.cls
  | _, _, _, _ => .pass

/-- The byte of a role slot in a log record: bit 7 present, bits 2–0 the probe number. DESIGN CHOICE (log entry 36): of a
probe number above 7, as the slots of a PROGRAM or SKIPPED record may hold it, the low three bits are written. -/
def slotByte (slots : List RoleSlot) (r : RoleName) : Byte :=
  match slots[roleIndex r]? with
  | some ⟨true, p, _⟩ => 0x80 ||| (p &&& 7)
  | some ⟨false, _, _⟩ => 0
  | none => 0

/-- The probes by role that the record of an entry shows (R172): the roles of a MEASURE entry, the slots as written of the
other records of kind MEASURE and PROGRAM. -/
def recordSlots (e : Entry) : List RoleSlot :=
  match e.kind with
  | .measure | .landingRefused =>
    slotOrder.map fun r =>
      match measKindOf e.measByte with
      | some k =>
        match e.slots[roleIndex r]? with
        | some s => ⟨s.present && (usedSlots k).contains r, s.probe, s.point⟩
        | none => ⟨false, 0, 0⟩
      | none => ⟨false, 0, 0⟩
  | .skipped | .programError => e.slots
  | .mark | .clean | .park => []

/-- The sum of the retouch counts of an entry's roles (R127). -/
def totalRetouches (e : Entry) : Nat := (e.roles.map (·.retouches)).sum

/-- The measurement kind byte of a record (R172): for PROGRAM records the entry kind byte as read. DESIGN CHOICE (log entry
44): in SERVICE and PARK records, of which R172 gives the field no content, it is 0. A MARK makes no record (R173). -/
def recordKindByte (e : Entry) : Byte :=
  match e.kind with
  | .measure | .skipped | .landingRefused => e.measByte
  | .programError => e.entryByte
  | .mark | .clean | .park => 0

/-- The sixteen words of the log record of an entry (R172, spec 12.4), numbered `seq`, taken at time `now`. -/
def recordWords (seq : Nat) (now : Word) (e : Entry) : List Word :=
  let slots := recordSlots e
  let v := e.result
  let value := BitVec.ofInt 64 (v.elim 0 (·.value))
  let cap := v.bind (·.capture)
  let flags := bitAt 0 v.isSome ||| bitAt 1 (!e.nets.isEmpty) ||| bitAt 2 cap.isSome
    ||| bitAt 3 (v.elim false (·.rangeLimited)) ||| bitAt 4 (decide (e.snap.origin.area = .recovery))
  [ BitVec.ofNat 32 seq,
    BitVec.ofNat 32 (seq / 4294967296),
    wordOfBytes (byteOf (recordKindCode e.kind)) (byteOf (classCode (entryClass e))) (byteOf e.detail) (byteOf (e.detail / 256)),
    wordOfBytes (byteOf (originCode e.snap.origin.area)) (byteOf e.board) (recordKindByte e) (byteOf e.bank),
    BitVec.ofNat 32 e.snap.origin.list,
    BitVec.ofNat 32 e.snap.origin.index,
    wordOfBytes (slotByte slots .forceHi) (slotByte slots .forceLo) (slotByte slots .senseHi) (slotByte slots .senseLo),
    wordOfBytes (slotByte slots .guard) e.mask (byteOf e.cycles) flags,
    wordOfBytes (byteOf (e.nets.headD 0)) (byteOf (e.nets.headD 0 / 256)) (byteOf (v.elim 0 (·.range))) (byteOf (v.elim 0 (·.changes))),
    value.extractLsb' 0 32,
    value.extractLsb' 32 32,
    wordOfHalves (totalRetouches e) (cap.elim 0 (·.2)),
    v.elim now (·.start),
    BitVec.ofNat 32 (v.elim 0 (·.duration)),
    BitVec.ofNat 32 (cap.elim 0 (·.1)),
    0 ]

/-- The two words of a wear record (spec 12.3). -/
def wearWords (p : Probe) : List Word := [BitVec.ofNat 32 p.touch, BitVec.ofNat 32 p.miss]

/-- The five words of an area summary (spec 12.1). -/
def summaryWords (t : Summary) : List Word :=
  [BitVec.ofNat 32 t.logged, BitVec.ofNat 32 t.passed, BitVec.ofNat 32 t.failed, BitVec.ofNat 32 t.skipped,
    BitVec.ofNat 32 t.stale]

end Sys2Proof.Machine
end

