-- ==== Sys2Proof/Machine/Calculator.lean ====
section
/-! DEFINITION. The exact arithmetic of the device: rounding (spec 00), the coordinate transform and landing tests (spec 04),
the nudges of a retouch (spec 07), and the Reading Calculator (spec 09). Everything is computed on exact integers. -/

namespace Sys2Proof.Machine

open Sys2Proof

/-! ## Rounding (spec 00) -/

/-- The quotient of `n` by a positive `d`, rounded half away from zero. -/
def roundHalfAway (n : Int) (d : Nat) : Int :=
  if 0 ≤ n then (2 * n + d) / (2 * d) else -((2 * -n + d) / (2 * d))

/-- The greatest integer not above the quotient of `n` by a positive `d`. -/
def floorDiv (n : Int) (d : Nat) : Int := n / (d : Int)

/-- The least integer not below the quotient of `n` by a positive `d`. -/
def ceilDiv (n : Int) (d : Nat) : Int := -(-n / (d : Int))

/-! ## Board coordinates (R62, R63) -/

/-- A number lies in the signed 32-bit range. -/
def inInt32 (n : Int) : Bool := decide (-2147483648 ≤ n) && decide (n ≤ 2147483647)

/-- The panel offset in force: the sums of the frames' dx and dy (R45). -/
def panelOffset (stack : List Frame) : Int × Int :=
  ((stack.map (·.dx)).sum, (stack.map (·.dy)).sum)

/-- The board position in force: that of the innermost frame, 0 outside any call (R45). -/
def boardPosition (stack : List Frame) : Nat := (stack.getLast?.map (·.board)).getD 0

/-- The transformed position of a board point under a panel offset and a correction; none where the role is unplaceable
(R62, R63). -/
def transform (k : Correction) (off : Int × Int) (x y : Int) : Option (Int × Int) :=
  let px := x + off.1
  let py := y + off.2
  if inInt32 px && inInt32 py then
    some (k.ox + roundHalfAway (k.c * px - k.s * py) 1073741824, k.oy + roundHalfAway (k.s * px + k.c * py) 1073741824)
  else none

/-! ## Landing tests (R65..R69) -/

/-- The reach test, inclusive (R65). -/
def inReach (r : Rect) (x y : Int) : Bool :=
  decide (r.xMin ≤ x) && decide (x ≤ r.xMax) && decide (r.yMin ≤ y) && decide (y ≤ r.yMax)

/-- The reach rectangle of a side. -/
def reachOf (t : Settings) : Side → Rect
  | .top => t.reachTop
  | .bottom => t.reachBottom

/-- The keep-out cell of a position (R66); none outside the 128 × 128 cells. -/
def keepOutCell (t : Settings) (x y : Int) : Option (Nat × Nat) :=
  let i := floorDiv (x - t.mapX0) t.cell
  let j := floorDiv (y - t.mapY0) t.cell
  if 0 ≤ i ∧ i ≤ 127 ∧ 0 ≤ j ∧ j ≤ 127 then some (i.toNat, j.toNat) else none

/-- The offset of the keep-out word of a cell (R67, spec 12.3). -/
def keepOutAddr (t : Settings) (side : Side) (cell : Nat × Nat) : Nat :=
  (match side with
    | .top => t.keepOutTop
    | .bottom => t.keepOutBottom) + 16 * cell.2 + 4 * (cell.1 / 32)

/-- Two positions on one side conflict: closer than the minimum spacing (R69). -/
def spacingConflict (dMin : Nat) (a b : Int × Int) : Bool :=
  decide ((a.1 - b.1) * (a.1 - b.1) + (a.2 - b.2) * (a.2 - b.2) < (dMin : Int) * (dMin : Int))

/-- Two roles are a Kelvin pair of a RES4 step (R70, R71). -/
def kelvinPair (k : MeasKind) (a b : RoleName) : Bool :=
  decide (k = .res4) &&
    (decide (a = .forceHi ∧ b = .senseHi) || decide (a = .senseHi ∧ b = .forceHi)
      || decide (a = .forceLo ∧ b = .senseLo) || decide (a = .senseLo ∧ b = .forceLo))

/-! ## Retouch targets (R125, R126) -/

/-- The nudge of a pad (R125). -/
def nudge (pad : Nat) : Nat := clampNat 5 100 (pad / 4)

/-- The offset of retouch `k` in units of the nudge (R126). -/
def retouchOffset (k : Nat) : Int × Int :=
  match k with
  | 1 => (1, 0)
  | 2 => (-1, 0)
  | 3 => (0, 1)
  | 4 => (0, -1)
  | 5 => (1, 1)
  | 6 => (-1, -1)
  | 7 => (1, -1)
  | _ => (0, 0)

/-- The nearer end of the signed 32-bit range for a coordinate outside it (R100). -/
def toInt32 (n : Int) : Int := clampInt (-2147483648) 2147483647 n

/-- The target of retouch `k` of a role at (x, y) with a pad of the given diameter (R126). -/
def retouchTarget (k pad : Nat) (x y : Int) : Int × Int :=
  (toInt32 (x + (retouchOffset k).1 * nudge pad), toInt32 (y + (retouchOffset k).2 * nudge pad))

/-! ## The Reading Calculator (R144..R157) -/

/-- The source current of a range in nA (R132). -/
def sourceCurrent (range : Nat) : Nat := 10 ^ (8 - range)

/-- The mean of `n` samples from their sum (R145). -/
def meanOf (n : Nat) (sum : Int) : Int := if n = 1 then sum else floorDiv (sum + ((n / 2 : Nat) : Int)) n

/-- The voltage of a mean in µV (R145). -/
def voltsOf (mean : Int) : Int := 4 * mean

/-- The resistance in mΩ before a null (R146). -/
def resistanceOf (range : Nat) (volts : Int) : Int := roundHalfAway (volts * 1000000) (sourceCurrent range)

/-- The capacitance in fF before a null (R147). -/
def capacitanceOf (range ticks vth : Nat) : Int := roundHalfAway ((sourceCurrent range * ticks * 10 : Nat) : Int) vth

/-- How many samples an attempt takes: N = 2^k (R135). -/
def sampleCount (b : Bank) : Nat := 2 ^ b.k

/-- The value of an attempt (R146..R148); `null` is the null the calculator reads for the step's force probes. -/
def attemptValue (kind : MeasKind) (range : Nat) (b : Bank) (null : Nat) (t : Attempt) : Int :=
  match kind with
  | .res2 => resistanceOf range (voltsOf (meanOf (sampleCount b) t.sum)) - null
  | .res4 | .cont => resistanceOf range (voltsOf (meanOf (sampleCount b) t.sum))
  | .cap => capacitanceOf range t.ticks b.vth - null
  | .diode => voltsOf (meanOf (sampleCount b) t.sum)

/-- A range wish (R150, R151). -/
inductive Wish where
  | keep | up | down
  deriving DecidableEq, Repr

/-- The range wish of an attempt (R150, R151). -/
def attemptWish (kind : MeasKind) (b : Bank) (t : Attempt) : Wish :=
  match kind with
  | .res2 | .res4 =>
    let m := meanOf (sampleCount b) t.sum
    if t.saturated || decide (458752 < m.natAbs) then .up
    else if m.natAbs < 16384 then .down
    else .keep
  | .cap =>
    if !t.crossed then .down
    else if t.ticks < 1000 then .up
    else .keep
  | .diode | .cont => .keep

/-- The final attempt of a step is overrange (R153). -/
def isOverrange (kind : MeasKind) (t : Attempt) : Bool :=
  match kind with
  | .res2 | .res4 | .diode => t.saturated
  | .cap => !t.crossed
  | .cont => false

/-- The bounds of a limit copy (R155); a CONT copy has none. -/
def limitBounds : LimitRec → Option (Int × Int)
  | .abs lo hi => some (lo, hi)
  | .nomtol nominal tl th =>
    let lo := floorDiv (nominal * (10000 - (clampNat 0 10000 tl : Nat))) 10000
    let hi := ceilDiv (nominal * (10000 + (th : Nat))) 10000
    if hi < lo then some (hi, lo) else some (lo, hi)
  | .cont _ _ _ => none

/-- The outcome of a CONT step (R156). -/
inductive ContOutcome where
  | connected | isolated | marginal
  deriving DecidableEq, Repr

/-- The judgement of a CONT attempt (R156). -/
def contOutcome (shortMax openMin : Nat) (saturated : Bool) (r : Int) : ContOutcome :=
  if saturated then .isolated
  else if r ≤ (shortMax : Int) then .connected
  else if (openMin : Int) ≤ r then .isolated
  else .marginal

/-- The outcome compared with the expectation (R156). -/
def contClass (expectIsolated : Bool) : ContOutcome → Classification
  | .connected => if expectIsolated then .failLow else .pass
  | .isolated => if expectIsolated then .pass else .failHigh
  | .marginal => .marginal

/-- A value compared with its bounds (R157). -/
def boundsClass (lo hi value : Int) : Classification :=
  if value < lo then .failLow else if hi < value then .failHigh else .pass

/-- The classification of a final attempt of value `value` (R157). -/
def classify (kind : MeasKind) (lim : Option LimitRec) (t : Attempt) (value : Int) : Classification :=
  if isOverrange kind t then .overrange
  else
    match lim with
    | none => .pass
    | some (.cont shortMax openMin expectIsolated) => contClass expectIsolated (contOutcome shortMax openMin t.saturated value)
    | some l =>
      match limitBounds l with
      | some (lo, hi) => boundsClass lo hi value
      | none => .pass

end Sys2Proof.Machine
end

