-- ==== Sys2Proof/Machine/Flags.lean ====
section
/-! DEFINITION. The registers as the host reads them, and every flag that is computed: the STATE word, the interrupt line and
the arbiter's choice (R1, R2, R5, R8, R9, R182, spec 12.5). -/

namespace Sys2Proof.Machine

open Sys2Proof

/-- The code of a run state (spec 12.5). -/
def runCode : RunState → Nat
  | .idle => 0
  | .starting => 1
  | .running => 2
  | .paused => 3
  | .chainWait => 4
  | .boardWait => 5
  | .guardHold => 6
  | .stopping => 7
  | .halted => 8

/-- The code of an end code (spec 12.5). -/
def endCodeCode : EndCode → Nat
  | .none => 0
  | .finished => 1
  | .aborted => 2
  | .notReady => 3
  | .badAnchor => 4
  | .haltedByTable => 5
  | .doubleFault => 6
  | .memoryError => 7
  | .linkLost => 8
  | .boardLost => 9

/-- The code of an area (spec 12.5). -/
def areaCode : Area → Nat
  | .a => 0
  | .b => 1

/-- One bit of a register word. -/
def regBit (n : Nat) (b : Bool) : Nat := if b then 2 ^ n else 0

/-- A read of IDENT (R1). DESIGN CHOICE (log entry 38): bits 31 to 24, which spec 12.5 does not name for IDENT, read 0. -/
def readIdent (_ : State) : Word := BitVec.ofNat 32 (Config.familyCode + 65536 * Config.revision)

/-- A read of ANCHOR (R2). -/
def readAnchor (s : State) : Word := s.regs.anchor

/-- A read of COMMAND returns 0 (spec 1.2). -/
def readCommand (_ : State) : Word := 0

/-- A read of STATE (R5, spec 12.5). -/
def readState (s : State) : Word :=
  BitVec.ofNat 32 (runCode s.rc.run + 16 * runCode s.rc.remembered + 256 * endCodeCode s.rc.endCode
    + 4096 * areaCode s.rc.area
    + regBit 16 s.regs.porFlag + regBit 17 s.regs.pinFlag + regBit 18 s.regs.softFlag + regBit 19 s.regs.refused
    + regBit 20 s.log.held + regBit 21 s.div.active
    + regBit 24 (guardOpen s) + regBit 25 (boardPresent s) + regBit 26 s.link.up)

/-- A read of IRQ_ENABLE (R9). -/
def readIrqEnable (s : State) : Word :=
  BitVec.ofNat 32 (regBit 0 s.regs.irqEnable.memoryError + regBit 1 s.regs.irqEnable.guard + regBit 2 s.regs.irqEnable.runEnd
    + regBit 3 s.regs.irqEnable.logHeld + regBit 4 s.regs.irqEnable.notice)

/-- The five enables of a written word; bits above bit 4 are ignored (R9, spec 12.5). -/
def sourcesOfWord (w : Word) : Sources :=
  ⟨w.getLsbD 0, w.getLsbD 1, w.getLsbD 2, w.getLsbD 3, w.getLsbD 4⟩

/-- The code of the highest-priority source that is pending and enabled, 0 for none (R8, R182). -/
def causeOf (pend en : Sources) : Nat :=
  if pend.memoryError && en.memoryError then 1
  else if pend.guard && en.guard then 2
  else if pend.runEnd && en.runEnd then 3
  else if pend.logHeld && en.logHeld then 4
  else if pend.notice && en.notice then 5
  else 0

/-- The pending flags after a CAUSE read that returned `c`: MEMORY_ERROR and RUN_END are kept (R8, R182). -/
def clearCause (c : Nat) (pend : Sources) : Sources :=
  { pend with
    guard := pend.guard && decide (c ≠ 2)
    logHeld := pend.logHeld && decide (c ≠ 4)
    notice := pend.notice && decide (c ≠ 5) }

/-- The interrupt line: asserted while any source is both pending and enabled (R9). -/
def irqLine (s : State) : Bool := decide (causeOf s.notice.pend s.regs.irqEnable ≠ 0)

/-- REFUSED is set (R7). -/
def setRefused (s : State) : State := { s with regs := { s.regs with refused := true } }

end Sys2Proof.Machine
end

