-- ==== Sys2Proof/Machine/Probes.lean ====
section
/-! DEFINITION. The Motion Link Controller's own operations on the Probe Table and the link: taking an order, completing one,
faults, voiding, STOP, and the wear counts (spec 06). -/

namespace Sys2Proof.Machine

open Sys2Proof

/-- The record of a probe (R96). -/
def probe (s : State) (p : ProbeNo) : Probe := s.link.probes.get p

/-- The state with one probe record replaced. -/
def setProbe (p : ProbeNo) (r : Probe) (s : State) : State :=
  { s with link := { s.link with probes := s.link.probes.set p r } }

/-- The state with every probe record changed by `f`. -/
def mapProbes (f : Probe → Probe) (s : State) : State :=
  { s with link := { s.link with probes := s.link.probes.map f } }

/-! ## Positions (R68, R72) -/

/-- The position of a probe for the spacing test and the stay-down match (R68). -/
def standing (r : Probe) : Option (Int × Int) :=
  match r.state with
  | .landed | .moving | .lifting => r.pos
  | .unknown | .parked | .lifted | .parking | .cleaning | .faulted => none

/-- A probe matches a stay-down point (R72). -/
def staysDown (p : ProbeNo) (r : Probe) (side : Side) (x y : Int) : Bool :=
  decide (probeSide p = side) && decide (standing r = some (x, y))

/-! ## Orders (R99, R100) -/

/-- The order is a PARK. -/
def isPark : Order → Bool
  | .park => true
  | .move _ _ | .retouch _ _ | .lift | .clean _ => false

/-- The conditions under which a per-probe order is taken (R99). DESIGN CHOICE (log entry 34): a STOP whose deadline has
expired is no longer outstanding (R110), so orders are taken after it, the STOP of link bring-up (R111) among them. -/
def mayOrder (p : ProbeNo) (o : Order) (s : State) : Bool :=
  (probe s p).order.isNone && s.link.stop.isNone && !guardOpen s && s.link.up
    && (decide ((probe s p).state ≠ .faulted) || isPark o)

/-- What taking an order does to the probe's record (R100). -/
def orderedProbe (t : Settings) (o : Order) (r : Probe) : Probe :=
  let base := { r with tag := r.tag + 1, order := some o, verified := false, deadline := some t.moveDeadline }
  match o with
  | .move x y => { base with state := .moving, pos := some (x, y) }
  | .retouch _ _ => { base with state := .moving }
  | .lift => { base with state := .lifting }
  | .park => { base with state := .parking, pos := none }
  | .clean _ => { base with state := .cleaning, pos := none, deadline := some t.cleanDeadline }

/-- The state after a per-probe order has been taken: it is sent after the orders taken before it (R99, R100). -/
def takeOrder (p : ProbeNo) (o : Order) (s : State) : State :=
  { s with link := { s.link with
      probes := s.link.probes.set p (orderedProbe s.settings o (probe s p)), sent := s.link.sent ++ [p] } }

/-- A request for a per-probe order: the state after it is taken, or none where it is refused and nothing changes (R99). -/
def requestOrder (p : ProbeNo) (o : Order) (s : State) : Option State :=
  if mayOrder p o s then some (takeOrder p o s) else none

/-! ## Completion, fault and expiry (R102, R104, R105) -/

/-- A probe's outstanding order ends, leaving the record `r` (R102, R104, R105). -/
def endOrder (p : ProbeNo) (r : Probe) (s : State) : State :=
  { s with link := { s.link with probes := s.link.probes.set p r, sent := s.link.sent.erase p } }

/-- The record after the outstanding order has completed. -/
def completedProbe (st : ProbeState) (r : Probe) : Probe :=
  { r with
    state := st, order := none, deadline := none, verified := false
    pos := match st with
      | .landed => r.pos
      | .unknown | .parked | .moving | .lifting | .lifted | .parking | .cleaning | .faulted => none }

/-- The record after a fault with a code: FAULT reports bring 1..255, an expiry 0 (R104, R105). -/
def faultedProbe (code : Byte) (r : Probe) : Probe :=
  { r with state := .faulted, pos := none, order := none, deadline := none, verified := false, faultCode := code }

/-- The code a FAULT report sets: 0 is taken as 255 (R104). -/
def reportCode (code : Byte) : Byte := if code = 0 then 255 else code

/-! ## Voiding, STOP and the link (R108..R111) -/

/-- The record after its outstanding order has been voided (R108). -/
def voidedProbe (r : Probe) : Probe :=
  match r.order with
  | none => r
  | some _ => { r with state := .unknown, pos := none, order := none, deadline := none, verified := false }

/-- Every outstanding per-probe order is voided (R108). -/
def voidOrders (s : State) : State :=
  { s with link := { s.link with probes := s.link.probes.map voidedProbe, sent := [] } }

/-- The record of a probe made UNKNOWN by STOPPED, a STOP deadline or a link loss (R110, R111). -/
def unknownProbe (r : Probe) : Probe := { r with state := .unknown, pos := none, verified := false }

/-- Every probe becomes UNKNOWN. -/
def allUnknown (s : State) : State := mapProbes unknownProbe s

/-- STOP is sent if the link is up and none is outstanding (R109). -/
def sendStop (s : State) : State :=
  if s.link.up && s.link.stop.isNone then { s with link := { s.link with stop := some Config.stopDeadlineMs } } else s

/-! ## Wear counts (R114..R116) -/

/-- Which of the limits in force a record's counts have reached: 1 the touch limit, 2 the miss limit, 3 both, 0 neither
(R116). -/
def dueReason (t : Settings) (r : Probe) : Nat :=
  (if t.touchLimit ≠ 0 ∧ t.touchLimit ≤ r.touch then 1 else 0) + (if t.missLimit ≠ 0 ∧ t.missLimit ≤ r.miss then 2 else 0)

/-- A touch or a first-touch result has given a probe its counts: the record is replaced, its service-due flag set where a
limit is reached, and a SERVICE_DUE notice requested where the flag was clear (R116, R122). The test is made also where a count
stays at its value: for a first-touch result R122 says so; for a touch at 65,535 it is the model's choice (log entry 35). -/
def changeCounts (p : ProbeNo) (touch miss : Nat) (s : State) : State :=
  let r := probe s p
  let r' := { r with touch := touch, miss := miss }
  if dueReason s.settings r' = 0 then setProbe p r' s
  else
    let s1 := setProbe p { r' with due := true } s
    if r.due then s1
    else requestNotice .serviceDue (BitVec.ofNat 32 p.val) (BitVec.ofNat 32 (dueReason s.settings r')) .plain s1

/-- A touch is counted, saturating at 65,535 (R114). -/
def addTouch (p : ProbeNo) (s : State) : State :=
  changeCounts p (min 65535 ((probe s p).touch + 1)) (probe s p).miss s

/-- The outcome of a first-touch check reaches the miss count, saturating at 15 (R115). -/
def countFirstTouch (p : ProbeNo) (pass : Bool) (s : State) : State :=
  changeCounts p (probe s p).touch (if pass then 0 else min 15 ((probe s p).miss + 1)) s

/-- A record's counts loaded from the wear table, clamped, its service-due flag recomputed (R36). -/
def loadedProbe (t : Settings) (touch miss : Nat) (r : Probe) : Probe :=
  let r' := { r with touch := clampNat 0 65535 touch, miss := clampNat 0 15 miss }
  { r' with due := decide (dueReason t r' ≠ 0) }

/-- The Probe Table after the wear table has been read (R36). -/
def loadWear (ws : List Word) (s : State) : State :=
  { s with link := { s.link with
      probes := Per.make fun p =>
        loadedProbe s.settings (fieldNat ws (8 * p.val)) (fieldNat ws (8 * p.val + 4)) (probe s p) } }

end Sys2Proof.Machine
end

