-- ==== Sys2Proof/Machine/Window.lean ====
section
/-! DEFINITION. The Step Window (spec 05) and the Contact Checker (spec 07): reservation, entry failure, serving passes,
preemption, contact checks and retouches, the guard stop, the flush; and the abort of a measurement, which they cause
(R140). -/

namespace Sys2Proof.Machine

open Sys2Proof

/-! ## Entries and reservation -/

/-- The entry is unmeasured: PENDING, READY or MEASURING (R76). -/
def unmeasured (e : Entry) : Bool :=
  match e.state with
  | .pending | .ready | .measuring => true
  | .done | .failed | .skipped => false

/-- The entry names the probe (R78). -/
def namesProbe (e : Entry) (p : ProbeNo) : Bool :=
  match e.kind with
  | .measure => e.roles.any fun r => decide (r.probe = p)
  | .clean | .park => e.members.any fun m => decide (m.probe = p)
  | .skipped | .mark | .programError | .landingRefused => false

/-- The entry that holds the probe's reservation: the oldest that names it (R78). -/
def holder (s : State) (p : ProbeNo) : Option Entry := s.window.find? fun e => namesProbe e p

/-- The entry of a number. -/
def entryOf (s : State) (u : Nat) : Option Entry := s.window.find? fun e => decide (e.uid = u)

/-- The entry of a number holds the probe's reservation. -/
def holds (s : State) (u : Nat) (p : ProbeNo) : Bool :=
  match holder s p with
  | some h => decide (h.uid = u)
  | none => false

/-- The entry of a number changed by `f`. -/
def updateEntry (u : Nat) (f : Entry → Entry) (s : State) : State :=
  { s with window := s.window.map fun e => if e.uid = u then f e else e }

/-- The oldest unmeasured entry (R86). -/
def oldestUnmeasured (s : State) : Option Entry := s.window.find? unmeasured

/-- The entry `h` stands behind the entry `u` in the window. -/
def isYounger (s : State) (u h : Nat) : Bool :=
  ((s.window.dropWhile fun e => decide (e.uid ≠ u)).drop 1).any fun e => decide (e.uid = h)

/-- The role at a place with its state replaced. -/
def withRole (i : Nat) (f : Role → Role) (e : Entry) : Entry := { e with roles := e.roles.modify i f }

/-- The member at a place with its state replaced. -/
def withMember (i : Nat) (st : MemberState) (e : Entry) : Entry :=
  { e with members := e.members.modify i fun m => { m with state := st } }

/-- A PENDING MEASURE entry whose roles are all CONTACT_OK becomes READY (R76, R84). -/
def readyIfContact (e : Entry) : Entry :=
  if decide (e.state = .pending) && e.roles.all (fun r => decide (r.state = .contactOk)) then { e with state := .ready } else e

/-- A PENDING CLEAN or PARK entry whose members are all COMPLETE becomes DONE (R88, R89). -/
def doneIfComplete (e : Entry) : Entry :=
  if decide (e.state = .pending) && e.members.all (fun m => decide (m.state = .complete)) then { e with state := .done } else e

/-! ## Contact checks held and started (R118, R119, R121) -/

/-- The Measurement Unit is idle (R121, R131). -/
def unitIdle (s : State) : Bool := s.unit.step.isNone

/-- The probe still stands at the landing of the record (R121, R123). -/
def atLanding (r : Probe) (c : CheckRec) : Bool := decide (r.state = .landed) && decide (r.tag = c.landingTag)

/-- A held record when the unit is idle: started if the probe is still at its landing, dropped otherwise (R121). -/
def startHeld (r : Probe) (slot : CheckSlot) : CheckSlot :=
  match slot.running, slot.held with
  | none, some c => if atLanding r c then ⟨some c, none⟩ else ⟨none, none⟩
  | none, none => slot
  | some _, _ => slot

/-- Every DEFERRED slot is taken when the unit becomes idle (R121). -/
def startDeferred (s : State) : State :=
  { s with checks := Per.make fun p => startHeld (probe s p) (s.checks.get p) }

/-- The slot after a check is requested (R119). -/
def requestedSlot (idle : Bool) (c : CheckRec) (slot : CheckSlot) : CheckSlot :=
  match slot.running with
  | some r => ⟨some r, some c⟩
  | none => if idle then ⟨some c, none⟩ else ⟨none, some c⟩

/-- A check of the probe is requested (R119). -/
def requestCheck (p : ProbeNo) (c : CheckRec) (s : State) : State :=
  { s with checks := s.checks.set p (requestedSlot (unitIdle s) c (s.checks.get p)) }

/-- The slot when its running check ends (R120, R121). -/
def endedSlot (idle : Bool) (r : Probe) (slot : CheckSlot) : CheckSlot :=
  match slot.held with
  | none => ⟨none, none⟩
  | some c => if idle then (if atLanding r c then ⟨some c, none⟩ else ⟨none, none⟩) else ⟨none, some c⟩

/-! ## Abort of the measurement (R140) -/

/-- A measurement in progress ends at once: source and guard driver off, the attempt discarded, a capture hand-off
withdrawn, the deferred checks started. The unit found IDLE is not affected (R140). -/
def abortMeasurement (s : State) : State :=
  match s.unit.step with
  | none => s
  | some _ =>
    startDeferred { dropReqs .capture s with unit := { s.unit with step := none, sourceOn := false, guardOn := false } }

/-- The probe stands LANDED with its contact verified (R133). -/
def standsVerified (s : State) (p : ProbeNo) : Bool := decide ((probe s p).state = .landed) && (probe s p).verified

/-- The interlock of the source lets an entry be measured: every role probe is LANDED with its contact verified (R133). -/
def interlockClosed (s : State) (e : Entry) : Bool := e.roles.all fun r => standsVerified s r.probe

/-- The entry the unit measures (R131). -/
def measuredEntryOf (s : State) : Option Entry := s.unit.step.bind fun r => entryOf s r.entry

/-- The unit enforces the interlock (R133): a measurement with the source on, of whose entry a role probe does not stand LANDED
and verified, is aborted. The events that R133 names abort it of themselves; reservation rules out every other (log entry
27). -/
def interlock (s : State) : State :=
  if s.unit.sourceOn && !((measuredEntryOf s).map (interlockClosed s)).getD false then abortMeasurement s else s

/-! ## Failure of an entry (R85) -/

/-- What failing does to an unmeasured entry (R85). -/
def failedEntry (c : Cause) (detail : Nat) (e : Entry) : Entry :=
  { e with
    state := .failed
    cause := some c
    detail := detail
    roles := e.roles.map fun r =>
      match r.state with
      | .ordered | .checking | .retouching => { r with state := .waiting }
      | .waiting | .contactOk => r
    members := e.members.map fun m =>
      match m.state with
      | .ordered => { m with state := .waiting }
      | .waiting | .complete => m }

/-- The entry of a number fails, if it is unmeasured; a measurement of it is aborted (R85). -/
def failEntry (u : Nat) (c : Cause) (detail : Nat) (s : State) : State :=
  match entryOf s u with
  | none => s
  | some e =>
    if unmeasured e then
      let s1 := updateEntry u (failedEntry c detail) s
      if e.state = .measuring then abortMeasurement s1 else s1
    else s

/-! ## Serving (R79..R82, R88, R89) -/

/-- The comparison with probe `q` is exempt for a role of an entry (R70). -/
def kelvinExempt (e : Entry) (r : Role) (q : ProbeNo) (pos : Int × Int) : Bool :=
  match measKindOf e.measByte with
  | none => false
  | some k =>
    e.roles.any fun rq =>
      decide (rq.probe = q) && kelvinPair k r.name rq.name && decide ((rq.x, rq.y) = pos)

/-- The probes whose positions conflict with a role's point (R70), P0 first. DESIGN CHOICE (log entry 39): where R81 resolves
several, it does so in this order. -/
def conflictSet (s : State) (e : Entry) (r : Role) : List ProbeNo :=
  allProbes.filter fun q =>
    decide (q ≠ r.probe) && decide (probeSide q = probeSide r.probe) &&
      match standing (probe s q) with
      | none => false
      | some pos => spacingConflict s.settings.dMin (r.x, r.y) pos && !kelvinExempt e r q pos

/-- The role or member of a probe that is lifted falls back to WAITING (R82). -/
def preemptedEntry (q : ProbeNo) (e : Entry) : Entry :=
  { e with
    state := if e.state = .ready then .pending else e.state
    roles := e.roles.map fun r => if r.probe = q then { r with state := .waiting } else r
    members := e.members.map fun m => if m.probe = q then { m with state := .waiting } else m }

/-- A LIFT of `q` is requested. -/
def liftProbe (q : ProbeNo) (s : State) : State := (requestOrder q .lift s).getD s

/-- The probe stands at its own role's point in the entry. -/
def atOwnPoint (e : Entry) (q : ProbeNo) (pos : Option (Int × Int)) : Bool :=
  e.roles.any fun r => decide (r.probe = q) && decide (pos = some (r.x, r.y))

/-- One conflicting probe of a waiting role of entry `e` is resolved (R81). -/
def resolveConflict (e : Entry) (q : ProbeNo) (s : State) : State :=
  if (probe s q).state ≠ .landed then s
  else
    match holder s q with
    | none => liftProbe q s
    | some h =>
      if h.uid = e.uid then
        if atOwnPoint e q (standing (probe s q)) then s else liftProbe q s
      else if isYounger s e.uid h.uid then
        match requestOrder q .lift s with
        | none => s
        | some s1 => updateEntry h.uid (preemptedEntry q) s1
      else s

/-- A WAITING role is served (R80). -/
def serveRole (u i : Nat) (s : State) : State :=
  match entryOf s u with
  | none => s
  | some e =>
    match e.roles[i]? with
    | none => s
    | some r =>
      if unmeasured e && decide (r.state = .waiting) && holds s u r.probe && (probe s r.probe).order.isNone then
        let pr := probe s r.probe
        if decide (pr.state = .landed) && staysDown r.probe pr r.side r.x r.y && pr.verified then
          updateEntry u (fun e => readyIfContact (withRole i (fun r => { r with state := .contactOk }) e)) s
        else if pr.state = .faulted then failEntry u .motionFault pr.faultCode.toNat s
        else if (conflictSet s e r).isEmpty then
          match requestOrder r.probe (.move r.x r.y) s with
          | none => s
          | some s1 => updateEntry u (withRole i (fun r => { r with state := .ordered })) s1
        else (conflictSet s e r).foldl (fun s q => resolveConflict e q s) s
      else s

/-- The order a mask member asks for (R88, R89). -/
def memberOrder (e : Entry) : Order :=
  match e.kind with
  | .clean => .clean e.cycles
  | .park | .measure | .skipped | .mark | .programError | .landingRefused => .park

/-- A WAITING mask member is served (R88, R89). -/
def serveMember (u i : Nat) (s : State) : State :=
  match entryOf s u with
  | none => s
  | some e =>
    match e.members[i]? with
    | none => s
    | some m =>
      if unmeasured e && decide (m.state = .waiting) && holds s u m.probe && (probe s m.probe).order.isNone then
        let pr := probe s m.probe
        if decide (e.kind = .park) && decide (pr.state = .parked) then
          updateEntry u (fun e => doneIfComplete (withMember i .complete e)) s
        else if decide (e.kind = .clean) && decide (pr.state = .faulted) then
          failEntry u .motionFault pr.faultCode.toNat s
        else
          match requestOrder m.probe (memberOrder e) s with
          | none => s
          | some s1 => updateEntry u (withMember i .ordered) s1
      else s

/-- The probes an entry names, in the order of its roles or members. -/
def namedProbes (e : Entry) : List ProbeNo :=
  match e.kind with
  | .measure => e.roles.map (·.probe)
  | .clean | .park => e.members.map (·.probe)
  | .skipped | .mark | .programError | .landingRefused => []

/-- A pass fails an unmeasured entry other than a PARK entry that holds the reservation of a FAULTED probe (R79). -/
def sweepFaulted (u : Nat) (s : State) : State :=
  match entryOf s u with
  | none => s
  | some e =>
    if decide (e.kind = .park) || !unmeasured e then s
    else
      match (namedProbes e).find? fun p => holds s u p && decide ((probe s p).state = .faulted) with
      | none => s
      | some p => failEntry u .motionFault (probe s p).faultCode.toNat s

/-- One entry is served in a pass: its roles in slot order or its members in probe order (R79). -/
def serveEntry (u : Nat) (s : State) : State :=
  match entryOf s u with
  | none => s
  | some e =>
    sweepFaulted u ((List.range e.members.length).foldl (fun s i => serveMember u i s)
      ((List.range e.roles.length).foldl (fun s i => serveRole u i s) s))

/-- A serving pass, oldest entry first, made while the run state is RUNNING (R79). -/
def servingPass (s : State) : State :=
  if s.rc.run = .running then (s.window.map (·.uid)).foldl (fun s u => serveEntry u s) s else s

/-! ## Completions handed to the window (R83, R107) -/

/-- The place of the role of an entry that owns the probe's MOVE or RETOUCH. -/
def owningRole (e : Entry) (p : ProbeNo) : Option Nat :=
  e.roles.findIdx? fun r =>
    decide (r.probe = p) && (decide (r.state = .ordered) || decide (r.state = .retouching))

/-- A LANDED report has completed a MOVE or RETOUCH: the role that owns it becomes CHECKING and its check is requested
(R83, R119). -/
def roleLanded (p : ProbeNo) (first : Bool) (s : State) : State :=
  match holder s p with
  | none => s
  | some e =>
    match owningRole e p with
    | none => s
    | some i =>
      requestCheck p ⟨e.uid, i, (probe s p).tag, first⟩
        (updateEntry e.uid (withRole i fun r => { r with state := .checking }) s)

/-- A PARKED or CLEANED report has completed an order: the ORDERED member that owns it becomes COMPLETE (R83, R88, R89). -/
def memberCompleted (p : ProbeNo) (k : EntryKind) (s : State) : State :=
  match holder s p with
  | none => s
  | some e =>
    if e.kind = k then
      updateEntry e.uid (fun e => doneIfComplete { e with
        members := e.members.map fun m =>
          if m.probe = p ∧ m.state = .ordered then { m with state := .complete } else m }) s
    else s

/-- A FAULT or an expiry is charged to the unmeasured entry that holds the probe's reservation (R83, R107). -/
def chargeProbe (p : ProbeNo) (c : Cause) (detail : Nat) (s : State) : State :=
  match holder s p with
  | none => s
  | some e => failEntry e.uid c detail s

/-! ## Results of checks (R84, R122..R127) -/

/-- The bank of a number. -/
def bankOf (s : State) (n : Nat) : Bank := s.unit.banks.getD n Bank.reset

/-- The window takes a fail for a CHECKING role (R124, R127). -/
def checkFailed (p : ProbeNo) (e : Entry) (i : Nat) (r : Role) (s : State) : State :=
  if r.retouches < (bankOf s e.bank).retouchLimit then
    let t := retouchTarget (r.retouches + 1) r.pad r.x r.y
    match requestOrder p (.retouch t.1 t.2) s with
    | none => s
    | some s1 =>
      updateEntry e.uid (withRole i fun r => { r with state := .retouching, retouches := r.retouches + 1 }) s1
  else failEntry e.uid .noContact p.val s

/-- The Probe Table acts on a result (R115, R122, R123). -/
def tableResult (p : ProbeNo) (c : CheckRec) (pass : Bool) (s : State) : State :=
  let s1 := if pass && atLanding (probe s p) c then setProbe p { probe s p with verified := true } s else s
  if c.firstTouch then countFirstTouch p pass s1 else s1

/-- The Step Window acts on a result (R84, R122). -/
def windowResult (p : ProbeNo) (c : CheckRec) (pass : Bool) (s : State) : State :=
  match entryOf s c.entry with
  | none => s
  | some e =>
    match e.roles[c.role]? with
    | none => s
    | some r =>
      if decide (r.state = .checking) && decide (s.rc.run = .running) && decide ((probe s p).tag = c.landingTag) then
        if pass then
          updateEntry e.uid (fun e => readyIfContact (withRole c.role (fun r => { r with state := .contactOk }) e)) s
        else checkFailed p e c.role r s
      else s

/-- A loop passes: its resistance in mΩ is at or below the threshold in Ω; an open loop fails (R120). -/
def loopPasses (ohm : Nat) (loop : Option Nat) : Bool :=
  match loop with
  | none => false
  | some r => decide (r ≤ 1000 * ohm)

/-! ## The guard stop, the flush and the discard (R93..R95) -/

/-- What the guard stop does to an entry (R95). -/
def takenBack (e : Entry) : Entry :=
  if unmeasured e then
    match e.kind with
    | .measure => { e with state := .pending, roles := e.roles.map fun r => { r with state := .waiting } }
    | .clean | .park =>
      { e with members := e.members.map fun m => if m.state = .ordered then { m with state := .waiting } else m }
    | .skipped | .mark | .programError | .landingRefused => e
  else e

/-- The window takes its probes back (R95). -/
def takeBack (s : State) : State := { s with window := s.window.map takenBack }

/-- Every entry leaves the window without a record: the measurement is aborted and the window empty (R93, R94). -/
def clearWindow (s : State) : State := { abortMeasurement s with window := [] }

end Sys2Proof.Machine
end

