-- ==== Sys2Proof/Machine/Fetcher.lean ====
section
/-! DEFINITION. The Program Fetcher (spec 03) and the landing checks it makes (spec 04): transactions, the checks of a program
entry, what each kind does at fetch, held entries, snapshots and rewinds. -/

namespace Sys2Proof.Machine

open Sys2Proof

/-! ## Position and transactions -/

/-- A list offset as used: its six lowest bits taken as zero (R38). -/
def listOffset (n : Nat) : Nat := n - n % 64

/-- The offset of the program entry at the fetch position (R38). -/
def entryAddr (f : Fetcher) : Nat := listOffset f.list + 64 * f.index

/-- A transaction can begin (R42). -/
def canBegin (s : State) : Bool :=
  decide (s.rc.run = .running) && decide (s.window.length < Config.windowCapacity) && s.fetch.held.isNone
    && s.fetch.txn.isNone && !hasReq .fetch s && !s.fetch.stopped

/-- The fetcher begins a transaction if it can: the read of the 64-byte entry (R42). DESIGN CHOICE (log entry
41): an entry of any kind is read whole (R183). -/
def beginTxn (s : State) : State :=
  if canBegin s then issue .fetch (entryAddr s.fetch) (.read 16) { s with fetch := { s.fetch with txn := some .entry } }
  else s

/-- The transaction in flight ends with no effect; its read, when it completes, is discarded (R43). -/
def discardTxn (s : State) : State := dropReqs .fetch { s with fetch := { s.fetch with txn := none } }

/-- The fetcher is stopped: transaction and held entry are discarded, position, stack and bank kept (R25, R27, R41, R49). -/
def stopFetcher (s : State) : State :=
  discardTxn { s with fetch := { s.fetch with held := none, stopped := true } }

/-- The fetcher starts at index 0 of a main list (R19, R23, R41). -/
def startList (off : Nat) (s : State) : State :=
  discardTxn { s with fetch := { s.fetch with
    list := off, index := 0, recovery := false, stack := [], bank := 0, held := none, stopped := false } }

/-- The fetch position moves to the next index and the transaction ends. -/
def nextIndex (s : State) : State :=
  { s with fetch := { s.fetch with index := s.fetch.index + 1, txn := none } }

/-! ## Snapshots and placing (R52..R54, R57, R58) -/

/-- The origin area of an entry fetched now (R58). -/
def originArea (s : State) : OriginArea :=
  if s.fetch.recovery then .recovery
  else
    match s.rc.area with
    | .a => .a
    | .b => .b

/-- The snapshot of an entry fetched now (R58). -/
def snapshotNow (s : State) : Snapshot :=
  ⟨⟨originArea s, s.fetch.list, s.fetch.index⟩, s.fetch.stack.length, s.fetch.bank⟩

/-- A window entry made now from a program entry, with nothing of its own kind yet. -/
def blankEntry (s : State) (k : EntryKind) (st : EntryState) (ws : List Word) : Entry where
  uid := s.nextUid
  snap := snapshotNow s
  board := boardPosition s.fetch.stack
  kind := k
  state := st
  cause := none
  detail := 0
  entryByte := fieldByte ws 0x00
  measByte := 0
  slots := []
  roles := []
  members := []
  mask := 0
  cycles := 0
  markValue := 0
  nets := []
  limit := none
  bank := s.fetch.bank
  capture := false
  result := none

/-- An entry is placed as the youngest and the transaction ends. -/
def placeEntry (e : Entry) (s : State) : State :=
  nextIndex { s with window := s.window ++ [e], nextUid := s.nextUid + 1 }

/-- The detail codes of PROGRAM_ERROR (spec 12.4). -/
inductive ProgramError where
  | badKind | badIndex | wrongSide | sameProbeTwice | missingRole | limitsInverted | stackFull | stackEmpty | notInRecovery
  | notAllowedInRecovery | spacingInternal
  deriving DecidableEq, Repr

/-- The code of a program error (spec 12.4). -/
def programErrorCode : ProgramError → Nat
  | .badKind => 1
  | .badIndex => 2
  | .wrongSide => 3
  | .sameProbeTwice => 4
  | .missingRole => 5
  | .limitsInverted => 6
  | .stackFull => 7
  | .stackEmpty => 8
  | .notInRecovery => 9
  | .notAllowedInRecovery => 10
  | .spacingInternal => 11

/-- The measurement kind and role slots as written, for an entry made from a MEASURE entry (R51, R54). -/
def asWritten (ws : List Word) (e : Entry) : Entry :=
  if fieldByte ws 0x00 = 1 then { e with measByte := fieldByte ws 0x01, slots := entrySlots ws } else e

/-- A PROGRAM failure placeholder is placed (R54). -/
def placeProgramError (d : ProgramError) (ws : List Word) (s : State) : State :=
  placeEntry { asWritten ws (blankEntry s .programError .failed ws) with
    cause := some .programError, detail := programErrorCode d } s

/-- A LANDING failure placeholder is placed; `detail` is 1 OUT_OF_REACH or 2 KEEP_OUT (R57). -/
def placeLandingRefused (detail : Nat) (ws : List Word) (pts : List PointRec) (s : State) : State :=
  placeEntry { asWritten ws (blankEntry s .landingRefused .failed ws) with
    cause := some .landingRefused, detail := detail, nets := pts.map (·.net) } s

/-! ## A MEASURE entry (R51, R52, R55, R57) -/

/-- Checks 1 to 4 of R55: the first that fails. -/
def firstChecks (s : State) (ws : List Word) : Option ProgramError :=
  match measKindOf (fieldByte ws 0x01), resolveBank s.fetch.bank (fieldByte ws 0x03) with
  | none, _ => some .badKind
  | _, none => some .badKind
  | some k, some _ =>
    let roles := stepRoles k ws
    if !(requiredSlots k).all (slotPresent ws) then some .missingRole
    else if !(roles.all fun r => decide (slotProbe ws r ≤ 7) && decide (slotPoint ws r < s.settings.pointCount)) then some .badIndex
    else if !((limitIndex ws).all fun n => decide (n < s.settings.limitCount)) then some .badIndex
    else if !decide ((roles.map (slotProbe ws)).Nodup) then some .sameProbeTwice
    else none

/-- Check 5 of R55: the limit record's form fits the step. -/
def limitFormFits (k : MeasKind) (lim : Option LimitRec) : Bool :=
  match k, lim with
  | .cont, some (.cont _ _ _) => true
  | .cont, _ => false
  | _, none => true
  | _, some (.abs _ _) => true
  | _, some (.nomtol _ _ _) => true
  | _, some (.cont _ _ _) => false

/-- Check 6 of R55. -/
def limitsInverted (lim : Option LimitRec) : Bool :=
  match lim with
  | some (.abs lo hi) => decide (hi < lo)
  | some (.nomtol _ _ _) | some (.cont _ _ _) | none => false

/-- The transformed position of a point read now, none where unplaceable (R62..R64). -/
def pointPosition (s : State) (pt : PointRec) : Option (Int × Int) :=
  transform s.corr (panelOffset s.fetch.stack) pt.x pt.y

/-- A role with its side and transformed position, as check 8 compares it. -/
structure Placed where
  name : RoleName
  probe : ProbeNo
  side : Side
  pos : Option (Int × Int)
  deriving DecidableEq, Repr

/-- Two roles of a step conflict (R71). -/
def placedConflict (k : MeasKind) (dMin : Nat) (a b : Placed) : Bool :=
  match a.pos, b.pos with
  | some pa, some pb => decide (a.side = b.side) && !kelvinPair k a.name b.name && spacingConflict dMin pa pb
  | _, _ => false

/-- Some pair of roles conflicts, pairs taken in slot order (R71). -/
def internalConflict (k : MeasKind) (dMin : Nat) : List Placed → Bool
  | [] => false
  | a :: rest => rest.any (placedConflict k dMin a) || internalConflict k dMin rest

/-- The roles of a step with the points read for them. -/
def roleProbe (ws : List Word) (r : RoleName) : ProbeNo := probeOfNat (slotProbe ws r)

/-- The placed roles of a step. -/
def placedRoles (s : State) (k : MeasKind) (ws : List Word) (pts : List PointRec) : List Placed :=
  ((stepRoles k ws).zip pts).map fun rp =>
    ⟨rp.1, roleProbe ws rp.1, probeSide (roleProbe ws rp.1), pointPosition s rp.2⟩

/-- Checks 5 to 8 of R55, with the limit record read: the first that fails. `given` says that the step names a limit. -/
def lastChecks (s : State) (ws : List Word) (pts : List PointRec) (given : Bool) (lim : Option LimitRec) : Option ProgramError :=
  match measKindOf (fieldByte ws 0x01) with
  | none => some .badKind
  | some k =>
    if (given && lim.isNone) || !limitFormFits k lim then some .badKind
    else if limitsInverted lim then some .limitsInverted
    else if !(((stepRoles k ws).zip pts).all fun rp =>
        decide (sideOf rp.2.side = some (probeSide (roleProbe ws rp.1)))) then some .wrongSide
    else if internalConflict k s.settings.dMin (placedRoles s k ws pts) then some .spacingInternal
    else none

/-- The role of a MEASURE entry made from a slot and its point (R52). -/
def makeRole (s : State) (ws : List Word) (r : RoleName) (pt : PointRec) : Role where
  name := r
  probe := roleProbe ws r
  point := slotPoint ws r
  x := ((pointPosition s pt).getD (0, 0)).1
  y := ((pointPosition s pt).getD (0, 0)).2
  side := probeSide (roleProbe ws r)
  net := pt.net
  pad := pt.pad
  state := .waiting
  retouches := 0

/-- A MEASURE entry that has passed every check is placed (R52). -/
def placeMeasure (ws : List Word) (pts : List PointRec) (lim : Option LimitRec) (k : MeasKind) (s : State) : State :=
  placeEntry { asWritten ws (blankEntry s .measure .pending ws) with
    roles := ((stepRoles k ws).zip pts).map fun rp => makeRole s ws rp.1 rp.2
    nets := pts.map (·.net)
    limit := lim
    bank := (resolveBank s.fetch.bank (fieldByte ws 0x03)).getD 0
    capture := fieldFlag ws 0x08 } s

/-- The landing checks from role number `i` on (R57, R65..R67): refused, waiting for the role's keep-out word, or, past the
last role, placed. -/
def landFrom (ws : List Word) (pts : List PointRec) (lim : Option LimitRec) (k : MeasKind) (i : Nat) (s : State) : State :=
  match (stepRoles k ws)[i]?, pts[i]? with
  | some r, some pt =>
    match pointPosition s pt with
    | none => placeLandingRefused 1 ws pts s
    | some (x, y) =>
      let side := probeSide (roleProbe ws r)
      if !inReach (reachOf s.settings side) x y then placeLandingRefused 1 ws pts s
      else
        match keepOutCell s.settings x y with
        | none => placeLandingRefused 1 ws pts s
        | some cell =>
          issue .fetch (keepOutAddr s.settings side cell) (.read 1)
            { s with fetch := { s.fetch with txn := some (.keepOut ws pts lim i) } }
  | _, _ => placeMeasure ws pts lim k s

/-- The keep-out word of role number `i` has been read (R67). -/
def keepOutRead (ws : List Word) (pts : List PointRec) (lim : Option LimitRec) (k : MeasKind) (i : Nat) (w : Word)
    (s : State) : State :=
  match pts[i]? with
  | none => placeMeasure ws pts lim k s
  | some pt =>
    match pointPosition s pt with
    | none => placeLandingRefused 1 ws pts s
    | some (x, y) =>
      match keepOutCell s.settings x y with
      | none => placeLandingRefused 1 ws pts s
      | some cell => if w.getLsbD (cell.1 % 32) then placeLandingRefused 2 ws pts s else landFrom ws pts lim k (i + 1) s

/-- The points and the limit record have been read (R55 from order 5, then R57). -/
def recordsRead (ws : List Word) (pts : List PointRec) (given : Bool) (lim : Option LimitRec) (s : State) : State :=
  match lastChecks s ws pts given lim, measKindOf (fieldByte ws 0x01) with
  | some d, _ => placeProgramError d ws s
  | none, some k => landFrom ws pts lim k 0 s
  | none, none => placeProgramError .badKind ws s

/-- The next point read, or the limit read, or neither (R42). DESIGN CHOICE (log entry 41): a record is read whole (R183). -/
def readPoints (ws : List Word) (pts : List PointRec) (s : State) : State :=
  match measKindOf (fieldByte ws 0x01) with
  | none => placeProgramError .badKind ws s
  | some k =>
    match (stepRoles k ws)[pts.length]? with
    | some r =>
      issue .fetch (s.settings.pointBase + 32 * slotPoint ws r) (.read 8)
        { s with fetch := { s.fetch with txn := some (.points ws pts) } }
    | none =>
      match limitIndex ws with
      | some n =>
        issue .fetch (s.settings.limitBase + 32 * n) (.read 8)
          { s with fetch := { s.fetch with txn := some (.limit ws pts) } }
      | none => recordsRead ws pts false none s

/-- The word of the group-enable map has been read (R51). -/
def groupRead (ws : List Word) (w : Word) (s : State) : State :=
  if w.getLsbD ((fieldByte ws 0x02).toNat % 32) then
    match firstChecks s ws with
    | some d => placeProgramError d ws s
    | none => readPoints ws [] s
  else if s.settings.logSkipped then
    placeEntry (asWritten ws (blankEntry s .skipped .skipped ws)) s
  else
    nextIndex { s with rc := { s.rc with summary := { s.rc.summary with skipped := satSucc s.rc.summary.skipped } } }

/-! ## The other kinds (R44, R47, R50, R53, R56) -/

/-- A CALL (R44, R56). -/
def actCall (ws : List Word) (s : State) : State :=
  if s.fetch.recovery then placeProgramError .notAllowedInRecovery ws s
  else if fieldByte ws 0x10 = 0 then placeProgramError .badIndex ws s
  else if 4 ≤ s.fetch.stack.length then placeProgramError .stackFull ws s
  else
    { s with fetch := { s.fetch with
      stack := s.fetch.stack ++
        [⟨s.fetch.list, s.fetch.index + 1, fieldInt ws 0x08, fieldInt ws 0x0C, (fieldByte ws 0x10).toNat⟩]
      list := fieldNat ws 0x04
      index := 0
      txn := none } }

/-- A drained kind that has passed its checks becomes the held entry (R47). -/
def hold (h : HeldEntry) (s : State) : State := { s with fetch := { s.fetch with held := some h, txn := none } }

/-- A RETURN (R46, R56). -/
def actReturn (ws : List Word) (s : State) : State :=
  if s.fetch.recovery then placeProgramError .notAllowedInRecovery ws s
  else if s.fetch.stack.isEmpty then placeProgramError .stackEmpty ws s
  else hold .ret s

/-- An END or a PAUSE (R47, R56). -/
def actMainOnly (h : HeldEntry) (ws : List Word) (s : State) : State :=
  if s.fetch.recovery then placeProgramError .notAllowedInRecovery ws s else hold h s

/-- A RESUME (R47, R56). DESIGN CHOICE (log entry 46): the mode, for which spec 12.2 gives no width, is the byte at 04h. -/
def actResume (ws : List Word) (s : State) : State :=
  if !s.fetch.recovery then placeProgramError .notInRecovery ws s
  else
    match parseMode (fieldByte ws 0x04) with
    | none => placeProgramError .badKind ws s
    | some m => hold (.resume m) s

/-- A MARK (R53, R90). -/
def actMark (ws : List Word) (s : State) : State :=
  placeEntry { blankEntry s .mark .done ws with markValue := fieldWord ws 0x04 } s

/-- A SETBANK (R50). -/
def actSetBank (ws : List Word) (s : State) : State :=
  if (fieldByte ws 0x04).toNat ≤ 3 then
    nextIndex { s with fetch := { s.fetch with bank := (fieldByte ws 0x04).toNat } }
  else placeProgramError .badKind ws s

/-- The mask of the probes that are service-due now (R53). -/
def dueMask (s : State) : Byte :=
  BitVec.ofNat 8 ((allProbes.map fun p => if (probe s p).due then 2 ^ p.val else 0).sum)

/-- A service entry with its mask: DONE at once where the mask names no probe (R53, R76, R90). -/
def serviceEntry (s : State) (k : EntryKind) (mask : Byte) (cycles : Nat) (ws : List Word) : Entry :=
  { blankEntry s k (if mask = 0 then .done else .pending) ws with
    mask := mask
    cycles := cycles
    members := (maskProbes mask).map fun p => ⟨p, .waiting⟩ }

/-- A CLEAN (R40, R53). DESIGN CHOICE (log entry 46): the cycle count, for which spec 12.2 gives no width, is the byte at 06h. -/
def actClean (ws : List Word) (s : State) : State :=
  placeEntry (serviceEntry s .clean (if fieldFlag ws 0x05 then dueMask s else fieldByte ws 0x04)
    (clampNat 1 15 (fieldByte ws 0x06).toNat) ws) s

/-- A PARK (R40, R53). -/
def actPark (ws : List Word) (s : State) : State := placeEntry (serviceEntry s .park (fieldByte ws 0x04) 0 ws) s

/-- A MEASURE: the word of the group-enable map is read before any check (R51). -/
def actMeasure (ws : List Word) (s : State) : State :=
  issue .fetch (s.settings.groupBase + 4 * ((fieldByte ws 0x02).toNat / 32)) (.read 1)
    { s with fetch := { s.fetch with txn := some (.group ws) } }

/-- A program entry has been read and acts by its kind byte (R38, spec 12.2). -/
def entryRead (ws : List Word) (s : State) : State :=
  match (fieldByte ws 0x00).toNat with
  | 1 => actMeasure ws s
  | 2 => actCall ws s
  | 3 => actReturn ws s
  | 4 => actMainOnly .endOfArea ws s
  | 5 => actMainOnly .pause ws s
  | 6 => actMark ws s
  | 7 => actSetBank ws s
  | 8 => actClean ws s
  | 9 => actPark ws s
  | 10 => actResume ws s
  | _ => placeProgramError .badKind ws s

/-- A read of the transaction in flight has returned its words (R42). -/
def txnRead (data : List Word) (s : State) : State :=
  match s.fetch.txn with
  | none => s
  | some .entry => entryRead data s
  | some (.group ws) => groupRead ws (data.getD 0 0) s
  | some (.points ws pts) => readPoints ws (pts ++ [parsePoint data]) s
  | some (.limit ws pts) => recordsRead ws pts true (parseLimit data) s
  | some (.keepOut ws pts lim i) =>
    match measKindOf (fieldByte ws 0x01) with
    | none => placeProgramError .badKind ws s
    | some k => keepOutRead ws pts lim k i (data.getD 0 0) s

/-! ## Release and rewind (R46..R48, R59) -/

/-- A held entry is released: the window is empty and the run state is RUNNING. The Diversion Unit's action for the last
removal has always completed, since it is part of that removal's step (R47). -/
def mayRelease (s : State) : Bool := s.window.isEmpty && decide (s.rc.run = .running)

/-- The innermost frame is popped and fetching goes on at its return point (R46). -/
def popFrame (s : State) : State :=
  match s.fetch.stack.getLast? with
  | none => { s with fetch := { s.fetch with held := none } }
  | some f =>
    { s with fetch := { s.fetch with held := none, list := f.list, index := f.index, stack := s.fetch.stack.dropLast } }

/-- The rewind "enter recovery" (R59). -/
def rewindRecovery (list bank : Nat) (snap : Snapshot) (s : State) : State :=
  discardTxn { s with fetch := { s.fetch with
    list := list, index := 0, recovery := true, stack := s.fetch.stack.take snap.depth, bank := bank, held := none
    stopped := false } }

/-- The rewinds "return at" and, with `after`, "return after" (R59). -/
def rewindReturn (after : Bool) (bank : Nat) (snap : Snapshot) (s : State) : State :=
  discardTxn { s with fetch := { s.fetch with
    list := snap.origin.list, index := snap.origin.index + (if after then 1 else 0), recovery := false
    stack := s.fetch.stack.take snap.depth, bank := bank, held := none, stopped := false } }

end Sys2Proof.Machine
end

