-- ==== Sys2Proof/Machine/RunFlow.lean ====
section
/-! DEFINITION. The Run Controller's own sequences (spec 02): run begin, entering HALTED and STOPPING, the parking and the
closing writes, chaining, and the consequences that follow a step at once. -/

namespace Sys2Proof.Machine

open Sys2Proof

/-! ## Shared sequences -/

/-- The words a run-word field write starts at: the summary at 20h of the current area's run word (spec 12.1). -/
def currentRunWord (s : State) : Nat := runWordAddr s.settings.anchorBase s.rc.area

/-- Nothing of the Run Controller's or the logger's own reads and writes is acted on any more (R17, R21, R23, R176). -/
def dropRunReqs (s : State) : State :=
  dropReqs .loading (dropReqs .ready (dropReqs .runWord (dropReqs .areaWrite (dropReqs .stoppingWrite (dropReqs .release s)))))

/-- The log hold ends without room (R176). -/
def endHold (s : State) : State :=
  { s with log := { s.log with held := false, waiting := false, ahead := 0, readAgain := false } }

/-- What STOP and HALTED entry both do (R25, R27): the fetcher is stopped, the measurement aborted, the window discarded,
the Diversion Unit made inactive; and the log hold and the sequences in progress end. DESIGN CHOICE (log entry 32): an
AREA_DONE notice that is queued but not yet being written stays queued and is written; nothing waits for it (R21). DESIGN
CHOICE (log entry 40): a release read that ROOM made while held was clear is discarded too, and so is one it asked for
(R176). -/
def endActivity (s : State) : State :=
  let s1 := endHold (clearWindow (stopFetcher s))
  clearNoticeMarks (dropRunReqs { s1 with
    div := { s1.div with active := false }
    rc := { s1.rc with areaSeq := none, stopSeq := none, loadStep := none, readyAgain := false } })

/-! ## HALTED entry (R27) -/

/-- The phase after a wear record or the summary. -/
def nextClose (underWay : Bool) : ClosePhase → ClosePhase
  | .wear p => if p < 7 then .wear (p + 1) else if underWay then .summary else .notice
  | .summary => .notice
  | .notice => .notice

/-- The first phase: the wear table where R36 calls for it, the summary if a run was under way, the notice. -/
def firstClose (wear underWay : Bool) : ClosePhase :=
  if wear then .wear 0 else if underWay then .summary else .notice

/-- The next write of the oldest HALTED entry is made; past its writes RUN_END is made pending and its RUN_ENDED notice
requested (R27). -/
def runHaltSeqs : List HaltSeq → State → State
  | [], s => { s with rc := { s.rc with haltSeqs := [] } }
  | h :: t, s =>
    match h.phase with
    | .wear p =>
      issue .haltWrite (h.wearBase + 8 * p) (.write (wearWords (probe s (probeOfNat p))))
        { s with rc := { s.rc with haltSeqs := h :: t } }
    | .summary =>
      issue .haltWrite (h.runWordAddr + 0x20) (.write (summaryWords h.summary))
        { s with rc := { s.rc with haltSeqs := h :: t } }
    | .notice =>
      runHaltSeqs t (requestNotice .runEnded (BitVec.ofNat 32 (endCodeCode h.endCode)) h.causes .halt (pendRunEnd s))

/-- The oldest HALTED entry's write has ended; the next is made. -/
def advanceHalt (s : State) : State :=
  match s.rc.haltSeqs with
  | [] => s
  | h :: t => runHaltSeqs ({ h with phase := nextClose h.underWay h.phase } :: t) s

/-- The device enters HALTED with an end code (R27); `causes` is the second parameter of RUN_ENDED (R181). In HALTED already,
nothing changes (R14, R169). -/
def enterHalted (code : EndCode) (causes : Word) (s : State) : State :=
  if s.rc.run = .halted then s
  else
    let wear := s.rc.loadedGood && decide (s.rc.run ≠ .starting)
    let s1 := endActivity s
    let s2 := { s1 with rc := { s1.rc with run := .halted, endCode := code, underWay := false, endCauses := causes } }
    if code = .badAnchor then pendRunEnd (ringOutOfForce s2)
    else
      let h : HaltSeq := ⟨firstClose wear s.rc.underWay, s.settings.wearBase, currentRunWord s, s.rc.underWay, s.rc.summary,
        code, causes⟩
      match s2.rc.haltSeqs with
      | [] => runHaltSeqs [h] s2
      | q :: qs => { s2 with rc := { s2.rc with haltSeqs := (q :: qs) ++ [h] } }

/-! ## Parking by the Run Controller (R22, R25) -/

/-- The parking marks of one probe. -/
def setParkMark (p : ProbeNo) (m : ParkMark) (s : State) : State :=
  { s with rc := { s.rc with parking := s.rc.parking.set p m } }

/-- A PARK is requested for a probe that is not PARKED, unless one issued since the entry has already failed (R22, R25). -/
def parkOne (p : ProbeNo) (s : State) : State :=
  if decide ((probe s p).state = .parked) || decide (s.rc.parking.get p = .failed) then s
  else
    match requestOrder p .park s with
    | none => s
    | some s1 => setParkMark p .issued s1

/-- PARK is requested for every probe in turn (R22, R25). DESIGN CHOICE (log entry 43): where several are asked for at once,
in probe order, P0 first, which is the order on the link (R99). -/
def parkAll (s : State) : State := allProbes.foldl (fun s p => parkOne p s) s

/-- A FAULT or an expiry has ended an order: a PARK issued by the Run Controller itself is marked failed (R22, R25). -/
def markParkFailed (p : ProbeNo) (o : Option Order) (s : State) : State :=
  if decide (o = some .park) && decide (s.rc.parking.get p = .issued) then setParkMark p .failed s else s

/-! ## STOPPING (R25, R26) -/

/-- The device enters STOPPING with the end code to be set on completion (R22, R25). -/
def enterStopping (code : EndCode) (s : State) : State :=
  { s with rc := { s.rc with
    run := .stopping, pendingEnd := code, parking := Per.all .none, parkGivenUp := false, stopSeq := none } }

/-- No order, STOP included, is outstanding (R26). -/
def noOrders (s : State) : Bool := s.link.stop.isNone && allProbes.all fun p => (probe s p).order.isNone

/-- Every probe is PARKED, or FAULTED by a PARK issued in this STOPPING (R26). -/
def allParked (s : State) : Bool :=
  allProbes.all fun p =>
    decide ((probe s p).state = .parked)
      || (decide ((probe s p).state = .faulted) && decide (s.rc.parking.get p = .failed))

/-- STOPPING completes (R26). -/
def stoppingComplete (s : State) : Bool :=
  noOrders s && s.rc.haltSeqs.isEmpty && (allParked s || guardOpen s || s.rc.parkGivenUp || !s.link.up)

/-- RUN_END is made pending and the device enters IDLE (R26). -/
def finishStopping (s : State) : State :=
  pendRunEnd { s with rc := { s.rc with
    run := .idle, endCode := s.rc.pendingEnd, underWay := false, stopSeq := none } }

/-- A closing write of STOPPING is made (R26). With the notice ring out of force there is no notice to wait for. DESIGN CHOICE
(log entry 33): a RUN_ENDED held because 16 requests are queued (R180) is waited for until it has been written. -/
def runStopPhase (ph : ClosePhase) (s : State) : State :=
  let s1 := { s with rc := { s.rc with stopSeq := some ph } }
  match ph with
  | .wear p => issue .stoppingWrite (s.settings.wearBase + 8 * p) (.write (wearWords (probe s (probeOfNat p)))) s1
  | .summary => issue .stoppingWrite (currentRunWord s + 0x20) (.write (summaryWords s.rc.summary)) s1
  | .notice =>
    if s.notice.inForce then
      requestNotice .runEnded (BitVec.ofNat 32 (endCodeCode s.rc.pendingEnd)) s.rc.endCauses .stopping s1
    else finishStopping s1

/-- In STOPPING, probes are parked and, once STOPPING completes, the closing writes begin (R25, R26). -/
def stoppingSettle (s : State) : State :=
  if s.rc.run = .stopping ∧ s.rc.stopSeq = none then
    let s1 := if s.rc.parkGivenUp then s else parkAll s
    if stoppingComplete s1 then
      runStopPhase (firstClose (s1.rc.loadedGood && decide (s1.rc.pendingEnd ≠ .badAnchor)) s1.rc.underWay) s1
    else s1
  else s

/-! ## Chaining (R21..R23) -/

/-- The READY word of the other area's run word is read (R23). -/
def readReady (s : State) : State :=
  issue .ready (runWordAddr s.settings.anchorBase s.rc.area.other) (.read 1) s

/-- The device enters CHAIN_WAIT (R23). -/
def enterChainWait (s : State) : State :=
  readReady (requestNotice .chainWaitEntered (BitVec.ofNat 32 (areaCode s.rc.area.other)) 0 .plain
    { s with rc := { s.rc with run := .chainWait, readyAgain := false } })

/-- The device enters BOARD_WAIT for a board change (R22). -/
def enterBoardChange (s : State) : State :=
  requestNotice .boardWaitEntered 2 0 .plain
    { s with rc := { s.rc with
      run := .boardWait, waitKind := .change, seenAbsent := !boardPresent s, parking := Per.all .none } }

/-- Once the last area-completion write has completed and the run state is RUNNING, the move of R21 is made. -/
def areaMove (s : State) : State :=
  if s.rc.areaSeq = some .move ∧ s.rc.run = .running then
    let s1 := { s with rc := { s.rc with areaSeq := none } }
    if !s.rc.follow then enterStopping .finished s1
    else if s.rc.boardChange then enterBoardChange s1
    else enterChainWait s1
  else s

/-! ## Run begin (R19) -/

/-- The Result Logger at run begin (R171). A read that ROOM has made or asked for stands (R4, R20). -/
def loggerRunBegin (s : State) : State :=
  let s1 := { s with log := { s.log with fill := 0, release := 0, nextSeq := 1, capFill := 0, held := false } }
  issue .captureFill (s.settings.anchorBase + 0x108) (.write [0])
    (issue .logFill (s.settings.anchorBase + 0x100) (.write [0]) s1)

/-- The Diversion Unit at run begin (R160). -/
def divRunBegin (d : DivUnit) : DivUnit :=
  { d with active := false, firstCause := none, secondCause := none, retryCount := 0, retryOrigin := none }

/-- A FAULTED probe becomes UNKNOWN at run begin (R19, R98). -/
def unfault (r : Probe) : Probe := if r.state = .faulted then { r with state := .unknown } else r

/-- The run gets under way (R19); the caller sets the run state. -/
def runBegin (s : State) : State :=
  let s1 := startList s.rc.mainList (mapProbes unfault (loggerRunBegin s))
  { s1 with
    rc := { s1.rc with time := 0, summary := Summary.zero, underWay := true, areaSeq := none }
    div := divRunBegin s1.div }

/-! ## BOARD_WAIT (R20, R22) -/

/-- The board-change wait is over: every probe PARKED or given up, seen-absent set and a board present (R22). -/
def boardChangeOver (s : State) : Bool :=
  (allProbes.all fun p => decide ((probe s p).state = .parked) || decide (s.rc.parking.get p = .failed))
    && s.rc.seenAbsent && boardPresent s

/-- In BOARD_WAIT, the wait goes on or ends (R20, R22). -/
def boardSettle (s : State) : State :=
  if s.rc.run ≠ .boardWait then s
  else
    match s.rc.waitKind with
    | .seatAtStart =>
      if boardPresent s then
        let s1 := runBegin s
        { s1 with rc := { s1.rc with run := .running } }
      else s
    | .seatAtSwitch => if boardPresent s then { s with rc := { s.rc with run := .running } } else s
    | .change =>
      let s1 := parkAll { s with rc := { s.rc with seenAbsent := s.rc.seenAbsent || !boardPresent s } }
      if boardChangeOver s1 then enterChainWait s1 else s1

/-! ## What follows a step at once -/

/-- The consequences of a step that the table gives no step of their own: the move after an area, the end of a BOARD_WAIT,
parking and its completion, the serving pass, the next transaction (R20..R22, R25, R26, R42, R79); and the interlock of the
source (R133). -/
def settle (s : State) : State := interlock (beginTxn (servingPass (stoppingSettle (boardSettle (areaMove s)))))

/-- A step ends with its consequences. -/
def finish (s : State) : Host.Outcome State Fault Refusal := .next (sealPort (settle s))

/-- A step that has no such consequences ends. -/
def done (s : State) : Host.Outcome State Fault Refusal := .next (sealPort s)

/-! ## Notices written (R180) -/

/-- The notice at the front of the queue is waited for by the given sequence. -/
def frontMark (s : State) (m : NoticeMark) : Bool :=
  match s.notice.queue with
  | [] => false
  | n :: _ => decide (n.mark = m)

/-- What waited for a written notice goes on (R21, R26). -/
def afterNotice (m : NoticeMark) (s : State) : State :=
  match m with
  | .area => { s with rc := { s.rc with areaSeq := some .move } }
  | .stopping => finishStopping s
  | .plain | .halt => s

/-- The fill index and wrap count after one notice (R180). -/
def advanceFill (n : NoticeUnit) : NoticeUnit :=
  { n with
    fill := (n.fill + 1) % Config.noticeRingSize
    wrap := if n.fill = 127 then (n.wrap + 1) % 65536 else n.wrap }

/-- The record of the queue's oldest request has been acknowledged (R180). -/
def noticeWritten (s : State) : State :=
  match s.notice.queue with
  | [] => s
  | n :: q =>
    let s1 := { s with notice := advanceFill { s.notice with queue := q } }
    let s2 := issue .noticeFill (s.settings.anchorBase + 0x10C) (.write [noticeFillWord s1.notice.fill s1.notice.wrap]) s1
    let s3 := if s.settings.noticeMask.getLsbD n.kind.code then pendNotice s2 else s2
    startNotice (afterNotice n.mark (refillNotices s3))

/-- A notice record write completes; none where there is none to complete. A discarded request's record changes memory only
(R179). -/
def completeNotice (s : State) : Option State :=
  match serve .notice s with
  | none => none
  | some (r, _, s1) => some (if r.live then noticeWritten s1 else startNotice s1)

end Sys2Proof.Machine
end

