-- ==== Sys2Proof/Machine/Diversion.lean ====
section
/-! DEFINITION. The Diversion Unit (spec 10): what it does with each entry removed from the head, entering and leaving a
diversion, and the halts it requests. -/

namespace Sys2Proof.Machine

open Sys2Proof

/-- The diversion table entry of a cause (R158, R159). -/
def tableEntry (s : State) (c : Cause) : DivEntry := s.div.table.get (probeOfNat (causeCode c - 1))

/-- A flush: the window is emptied without records, and the fetcher's held entry and transaction are discarded (R93). -/
def flush (s : State) : State :=
  let s1 := discardTxn (clearWindow s)
  { s1 with fetch := { s1.fetch with held := none } }

/-- Step 1 of R161: the retry bookkeeping of a removal. -/
def retryBookkeeping (e : Entry) (s : State) : State :=
  if s.div.active then s
  else if decide (s.div.retryOrigin = some e.snap.origin) && decide (e.state = .failed) then s
  else { s with div := { s.div with retryCount := 0, retryOrigin := none } }

/-- The causes word of a HALTED_BY_TABLE halt: the first cause when a diversion is active at the request (R181). -/
def tableHaltCauses (s : State) : Word :=
  if s.div.active then BitVec.ofNat 32 (causeCodeOpt s.div.firstCause) else 0

/-- The action HALT (R163, R166, R167, R168). -/
def haltByTable (s : State) : State := enterHalted .haltedByTable (tableHaltCauses s) (flush s)

/-- A recovery failure whose action is DIVERT: the second cause is set and the run halts (R168, R181). -/
def haltDoubleFault (c : Cause) (s : State) : State :=
  let s1 := flush { s with div := { s.div with secondCause := some c } }
  enterHalted .doubleFault (wordOfHalves (causeCodeOpt s.div.firstCause) (causeCode c)) s1

/-- Diversion entry for a cause, from the snapshot of the removed entry (R164). -/
def enterDiversion (after : Bool) (c : Cause) (snap : Snapshot) (s : State) : State :=
  let t := tableEntry s c
  let s1 := flush s
  let s2 := rewindRecovery t.list t.bank snap { s1 with div := { s1.div with
    returnPoint := some snap
    returnAfter := after
    savedBank := snap.bank
    firstCause := some c
    secondCause := none } }
  requestNotice .divertEntered (BitVec.ofNat 32 (causeCode c)) (BitVec.ofNat 32 snap.origin.index) .plain
    { s2 with div := { s2.div with active := true } }

/-- The retry budget of an origin is spent (R162). -/
def budgetSpent (t : DivEntry) (e : Entry) (s : State) : Bool :=
  decide (s.div.retryOrigin = some e.snap.origin) && decide (t.budget ≤ s.div.retryCount)

/-- What a failure does while no diversion is active (R162, R163). -/
def decideFailure (c : Cause) (e : Entry) (s : State) : State :=
  let t := tableEntry s c
  match (if budgetSpent t e s then t.exhausted else t.action) with
  | .continue_ => s
  | .divert => enterDiversion false c e.snap s
  | .halt => haltByTable s

/-- What a failure does inside a recovery list (R168). -/
def decideRecoveryFailure (c : Cause) (s : State) : State :=
  match (tableEntry s c).action with
  | .continue_ => s
  | .divert => haltDoubleFault c s
  | .halt => haltByTable s

/-- Step 2 of R161. -/
def failureStep (e : Entry) (s : State) : State :=
  match e.state, e.cause with
  | .failed, some c => if s.div.active then decideRecoveryFailure c s else decideFailure c e s
  | _, _ => s

/-- Some probe is service-due (R116, R167). -/
def anyDue (s : State) : Bool := allProbes.any fun p => (probe s p).due

/-- Step 3 of R161: the tip-service test after the removal of an entry (R167). -/
def tipService (e : Entry) (s : State) : State :=
  if s.div.active || decide (s.rc.run = .halted) || !anyDue s then s
  else
    match (tableEntry s .tipService).action with
    | .continue_ => s
    | .divert => enterDiversion true .tipService e.snap s
    | .halt => haltByTable s

/-- The Diversion Unit acts on a removal (R161). -/
def takeRemoval (e : Entry) (s : State) : State := tipService e (failureStep e (retryBookkeeping e s))

/-- The head leaves the window and is handed to the Diversion Unit (R91, R161). -/
def removeHead (e : Entry) (s : State) : State := takeRemoval e { s with window := s.window.drop 1 }

/-- The code of a RESUME mode (spec 12.2). -/
def modeCode : ResumeMode → Nat
  | .retry => 1
  | .next => 2
  | .halt => 3

/-- The retry count after a RETRY: a failure diversion counts it, a tip-service diversion does not (R166). -/
def countRetry (p : Snapshot) (d : DivUnit) : DivUnit :=
  if d.returnAfter then d else { d with retryCount := d.retryCount + 1, retryOrigin := some p.origin }

/-- A diversion ends: the active flag is cleared and the notice requested (R166). -/
def endDiversion (m : ResumeMode) (s : State) : State :=
  requestNotice .divertReturned (BitVec.ofNat 32 (modeCode m)) (BitVec.ofNat 32 s.div.retryCount) .plain
    { s with div := { s.div with active := false } }

/-- A released RESUME (R48, R166). -/
def resumeDiversion (m : ResumeMode) (s : State) : State :=
  match m, s.div.returnPoint with
  | .halt, _ => haltByTable s
  | .retry, some p =>
    endDiversion .retry (rewindReturn s.div.returnAfter s.div.savedBank p { s with div := countRetry p s.div })
  | .next, some p => endDiversion .next (rewindReturn true s.div.savedBank p s)
  | .retry, none => s
  | .next, none => s

end Sys2Proof.Machine
end

