-- ==== Sys2Proof/Machine/Logging.lean ====
section
/-! DEFINITION. The Result Logger and the Notice Unit's writes (spec 11): taking the head, the room test and the log hold, the
record, capture and notice writes. -/

namespace Sys2Proof.Machine

open Sys2Proof

/-! ## The head and the room test (R91, R174, R176) -/

/-- Heads leave the window in RUNNING and GUARD_HOLD (R91). -/
def headsLeave (s : State) : Bool := decide (s.rc.run = .running) || decide (s.rc.run = .guardHold)

/-- The head the window offers to the logger (R91). -/
def offeredHead (s : State) : Option Entry :=
  match s.window with
  | [] => none
  | e :: _ =>
    if headsLeave s && !unmeasured e && decide (e.kind ≠ .mark) then some e else none

/-- The room left: (release − fill − 1) modulo L (R174). -/
def logRoom (s : State) : Nat := (((s.log.release : Int) - s.log.fill - 1) % (s.settings.logSize : Int)).toNat

/-- Room exists (R174). -/
def hasRoom (s : State) : Bool := decide (1 ≤ logRoom s)

/-- The logger's filter keeps the record of an entry: a passing MEASURE record is dropped when LOG_PASSES is clear (R174). -/
def keepsRecord (t : Settings) (e : Entry) : Bool :=
  !(decide (recordKindCode e.kind = 1) && decide (entryClass e = .pass)) || t.logPasses

/-- The area summary after a removal through the logger (R35, R92). -/
def countRemoval (e : Entry) (t : Summary) : Summary :=
  { t with
    logged := satSucc t.logged
    passed := if e.kind = .measure ∧ e.state = .done ∧ entryClass e = .pass then satSucc t.passed else t.passed
    failed := if e.state = .failed then satSucc t.failed else t.failed
    skipped := if e.state = .skipped then satSucc t.skipped else t.skipped }

/-- A kept record is numbered and its write issued (R174, R175). -/
def writeRecord (e : Entry) (s : State) : State :=
  if keepsRecord s.settings e then
    issue .record (s.settings.logBase + 64 * s.log.fill) (.write (recordWords s.log.nextSeq s.rc.time e))
      { s with log := { s.log with nextSeq := s.log.nextSeq + 1, writingSeq := s.log.nextSeq, busy := true } }
  else s

/-- A STEP_FAILED notice for a FAILED head (R174, R181). -/
def noticeFailure (seq : Nat) (e : Entry) (s : State) : State :=
  if s.settings.noticeFailures && decide (e.state = .failed) then
    requestNotice .stepFailed (BitVec.ofNat 32 (causeCodeOpt e.cause)) (BitVec.ofNat 32 seq) .plain s
  else s

/-- The logger takes the head (R174). -/
def takeHead (e : Entry) (s : State) : State :=
  let s1 := writeRecord e s
  let s2 := { s1 with rc := { s1.rc with summary := countRemoval e s1.rc.summary } }
  removeHead e (noticeFailure s.log.nextSeq e s2)

/-- The log release index is read (R176). DESIGN CHOICE (log entry 42): the word read is that of the anchor block last loaded
(0 after a reset), also in a STOPPING entered from STARTING before the anchor block read has completed. -/
def readRelease (s : State) : State := issue .release (s.settings.anchorBase + 0x104) (.read 1) s

/-- The second read that ROOM asked for is made (R4). -/
def readReleaseAgain (s : State) : State := readRelease { s with log := { s.log with readAgain := false } }

/-- The head has failed the room test: the release index is read for it, behind the reads of ROOM that are in flight (R11,
R176). -/
def waitForRoom (s : State) : State :=
  readRelease { s with log := { s.log with waiting := true, ahead := countLive .release s } }

/-- HEAD_TAKEN (R174). A head is taken while the logger is neither busy nor held nor waiting for its release read. -/
def execHeadTaken (s : State) : Host.Outcome State Fault Refusal :=
  match offeredHead s with
  | none => .next s
  | some e =>
    if s.log.busy || s.log.held || s.log.waiting then .next s
    else if hasRoom s then finish (takeHead e s)
    else finish (waitForRoom s)

/-- The second parameter of a MARK notice (R181, spec 12.4). -/
def markParameter (e : Entry) : Word := BitVec.ofNat 32 (e.snap.origin.index % 16777216 + 16777216 * e.board)

/-- MARK_REMOVED (R91). -/
def execMarkRemoved (s : State) : Host.Outcome State Fault Refusal :=
  match s.window with
  | [] => .next s
  | e :: _ =>
    if headsLeave s && decide (e.kind = .mark) then
      finish (removeHead e (requestNotice .mark e.markValue (markParameter e) .plain s))
    else .next s

/-! ## The log (R175..R177) -/

/-- The half and wrap notices of an advance of the fill index to `f` (R177). -/
def logMarks (f seq : Nat) (s : State) : State :=
  if f = s.settings.logSize / 2 then requestNotice .logHalf (BitVec.ofNat 32 f) (BitVec.ofNat 32 seq) .plain s
  else if f = 0 then requestNotice .logWrap 0 (BitVec.ofNat 32 seq) .plain s
  else s

/-- The record write has been acknowledged (R175). -/
def recordWritten (s : State) : State :=
  let f := (s.log.fill + 1) % s.settings.logSize
  let s1 := issue .logFill (s.settings.anchorBase + 0x100) (.write [BitVec.ofNat 32 f])
    { s with log := { s.log with fill := f } }
  let s2 := logMarks f s.log.writingSeq s1
  { s2 with log := { s2.log with busy := false } }

/-- RECORD_WRITE_COMPLETE (R175). -/
def execRecordWriteComplete (s : State) : Host.Outcome State Fault Refusal :=
  match serve .record s with
  | none => .next s
  | some (_, _, s1) => done (recordWritten s1)

/-- The logger sets held (R176). -/
def setHeld (s : State) : State :=
  pendLogHeld (requestNotice .logHeld (BitVec.ofNat 32 s.log.fill) (BitVec.ofNat 32 s.log.release) .plain
    { s with log := { s.log with held := true, waiting := false } })

/-- The room test after a read of the release index, for a head that waits for its read or while held (R176). DESIGN CHOICE
(log entry 37): while a capture hand-off keeps the logger busy, held is cleared or set at once, and a head for which room was
found is taken by a later HEAD_TAKEN, which tests the room again. -/
def roomRetest (s : State) : State :=
  if s.log.waiting || s.log.held then
    if hasRoom s then
      let s1 := { s with log := { s.log with held := false, waiting := false } }
      match offeredHead s1 with
      | some e => if s1.log.busy then s1 else takeHead e s1
      | none => s1
    else if s.log.held then s
    else setHeld s
  else s

/-- A read of the release index has returned `v` (R176): the room test acts on its own read; a read of ROOM's made before that
read gives its value only, and any other is answered by a room test where the logger is held. A second read asked for by ROOM
decides in place of the one it followed (R4). -/
def releaseRead (v : Word) (s : State) : State :=
  let s1 := { s with log := { s.log with release := v.toNat % s.settings.logSize, ahead := s.log.ahead - 1 } }
  if s.log.waiting && decide (s.log.ahead = 0) then roomRetest s1
  else if s.log.readAgain then readReleaseAgain s1
  else if s.log.waiting then s1
  else roomRetest s1

/-- RELEASE_READ_COMPLETE (R176). -/
def execReleaseReadComplete (s : State) : Host.Outcome State Fault Refusal :=
  match serve .release s with
  | none => .next s
  | some (r, ws, s1) => if r.live then finish (releaseRead (ws.getD 0 0) s1) else done s1

/-- RELEASE_POLL: the 1 ms read while held, suspended in GUARD_HOLD (R31, R176). -/
def execReleasePoll (s : State) : Host.Outcome State Fault Refusal :=
  if s.log.held && decide (s.rc.run ≠ .guardHold) && !hasLive .release s then done (readRelease s) else .next s

/-! ## Notices (R180) -/

/-- NOTICE_WRITE_COMPLETE (R180). -/
def execNoticeWriteComplete (s : State) : Host.Outcome State Fault Refusal :=
  match completeNotice s with
  | none => .next s
  | some s1 => finish s1

end Sys2Proof.Machine
end

