-- ==== Sys2Proof/Machine/Measuring.lean ====
section
/-! DEFINITION. Contact checks ending (spec 07) and the Measurement Unit's steps from the take to the completion, with the
capture hand-off to the Result Logger (spec 08, R178). -/

namespace Sys2Proof.Machine

open Sys2Proof

/-! ## Contact checks -/

/-- CHECK_END (R120, R122): the slot is freed or takes its held record, then the Probe Table and the window act. -/
def execCheckEnd (p : ProbeNo) (loop : Option Nat) (s : State) : Host.Outcome State Fault Refusal :=
  match (s.checks.get p).running with
  | none => .next s
  | some c =>
    let pass := loopPasses s.settings.contactOhm loop
    let s1 := { s with checks := s.checks.set p (endedSlot (unitIdle s) (probe s p) (s.checks.get p)) }
    finish (windowResult p c pass (tableResult p c pass s1))

/-! ## The take (R86, R132, R133) -/

/-- The range of the first attempt (R132). -/
def firstRange (k : MeasKind) (b : Bank) : Nat :=
  match k with
  | .diode => 2
  | .cont => 1
  | .res2 | .res4 | .cap => b.startInForce

/-- The probe of a role of an entry. -/
def probeInRole (n : RoleName) (e : Entry) : ProbeNo :=
  ((e.roles.find? fun r => decide (r.name = n)).map (·.probe)).getD 0

/-- The entry has a guard role (R132). -/
def hasGuardRole (e : Entry) : Bool := e.roles.any fun r => decide (r.name = .guard)

/-- An attempt that has begun. -/
def freshAttempt : Attempt := ⟨[], 0, false, 0, false⟩

/-- The state an attempt begins in: a settle time of 0 passes to ACQUIRING at once (R134). -/
def attemptPhase (b : Bank) : UnitPhase := if b.settle = 0 then .acquiring else .settling

/-- The step record of an entry taken now (R132). -/
def takenStep (s : State) (e : Entry) (k : MeasKind) : StepRec where
  phase := attemptPhase (bankOf s e.bank)
  entry := e.uid
  kind := k
  bank := e.bank
  hi := probeInRole .forceHi e
  lo := probeInRole .forceLo e
  hasGuard := hasGuardRole e
  range := firstRange k (bankOf s e.bank)
  tried := [firstRange k (bankOf s e.bank)]
  changes := 0
  start := s.rc.time
  elapsed := 0
  attempt := freshAttempt
  rangeLimited := false
  final := none

/-- The conditions of R86 and the interlock of R133, with the measurement kind. -/
def mayTake (s : State) (e : Entry) : Bool :=
  unitIdle s && decide (s.rc.run = .running) && decide (e.kind = .measure) && decide (e.state = .ready) && interlockClosed s e

/-- The unit takes an entry (R132). -/
def takeEntry (e : Entry) (k : MeasKind) (s : State) : State :=
  updateEntry e.uid (fun e => { e with state := .measuring }) { s with unit := { s.unit with
    step := some (takenStep s e k), sourceOn := true, guardOn := hasGuardRole e } }

/-- MEASUREMENT_TAKE (R86, R132). -/
def execMeasurementTake (s : State) : Host.Outcome State Fault Refusal :=
  match oldestUnmeasured s with
  | none => .next s
  | some e =>
    match measKindOf e.measByte with
    | none => .next s
    | some k => if mayTake s e then .next (takeEntry e k s) else .next s

/-! ## Settling and acquisition (R134..R136) -/

/-- The state with the step record replaced. -/
def setStep (r : StepRec) (s : State) : State := { s with unit := { s.unit with step := some r } }

/-- SETTLE_ELAPSED (R134). -/
def execSettleElapsed (s : State) : Host.Outcome State Fault Refusal :=
  match s.unit.step with
  | none => .next s
  | some r =>
    if r.phase = .settling then
      .next (setStep { r with phase := .acquiring, elapsed := r.elapsed + 100 * (bankOf s r.bank).settle } s)
    else .next s

/-- A sample at an end of the converter's range (R135). -/
def isSaturating (v : BitVec 20) : Bool := decide (v.toInt = -524288) || decide (v.toInt = 524287)

/-- An attempt with one more sample (R135). -/
def addSample (v : BitVec 20) (t : Attempt) : Attempt :=
  { t with samples := t.samples ++ [v.toInt], sum := t.sum + v.toInt, saturated := t.saturated || isSaturating v }

/-- The step record after one more sample: the N-th ends the acquisition; a sample takes 8 µs (R135). -/
def sampledStep (b : Bank) (v : BitVec 20) (r : StepRec) : StepRec :=
  let t := addSample v r.attempt
  { r with
    attempt := t
    elapsed := r.elapsed + 800
    phase := if sampleCount b ≤ t.samples.length then .judging else .acquiring }

/-- SAMPLE (R135). -/
def execSample (v : BitVec 20) (s : State) : Host.Outcome State Fault Refusal :=
  match s.unit.step with
  | none => .next s
  | some r =>
    if r.phase = .acquiring ∧ r.kind ≠ .cap then .next (setStep (sampledStep (bankOf s r.bank) v r) s) else .next s

/-- The step record after a ramp that ended (R136). -/
def rampedStep (ticks : Nat) (crossed : Bool) (r : StepRec) : StepRec :=
  { r with
    attempt := { r.attempt with ticks := ticks, crossed := crossed }
    elapsed := r.elapsed + ticks
    phase := .judging }

/-- RAMP_CROSSING, at a tick number within 1..T_max (R136). -/
def execRampCrossing (ticks : Nat) (s : State) : Host.Outcome State Fault Refusal :=
  match s.unit.step with
  | none => .next s
  | some r =>
    if r.phase = .acquiring ∧ r.kind = .cap ∧ 1 ≤ ticks ∧ ticks ≤ (bankOf s r.bank).tMax then
      .next (setStep (rampedStep ticks true r) s)
    else .next s

/-- RAMP_TIME_LIMIT (R136). -/
def execRampTimeLimit (s : State) : Host.Outcome State Fault Refusal :=
  match s.unit.step with
  | none => .next s
  | some r =>
    if r.phase = .acquiring ∧ r.kind = .cap then .next (setStep (rampedStep (bankOf s r.bank).tMax false r) s) else .next s

/-! ## Judging (R137, R138) -/

/-- The range a wish names (R137); none for keep. -/
def wishTarget : Wish → Nat → Option Int
  | .keep, _ => none
  | .up, i => some (i + 1)
  | .down, i => some (i - 1)

/-- A range change is granted (R137). -/
def grantsRange (b : Bank) (r : StepRec) (target : Int) : Bool :=
  b.autoInForce && decide ((b.floor : Int) ≤ target) && decide (target ≤ b.ceiling)
    && !r.tried.contains target.toNat && decide (r.changes < b.maxChanges)

/-- The step record after a granted range change (R137). -/
def rangedStep (b : Bank) (target : Nat) (r : StepRec) : StepRec :=
  { r with
    phase := attemptPhase b
    range := target
    tried := r.tried ++ [target]
    changes := r.changes + 1
    attempt := freshAttempt }

/-- The attempt is final: source and guard driver off, the classification awaited (R138). -/
def finalAttempt (limited : Bool) (r : StepRec) (s : State) : State :=
  { s with unit := { s.unit with
    step := some { r with phase := .classifying, rangeLimited := limited }, sourceOn := false, guardOn := false } }

/-- The unit acts on the range wish of the attempt (R137). -/
def judgeAttempt (r : StepRec) (s : State) : State :=
  let b := bankOf s r.bank
  match wishTarget (attemptWish r.kind b r.attempt) r.range with
  | none => finalAttempt false r s
  | some target => if grantsRange b r target then setStep (rangedStep b target.toNat r) s else finalAttempt true r s

/-- ATTEMPT_JUDGED, with the time the computation took in µs (R137). -/
def execAttemptJudged (micros : Nat) (s : State) : Host.Outcome State Fault Refusal :=
  match s.unit.step with
  | none => .next s
  | some r =>
    if r.phase = .judging then .next (judgeAttempt { r with elapsed := r.elapsed + 100 * micros } s) else .next s

/-! ## Completion (R87, R139, R142) -/

/-- The null the calculator reads for the step's force probes (R130). -/
def nullOf (s : State) (r : StepRec) : Nat :=
  match r.kind with
  | .res2 => (s.unit.resNull.get r.hi).get r.lo
  | .cap => (s.unit.capNull.get r.hi).get r.lo
  | .res4 | .diode | .cont => 0

/-- The value of the final attempt (R144..R149). -/
def finalValue (s : State) (r : StepRec) : Int := attemptValue r.kind r.range (bankOf s r.bank) (nullOf s r) r.attempt

/-- The duration in µs: a hundredth of the 10 ns ticks counted, saturating (R139). -/
def durationOf (r : StepRec) : Nat := min maxCount (r.elapsed / 100)

/-- The results handed to the window (R139). -/
def readingOf (r : StepRec) (value : Int) (cls : Classification) (ovr : Bool) (cap : Option (Nat × Nat)) : Reading where
  value := value
  range := r.range
  changes := r.changes
  rangeLimited := r.rangeLimited
  overrange := ovr
  cls := cls
  start := r.start
  duration := durationOf r
  capture := cap

/-- The cause and detail a classification gives an entry; none for PASS (R87). -/
def failureOf : Classification → Option (Cause × Nat)
  | .failLow => some (.measureFail, 1)
  | .failHigh => some (.measureFail, 2)
  | .marginal => some (.measureFail, 3)
  | .overrange => some (.overrange, 0)
  | .pass | .noContact | .motionFault | .motionTimeout | .landingRefused | .programError | .skipped => none

/-- A MEASURING entry with its results (R87). -/
def measuredEntry (g : Reading) (e : Entry) : Entry :=
  match failureOf g.cls with
  | none => { e with state := .done, result := some g }
  | some (c, d) => { e with state := .failed, cause := some c, detail := d, result := some g }

/-- The step completes: the window records the results, the unit is idle, deferred checks start (R87, R121, R139). -/
def completeStep (r : StepRec) (g : Reading) (s : State) : State :=
  startDeferred (updateEntry r.entry (measuredEntry g) { s with unit := { s.unit with
    step := none, sourceOn := false, guardOn := false } })

/-- The step waits for a capture hand-off: PASS with the capture flag set, other than CAP (R139). -/
def wantsCapture (s : State) (r : StepRec) (cls : Classification) : Bool :=
  decide (cls = .pass) && decide (r.kind ≠ .cap) && ((entryOf s r.entry).map (·.capture)).getD false

/-- The classification of the final attempt against the entry's limit copy (R138, R157). -/
def finalClass (s : State) (r : StepRec) : Classification :=
  classify r.kind ((entryOf s r.entry).bind (·.limit)) r.attempt (finalValue s r)

/-- CLASSIFICATION_RETURNED (R139). -/
def execClassificationReturned (s : State) : Host.Outcome State Fault Refusal :=
  match s.unit.step with
  | none => .next s
  | some r =>
    if r.phase = .classifying then
      let value := finalValue s r
      let cls := finalClass s r
      let ovr := isOverrange r.kind r.attempt
      if wantsCapture s r cls then .next (setStep { r with phase := .handoff, final := some (value, cls, ovr) } s)
      else finish (completeStep r (readingOf r value cls ovr none) s)
    else .next s

/-! ## The capture hand-off (R142, R178) -/

/-- The words of the samples, each sign-extended (R142). -/
def sampleWords (t : Attempt) : List Word := t.samples.map fun v => BitVec.ofInt 32 v

/-- The sample writes: one request, or two where the words wrap to the start of the ring (R178). -/
def issueCapture (ws : List Word) (s : State) : State :=
  let fit := (s.settings.capSize - s.log.capFill) / 4
  let s1 := issue .capture (s.settings.capBase + s.log.capFill) (.write (ws.take fit)) s
  if ws.length ≤ fit then s1 else issue .capture s.settings.capBase (.write (ws.drop fit)) s1

/-- CAPTURE_HANDOFF: the free logger takes the hand-off (R178). -/
def execCaptureHandoff (s : State) : Host.Outcome State Fault Refusal :=
  match s.unit.step with
  | none => .next s
  | some r =>
    if r.phase = .handoff ∧ s.log.busy = false then
      let s1 := setStep { r with phase := .captureWriting } { s with log := { s.log with busy := true } }
      done (issueCapture (sampleWords r.attempt) s1)
    else .next s

/-- The marks of an advance of the capture fill offset (R178). -/
def captureMarks (old new : Nat) (s : State) : State :=
  if new < old then requestNotice .captureWrap (BitVec.ofNat 32 new) 0 .plain s
  else if old < s.settings.capSize / 2 ∧ s.settings.capSize / 2 ≤ new then
    requestNotice .captureHalf (BitVec.ofNat 32 new) 0 .plain s
  else s

/-- Every sample word has been acknowledged: steps 1 to 5 of R178, and the step completes (R139). -/
def captureTaken (r : StepRec) (s : State) : State :=
  let n := r.attempt.samples.length
  let o := s.log.capFill
  let o' := (o + 4 * n) % s.settings.capSize
  let s1 := issue .captureFill (s.settings.anchorBase + 0x108) (.write [BitVec.ofNat 32 o'])
    { s with log := { s.log with capFill := o' } }
  let s2 := captureMarks o o' s1
  let s3 := { s2 with log := { s2.log with busy := false } }
  match r.final with
  | some (value, cls, ovr) => completeStep r (readingOf r value cls ovr (some (o, n))) s3
  | none => s3

/-- A capture request has been acknowledged: busy lasts until the last of the hand-off (R178). -/
def captureAcked (live : Bool) (s : State) : State :=
  if hasReq .capture s then s
  else
    match live, s.unit.step with
    | true, some r =>
      if r.phase = .captureWriting then captureTaken r s else { s with log := { s.log with busy := false } }
    | _, _ => { s with log := { s.log with busy := false } }

/-- CAPTURE_WRITE_COMPLETE (R142, R178). -/
def execCaptureWriteComplete (s : State) : Host.Outcome State Fault Refusal :=
  match serve .capture s with
  | none => .next s
  | some (r, _, s1) => finish (captureAcked r.live s1)

end Sys2Proof.Machine
end

