-- ==== Sys2Proof/Machine/Commands.lean ====
section
/-! DEFINITION. What the host does at the Register Window (spec 01): the six commands, undefined codes, register writes and the
CAUSE read. A refused command sets REFUSED and changes nothing else (R3, R7). -/

namespace Sys2Proof.Machine

open Sys2Proof

/-! ## START_A and START_B (R3, R4, R17) -/

/-- START is taken in IDLE and HALTED, and so is an ANCHOR write (R2, R3). -/
def atRest (s : State) : Bool := decide (s.rc.run = .idle) || decide (s.rc.run = .halted)

/-- STARTING is entered (R17). -/
def enterStarting (which : Area) (s : State) : State :=
  { s with
    rc := { s.rc with
      run := .starting
      endCode := .none
      area := which
      time := 0
      guardSeenOpen := guardOpen s
      loadStep := some .anchor
      endCauses := 0 }
    notice := { s.notice with pend := { s.notice.pend with memoryError := false, runEnd := false } } }

/-- START is taken: the first loading read, or a bad anchor judged without any read (R2, R17, R18). -/
def startRun (which : Area) (s : State) : State :=
  let s1 := enterStarting which s
  if anchorGood s.regs.anchor.toNat then issue .loading s.regs.anchor.toNat (.read 36) s1 else enterHalted .badAnchor 0 s1

/-- START_A (R17). -/
def execStartA (s : State) : Host.Outcome State Fault Refusal :=
  if atRest s then done (startRun .a s) else .next (setRefused s)

/-- START_B (R17). -/
def execStartB (s : State) : Host.Outcome State Fault Refusal :=
  if atRest s then done (startRun .b s) else .next (setRefused s)

/-! ## CONTINUE (R3, R4, R31) -/

/-- CONTINUE is taken in PAUSED: the fetcher resumes at the entry after the PAUSE (R24). -/
def continuePaused (s : State) : State :=
  { s with rc := { s.rc with run := .running }, fetch := { s.fetch with stopped := false } }

/-- CONTINUE is taken in GUARD_HOLD: the remembered state is entered (R31). A board change parks its probes afresh. -/
def continueHold (s : State) : State :=
  let s1 := { s with rc := { s.rc with run := s.rc.remembered } }
  match s.rc.remembered with
  | .chainWait => readReady { s1 with rc := { s1.rc with readyAgain := false } }
  | .boardWait => { s1 with rc := { s1.rc with parking := Per.all .none } }
  | .idle | .starting | .running | .paused | .guardHold | .stopping | .halted => s1

/-- CONTINUE in GUARD_HOLD needs STOPPED received and the guard closed (R3). -/
def holdOver (s : State) : Bool := s.rc.stoppedReceived && !guardOpen s

/-- CONTINUE (R4, R31). -/
def execContinueRun (s : State) : Host.Outcome State Fault Refusal :=
  match s.rc.run with
  | .paused => finish (continuePaused s)
  | .guardHold => if holdOver s then finish (continueHold s) else .next (setRefused s)
  | .idle | .starting | .running | .chainWait | .boardWait | .stopping | .halted => .next (setRefused s)

/-! ## STOP, ROOM (R4, R25) -/

/-- STOP (R25). STOP from HALTED enters STOPPING without the steps of R25 and keeps the end code. -/
def execStop (s : State) : Host.Outcome State Fault Refusal :=
  match s.rc.run with
  | .starting | .running | .paused | .chainWait | .boardWait | .guardHold => finish (enterStopping .aborted (endActivity s))
  | .halted => finish (enterStopping s.rc.endCode s)
  | .idle | .stopping => .next (setRefused s)

/-- The run states in which ROOM reads the release index (R4). -/
def roomReads (s : State) : Bool :=
  match s.rc.run with
  | .running | .paused | .chainWait | .boardWait | .guardHold | .stopping => true
  | .idle | .starting | .halted => false

/-- ROOM's read of the release index; one more after a re-read of ROOM's or of the poll's in flight (R4). The read that the
room test has made for itself is no such re-read (log entry 19). -/
def roomRelease (s : State) : State :=
  if (if s.log.waiting then 1 else 0) < countLive .release s then { s with log := { s.log with readAgain := true } }
  else readRelease s

/-- ROOM's read of READY in CHAIN_WAIT; one more after a read in flight (R4, R23). -/
def roomReady (s : State) : State :=
  if s.rc.run = .chainWait then
    if hasLive .ready s then { s with rc := { s.rc with readyAgain := true } } else readReady s
  else s

/-- ROOM (R4). -/
def execRoom (s : State) : Host.Outcome State Fault Refusal :=
  if roomReads s then done (roomReady (roomRelease s)) else .next s

/-! ## The registers (R1, R2, R3, R5, R8, R9) -/

/-- UNDEFINED_COMMAND_CODE (R3, R7): refused. A code that names a command is another row's; here it changes nothing. -/
def execUndefinedCommandCode (code : Byte) (s : State) : Host.Outcome State Fault Refusal :=
  if isCommandCode code then .next s else .next (setRefused s)

/-- ANCHOR_WRITE (R2). -/
def execAnchorWrite (value : Word) (s : State) : Host.Outcome State Fault Refusal :=
  if atRest s then .next { s with regs := { s.regs with anchor := value } } else .next (setRefused s)

/-- STATE_WRITE: bits 16 to 19 written as 1 clear POR, PIN, SOFT and REFUSED (R5, spec 12.5). -/
def execStateWrite (value : Word) (s : State) : Host.Outcome State Fault Refusal :=
  .next { s with regs := { s.regs with
    porFlag := s.regs.porFlag && !value.getLsbD 16
    pinFlag := s.regs.pinFlag && !value.getLsbD 17
    softFlag := s.regs.softFlag && !value.getLsbD 18
    refused := s.regs.refused && !value.getLsbD 19 } }

/-- CAUSE_READ: the value read is kept in causeRead, and its source cleared (R8, R182). DESIGN CHOICE (log entry 45): bits 31 to 3,
which spec 12.5 does not name for CAUSE, read 0. -/
def execCauseRead (s : State) : Host.Outcome State Fault Refusal :=
  let c := causeOf s.notice.pend s.regs.irqEnable
  .next { s with
    regs := { s.regs with causeRead := BitVec.ofNat 32 c }
    notice := { s.notice with pend := clearCause c s.notice.pend } }

/-- IRQ_ENABLE_WRITE (R9). -/
def execIrqEnableWrite (value : Word) (s : State) : Host.Outcome State Fault Refusal :=
  .next { s with regs := { s.regs with irqEnable := sourcesOfWord value } }

/-- IGNORED_REGISTER_WRITE: a write to IDENT or CAUSE (R1, R8). -/
def execIgnoredRegisterWrite (_reg : IgnoredRegister) (_value : Word) (s : State) : Host.Outcome State Fault Refusal :=
  .next s

/-! ## Resets (R6, R13, R37) -/

/-- A line after a reset: its filter restarts over the raw level, reading `lvl` (R28). -/
def lineAfterReset (lvl : Bool) (l : Line) : Line := Line.restart l.raw lvl

/-- What every reset leaves (R37), with the registers and probe records given: the device's reset values, over the machine's
own lines and link; STOP is sent where the link is up. Outstanding writes are cut at an open place (log entry 5). -/
def resetWith (regs : RegWindow) (probes : Per Probe) (s : State) : State :=
  { State.reset with
    pending := s.pending
    mem := abandonWrites s.mem (Config.wordsWrittenAtReset s.free) s.port.reqs
    regs := regs
    rc := { RunControl.reset with
      guardLine := lineAfterReset true s.rc.guardLine, boardLine := lineAfterReset false s.rc.boardLine }
    link := ⟨probes, if s.link.up then some Config.stopDeadlineMs else none, s.link.up, []⟩
    free := s.free + 1 }

/-- POR (R6, R37). -/
def execPor (s : State) : Host.Outcome State Fault Refusal := .next (resetWith RegWindow.reset (Per.all Probe.reset) s)

/-- PIN (R6, R37). -/
def execPin (s : State) : Host.Outcome State Fault Refusal :=
  .next (resetWith { RegWindow.reset with porFlag := false, pinFlag := true } (Per.all Probe.reset) s)

/-- A probe record after SOFT: the counts and the service-due flag are kept (R37, R98). -/
def softProbe (r : Probe) : Probe := { Probe.reset with touch := r.touch, miss := r.miss, due := r.due }

/-- The registers after SOFT (R2, R6, R7, R9). -/
def softRegs (r : RegWindow) : RegWindow := { r with softFlag := true, refused := false, causeRead := 0 }

/-- SOFT_RESET (R4, R37). -/
def execSoftReset (s : State) : Host.Outcome State Fault Refusal :=
  .next (resetWith (softRegs s.regs) (s.link.probes.map softProbe) s)

end Sys2Proof.Machine
end

