-- ==== Sys2Proof/Machine/Lines.lean ====
section
/-! DEFINITION. The machine lines, the link status and the time stamp (spec 02, sections 2.6 and 2.7). A level change, a link
change or a tick that the present levels do not allow changes nothing (log entry 7). -/

namespace Sys2Proof.Machine

open Sys2Proof

/-! ## Lines (R28) -/

/-- A line of the machine. -/
def lineOf (l : MachineLine) (s : State) : Line :=
  match l with
  | .guard => s.rc.guardLine
  | .board => s.rc.boardLine

/-- The state with a line replaced. -/
def setLine (l : MachineLine) (v : Line) (s : State) : State :=
  match l with
  | .guard => { s with rc := { s.rc with guardLine := v } }
  | .board => { s with rc := { s.rc with boardLine := v } }

/-- RAW_LINE_CHANGE (R28): the filtered level does not move. -/
def execRawLineChange (l : MachineLine) (level : Bool) (s : State) : Host.Outcome State Fault Refusal :=
  .next (setLine l { lineOf l s with raw := level } s)

/-- FIRST_LEVEL_TAKEN (R28): no change, no source, no notice. -/
def execFirstLevelTaken (l : MachineLine) (s : State) : Host.Outcome State Fault Refusal :=
  if (lineOf l s).taken then .next s
  else finish (setLine l { lineOf l s with filtered := (lineOf l s).raw, taken := true } s)

/-- The filtered level of a line can change to `level`: the raw line has held it, and it is not the first level (R28). -/
def canChange (v : Line) (level : Bool) : Bool := v.taken && decide (v.raw = level) && decide (v.filtered ≠ level)

/-- The notice of a guard change, in every run state but IDLE (R28, R181). -/
def guardNotice (k : NoticeKind) (s : State) : State :=
  if s.rc.run = .idle then s else requestNotice k (BitVec.ofNat 32 (runCode s.rc.run)) 0 .plain s

/-- GUARD_HOLD is entered and the state left is remembered; the CHAIN_WAIT reads in flight are discarded (R23, R29). -/
def enterGuardHold (s : State) : State :=
  let s1 := dropReqs .ready (dropReqs .runWord s)
  { s1 with rc := { s1.rc with run := .guardHold, remembered := s.rc.run, readyAgain := false } }

/-- The further effect of the guard opening by run state (R29). -/
def guardByState (s : State) : State :=
  match s.rc.run with
  | .running | .paused | .chainWait | .boardWait => enterGuardHold s
  | .starting => { s with rc := { s.rc with guardSeenOpen := true } }
  | .stopping => { s with rc := { s.rc with parkGivenUp := true } }
  | .guardHold | .idle | .halted => s

/-- What the guard opening does to the lines, the link and the front end (R28, R29, R30). -/
def guardStop (s : State) : State :=
  let s1 := { s with rc := { s.rc with
    guardLine := { s.rc.guardLine with filtered := true }, stoppedReceived := false } }
  abortMeasurement (sendStop (voidOrders (guardNotice .guardOpened (pendGuard s1))))

/-- GUARD_OPENED (R28, R29). -/
def execGuardOpened (s : State) : Host.Outcome State Fault Refusal :=
  if canChange s.rc.guardLine true then finish (guardByState (guardStop s)) else .next s

/-- GUARD_CLOSED (R28, R31). -/
def execGuardClosed (s : State) : Host.Outcome State Fault Refusal :=
  if canChange s.rc.guardLine false then
    finish (guardNotice .guardClosed (pendGuard { s with rc := { s.rc with
      guardLine := { s.rc.guardLine with filtered := false } } }))
  else .next s

/-- The seen-absent flag of a board change that a GUARD_HOLD interrupts (R22). -/
def seeAbsent (s : State) : State :=
  if s.rc.remembered = .boardWait ∧ s.rc.waitKind = .change then { s with rc := { s.rc with seenAbsent := true } } else s

/-- The effect of a board loss by run state (R22, R32): in GUARD_HOLD no second STOP is sent. -/
def boardLossByState (s : State) : State :=
  match s.rc.run with
  | .running | .paused => enterHalted .boardLost 0 (abortMeasurement (sendStop (voidOrders s)))
  | .guardHold =>
    if s.rc.remembered = .running ∨ s.rc.remembered = .paused then
      enterHalted .boardLost 0 (abortMeasurement (voidOrders s))
    else seeAbsent s
  | .idle | .starting | .chainWait | .boardWait | .stopping | .halted => s

/-- BOARD_LOST (R28, R32). -/
def execBoardLost (s : State) : Host.Outcome State Fault Refusal :=
  if canChange s.rc.boardLine false then
    finish (boardLossByState { s with rc := { s.rc with boardLine := { s.rc.boardLine with filtered := false } } })
  else .next s

/-- BOARD_SEATED (R20, R22, R28): the waits it may end are settled with the step. -/
def execBoardSeated (s : State) : Host.Outcome State Fault Refusal :=
  if canChange s.rc.boardLine true then
    finish { s with rc := { s.rc with boardLine := { s.rc.boardLine with filtered := true } } }
  else .next s

/-! ## The link (R33, R111) -/

/-- A run halts with LINK_LOST in every run state but IDLE and HALTED (R30, R33). -/
def loseLink (s : State) : State := if atRest s then s else enterHalted .linkLost 0 s

/-- LINK_DOWN (R33, R111). -/
def execLinkDown (s : State) : Host.Outcome State Fault Refusal :=
  if s.link.up then
    let s1 := voidOrders s
    finish (loseLink (abortMeasurement (allUnknown { s1 with link := { s1.link with stop := none, up := false } })))
  else .next s

/-- LINK_UP (R33, R111). -/
def execLinkUp (s : State) : Host.Outcome State Fault Refusal :=
  if s.link.up then .next s else finish (sendStop { s with link := { s.link with up := true } })

/-! ## The time stamp (R34) -/

/-- The counter wraps to 0 and the notice is requested (R34). -/
def wrapTime (s : State) : State := requestNotice .timeWrap 0 0 .plain { s with rc := { s.rc with time := 0 } }

/-- TIME_STAMP_TICK (R34): outside IDLE the counter advances; an advance from 4,294,967,295 is the wrap. -/
def execTimeStampTick (s : State) : Host.Outcome State Fault Refusal :=
  if s.rc.run = .idle then .next s
  else if s.rc.time = BitVec.allOnes 32 then done (wrapTime s)
  else .next { s with rc := { s.rc with time := s.rc.time + 1 } }

/-- TIME_WRAP (R34): the tick of a counter that stands at 4,294,967,295. -/
def execTimeWrap (s : State) : Host.Outcome State Fault Refusal :=
  if s.rc.run ≠ .idle ∧ s.rc.time = BitVec.allOnes 32 then done (wrapTime s) else .next s

end Sys2Proof.Machine
end

