-- ==== Sys2Proof/Machine/Reports.lean ====
section
/-! DEFINITION. Reports of the motion controller and the deadlines of orders (spec 06, section 6.3 and 6.4). A report that
answers no outstanding order is stale: it is discarded and counted (R103). -/

namespace Sys2Proof.Machine

open Sys2Proof

/-- The probe's outstanding order, if a report with the tag answers it by probe and tag (R101). -/
def answered (p : ProbeNo) (tag : BitVec 4) (s : State) : Option Order :=
  if (probe s p).tag = tag then (probe s p).order else none

/-- A stale report (R103). -/
def staleReport (s : State) : Host.Outcome State Fault Refusal := .next (countStale s)

/-- A MOVE or RETOUCH has completed (R102, R114, R83); `first` for a MOVE. -/
def landProbe (p : ProbeNo) (first : Bool) (s : State) : State :=
  roleLanded p first (addTouch p (endOrder p (completedProbe .landed (probe s p)) s))

/-- LANDED (R102, R103). -/
def execLanded (p : ProbeNo) (tag : BitVec 4) (s : State) : Host.Outcome State Fault Refusal :=
  match answered p tag s with
  | some (.move _ _) => finish (landProbe p true s)
  | some (.retouch _ _) => finish (landProbe p false s)
  | some .lift | some .park | some (.clean _) | none => staleReport s

/-- LIFTED (R102, R103). -/
def execLifted (p : ProbeNo) (tag : BitVec 4) (s : State) : Host.Outcome State Fault Refusal :=
  match answered p tag s with
  | some .lift => finish (endOrder p (completedProbe .lifted (probe s p)) s)
  | some (.move _ _) | some (.retouch _ _) | some .park | some (.clean _) | none => staleReport s

/-- PARKED (R102, R103, R112). -/
def execParked (p : ProbeNo) (tag : BitVec 4) (s : State) : Host.Outcome State Fault Refusal :=
  match answered p tag s with
  | some .park => finish (memberCompleted p .park (endOrder p (completedProbe .parked (probe s p)) s))
  | some (.move _ _) | some (.retouch _ _) | some .lift | some (.clean _) | none => staleReport s

/-- A cleaned probe: LIFTED, counts and service-due flag cleared (R113). -/
def cleanedProbe (r : Probe) : Probe := { completedProbe .lifted r with touch := 0, miss := 0, due := false }

/-- CLEANED (R102, R103, R113). -/
def execCleaned (p : ProbeNo) (tag : BitVec 4) (s : State) : Host.Outcome State Fault Refusal :=
  match answered p tag s with
  | some (.clean _) => finish (memberCompleted p .clean (endOrder p (cleanedProbe (probe s p)) s))
  | some (.move _ _) | some (.retouch _ _) | some .lift | some .park | none => staleReport s

/-- The probe is a role probe of the entry being measured (R104). -/
def measuredProbe (p : ProbeNo) (s : State) : Bool :=
  match measuredEntryOf s with
  | some e => e.roles.any fun r => decide (r.probe = p)
  | none => false

/-- A probe faults with a code: its measurement is aborted, a park of the Run Controller's is done with, and the reserving
unmeasured entry is charged (R83, R104, R105, R107). -/
def faultProbe (p : ProbeNo) (code : Byte) (c : Cause) (detail : Nat) (s : State) : State :=
  let s1 := endOrder p (faultedProbe code (probe s p)) s
  let s2 := if measuredProbe p s then abortMeasurement s1 else s1
  chargeProbe p c detail (markParkFailed p (probe s p).order s2)

/-- FAULT (R104): taken whatever its tag. -/
def execFault (p : ProbeNo) (_tag : BitVec 4) (code : Byte) (s : State) : Host.Outcome State Fault Refusal :=
  finish (faultProbe p (reportCode code) .motionFault (reportCode code).toNat s)

/-- ORDER_DEADLINE_EXPIRY (R105). -/
def execOrderDeadlineExpiry (p : ProbeNo) (s : State) : Host.Outcome State Fault Refusal :=
  if (probe s p).order.isSome then finish (faultProbe p 0 .motionTimeout p.val s) else .next s

/-- The STOP state becomes none, every probe UNKNOWN, and the measurement ends (R110, R133). -/
def stopEnded (s : State) : State := abortMeasurement (allUnknown { s with link := { s.link with stop := none } })

/-- STOPPED (R30, R95, R110). -/
def execStopped (s : State) : Host.Outcome State Fault Refusal :=
  if s.link.stop.isSome then
    let s1 := takeBack (stopEnded s)
    finish { s1 with rc := { s1.rc with stoppedReceived := true } }
  else staleReport s

/-- STOP_DEADLINE_EXPIRY (R30, R110). -/
def execStopDeadlineExpiry (s : State) : Host.Outcome State Fault Refusal :=
  if s.link.stop.isSome then finish (loseLink (stopEnded s)) else .next s

end Sys2Proof.Machine
end

