-- ==== Sys2Proof/Machine/Loading.lean ====
section
/-! DEFINITION. START loading (R17, R18), the fetcher's reads (R42), the release of held entries (R46..R48, R166), the area
completion (R21), chaining (R23), the closing writes (R26, R27) and memory errors (R14). -/

namespace Sys2Proof.Machine

open Sys2Proof

/-! ## START loading (R17, R18) -/

/-- The next loading read. DESIGN CHOICE (log entry 41): a record is read whole, the words no field names with the others
(R183). -/
def loadNext (st : LoadStep) (addr words : Nat) (s : State) : State :=
  issue .loading addr (.read words) { s with rc := { s.rc with loadStep := some st } }

/-- The read of the chosen run word. DESIGN CHOICE (log entry 41): it is read whole (R183). -/
def loadRunWord (s : State) : State := loadNext .runWord (currentRunWord s) 16 s

/-- A START fails in IDLE with an end code (R18). -/
def failStart (code : EndCode) (s : State) : State :=
  requestNotice .runEnded (BitVec.ofNat 32 (endCodeCode code)) 0 .plain
    (pendRunEnd { s with rc := { s.rc with run := .idle, endCode := code, loadStep := none } })

/-- The device records what the run word holds (R18, R23). -/
def recordRunWord (ws : List Word) (s : State) : State :=
  { s with
    corr := parseCorrection ws
    rc := { s.rc with
      follow := (fieldWord ws 0x04).getLsbD 0
      boardChange := (fieldWord ws 0x04).getLsbD 1
      mainList := fieldNat ws 0x08
      doneCount := fieldWord ws 0x1C } }

/-- The run state after a START that succeeds, or GUARD_HOLD remembering it (R18). -/
def startInto (st : RunState) (s : State) : State :=
  if s.rc.guardSeenOpen then { s with rc := { s.rc with run := .guardHold, remembered := st } }
  else { s with rc := { s.rc with run := st } }

/-- The checks of R18 in their order. -/
def startChecks (ws : List Word) (s : State) : State :=
  if fieldNat ws 0x08 % 64 ≠ 0 then enterHalted .badAnchor 0 s
  else if (fieldWord ws 0x00).getLsbD 0 = false then failStart .notReady s
  else if s.link.up = false then enterHalted .linkLost 0 s
  else
    let s1 := recordRunWord ws { s with rc := { s.rc with loadStep := none } }
    if boardPresent s then startInto .running (runBegin s1)
    else
      startInto .boardWait (requestNotice .boardWaitEntered 1 0 .plain
        { s1 with rc := { s1.rc with waitKind := .seatAtStart } })

/-- The anchor block has been read: the settings are taken and checked (R10, R17, R179). DESIGN CHOICE (log entry 41): the
record of bank 0 is read whole (R183). -/
def anchorRead (base : Nat) (ws : List Word) (s : State) : State :=
  let t := parseSettings base ws
  let s1 := { s with settings := t, rc := { s.rc with loadedGood := settingsGood t } }
  if settingsGood t then loadNext (.bank 0) t.bankBase 8 (ringIntoForce s1) else enterHalted .badAnchor 0 s1

/-- Bank `n` has been read and replaces the bank held; the next bank is read, or after bank 3 the null tables (R17, R129).
DESIGN CHOICE (log entry 41): a bank record is read whole (R183). -/
def bankRead (n : Nat) (ws : List Word) (s : State) : State :=
  let s1 := { s with unit := { s.unit with banks := s.unit.banks.set n (parseBank ws) } }
  if n < 3 then loadNext (.bank (n + 1)) (s.settings.bankBase + 32 * (n + 1)) 8 s1
  else loadNext .nulls s.settings.nullBase 128 s1

/-- Entry `n` of the diversion table has been read and replaces the entry held; the next entry is read, or after entry 7 the
wear table where LOAD_WEAR is set, else the run word (R17, R36, R159). DESIGN CHOICE (log entry 41): a diversion entry is
read whole (R183). -/
def diversionRead (n : Nat) (ws : List Word) (s : State) : State :=
  let s1 := { s with div := { s.div with table := s.div.table.set (probeOfNat n) (parseDivEntry ws) } }
  if n < 7 then loadNext (.diversion (n + 1)) (s.settings.divBase + 16 * (n + 1)) 4 s1
  else if s.settings.loadWear then loadNext .wear s.settings.wearBase 16 s1
  else loadRunWord s1

/-- A loading read has returned its words (R17, R36). DESIGN CHOICE (log entry 41): each record it asks for next is read whole
(R183). -/
def loadingRead (base : Nat) (ws : List Word) (s : State) : State :=
  match s.rc.loadStep with
  | none => s
  | some .anchor => anchorRead base ws s
  | some (.bank n) => bankRead n ws s
  | some .nulls =>
    loadNext (.diversion 0) s.settings.divBase 4 { s with unit := { s.unit with
      resNull := parseNulls 100000 (ws.take 64), capNull := parseNulls 1000000 (ws.drop 64) } }
  | some (.diversion n) => diversionRead n ws s
  | some .wear => loadRunWord (loadWear ws s)
  | some .runWord => startChecks ws s

/-- LOADING_READ_COMPLETE (R17, R18). A read that completes after STARTING was left is discarded. -/
def execLoadingReadComplete (s : State) : Host.Outcome State Fault Refusal :=
  match serve .loading s with
  | none => .next s
  | some (r, ws, s1) => if r.live && decide (s.rc.run = .starting) then finish (loadingRead r.addr ws s1) else finish s1

/-! ## The fetcher's reads and held entries (R42, R43, R46..R48) -/

/-- FETCH_READ_COMPLETE (R42, R43). -/
def execFetchReadComplete (s : State) : Host.Outcome State Fault Refusal :=
  match serve .fetch s with
  | none => .next s
  | some (r, ws, s1) => if r.live then finish (txnRead ws s1) else finish s1

/-- RETURN_RELEASED (R46, R47). -/
def execReturnReleased (s : State) : Host.Outcome State Fault Refusal :=
  if s.fetch.held = some .ret ∧ mayRelease s = true then finish (popFrame s) else .next s

/-- END_DRAINED (R21, R48): the area summary is written. -/
def execEndDrained (s : State) : Host.Outcome State Fault Refusal :=
  if s.fetch.held = some .endOfArea ∧ mayRelease s = true then
    finish (issue .areaWrite (currentRunWord s + 0x20) (.write (summaryWords s.rc.summary)) { s with
      fetch := { s.fetch with held := none, stopped := true }
      rc := { s.rc with areaSeq := some .summary } })
  else .next s

/-- PAUSE_DRAINED (R24, R48). -/
def execPauseDrained (s : State) : Host.Outcome State Fault Refusal :=
  if s.fetch.held = some .pause ∧ mayRelease s = true then
    finish (requestNotice .paused 0 0 .plain { s with
      fetch := { s.fetch with held := none, stopped := true, index := s.fetch.index + 1 }
      rc := { s.rc with run := .paused } })
  else .next s

/-- RESUME_RELEASED (R48, R166). -/
def execResumeReleased (s : State) : Host.Outcome State Fault Refusal :=
  match s.fetch.held with
  | some (.resume m) =>
    if mayRelease s then
      finish (resumeDiversion m { s with fetch := { s.fetch with held := none, stopped := true } })
    else .next s
  | some .ret | some .endOfArea | some .pause | none => .next s

/-! ## Area completion (R21) -/

/-- The next area-completion write is made. -/
def areaWrite (ph : AreaPhase) (off : Nat) (w : Word) (s : State) : State :=
  issue .areaWrite (currentRunWord s + off) (.write [w]) { s with rc := { s.rc with areaSeq := some ph } }

/-- The AREA_DONE notice; with the ring out of force there is none to wait for (R21, R179). -/
def areaNotice (s : State) : State :=
  requestNotice .areaDone (BitVec.ofNat 32 (areaCode s.rc.area)) (s.rc.doneCount + 1) .area
    { s with rc := { s.rc with areaSeq := some (if s.notice.inForce then .notice else .move) } }

/-- An area-completion write has completed (R21). -/
def areaWritten (s : State) : State :=
  match s.rc.areaSeq with
  | some .summary => areaWrite .ready 0x00 0 s
  | some .ready => areaWrite .doneCount 0x1C (s.rc.doneCount + 1) s
  | some .doneCount => areaNotice s
  | some .notice | some .move | none => s

/-- AREA_WRITE_COMPLETE (R21): the three word writes, and the AREA_DONE notice, which is the fourth. -/
def execAreaWriteComplete (s : State) : Host.Outcome State Fault Refusal :=
  if s.rc.areaSeq = some .notice ∧ frontMark s .area = true then
    match completeNotice s with
    | none => .next s
    | some s1 => finish s1
  else
    match serve .areaWrite s with
    | none => .next s
    | some (r, _, s1) => if r.live then finish (areaWritten s1) else finish s1

/-! ## Chaining (R23) -/

/-- READY_POLL: 1 ms after the previous read, in CHAIN_WAIT (R23). -/
def execReadyPoll (s : State) : Host.Outcome State Fault Refusal :=
  if s.rc.run = .chainWait ∧ hasLive .ready s = false ∧ hasLive .runWord s = false then done (readReady s) else .next s

/-- The READY word has been read; a second read asked for by ROOM decides in its place (R4, R23). -/
def readyRead (w : Word) (s : State) : State :=
  if s.rc.readyAgain then readReady { s with rc := { s.rc with readyAgain := false } }
  else if w.getLsbD 0 ∧ hasLive .runWord s = false then
    issue .runWord (runWordAddr s.settings.anchorBase s.rc.area.other) (.read 16) s
  else s

/-- READY_READ_COMPLETE (R23). A read that completes after CHAIN_WAIT was left is discarded. -/
def execReadyReadComplete (s : State) : Host.Outcome State Fault Refusal :=
  match serve .ready s with
  | none => .next s
  | some (r, ws, s1) => if r.live && decide (s.rc.run = .chainWait) then done (readyRead (ws.getD 0 0) s1) else done s1

/-- The area switch (R23), steps 2 to 6. -/
def areaSwitch (ws : List Word) (s : State) : State :=
  let s1 := recordRunWord ws (dropReqs .ready s)
  startList (fieldNat ws 0x08) { s1 with
    rc := { s1.rc with area := s1.rc.area.other, summary := Summary.zero, readyAgain := false, areaSeq := none }
    div := { s1.div with retryCount := 0, retryOrigin := none } }

/-- The other run word has been read (R20, R23). -/
def runWordRead (ws : List Word) (s : State) : State :=
  if fieldNat ws 0x08 % 64 ≠ 0 then enterHalted .badAnchor 0 s
  else
    let s1 := areaSwitch ws s
    if boardPresent s then { s1 with rc := { s1.rc with run := .running } }
    else
      requestNotice .boardWaitEntered 1 0 .plain
        { s1 with rc := { s1.rc with run := .boardWait, waitKind := .seatAtSwitch } }

/-- RUN_WORD_READ_COMPLETE (R23). A read that completes after CHAIN_WAIT was left is discarded. -/
def execRunWordReadComplete (s : State) : Host.Outcome State Fault Refusal :=
  match serve .runWord s with
  | none => .next s
  | some (r, ws, s1) => if r.live && decide (s.rc.run = .chainWait) then finish (runWordRead ws s1) else finish s1

/-! ## Closing writes (R26, R27) -/

/-- A closing write of STOPPING has completed (R26). -/
def stoppingWritten (s : State) : State :=
  match s.rc.stopSeq with
  | some .notice | none => s
  | some ph => runStopPhase (nextClose s.rc.underWay ph) s

/-- STOPPING_WRITE_COMPLETE (R26): the writes in order, and the RUN_ENDED notice, which is the last. -/
def execStoppingWriteComplete (s : State) : Host.Outcome State Fault Refusal :=
  if s.rc.stopSeq = some .notice ∧ frontMark s .stopping = true then
    match completeNotice s with
    | none => .next s
    | some s1 => finish s1
  else
    match serve .stoppingWrite s with
    | none => .next s
    | some (r, _, s1) => if r.live then finish (stoppingWritten s1) else finish s1

/-- HALT_WRITE_COMPLETE (R27): the writes in order, and the RUN_ENDED notice, which is the last. -/
def execHaltWriteComplete (s : State) : Host.Outcome State Fault Refusal :=
  if s.rc.haltSeqs = [] ∧ frontMark s .halt = true then
    match completeNotice s with
    | none => .next s
    | some s1 => finish s1
  else
    match serve .haltWrite s with
    | none => .next s
    | some (_, _, s1) => finish (advanceHalt s1)

/-! ## Memory errors (R14) -/

/-- The notice whose write failed leaves the queue; the fill word is not advanced (R180). -/
def dropFrontNotice (s : State) : State :=
  refillNotices { s with notice := { s.notice with queue := s.notice.queue.drop 1 } }

/-- A read of the release index has failed (R14): its value is not taken. In IDLE, where no halt ends it, the second read that
ROOM asked for follows it all the same (R4, log entry 19). -/
def releaseFailed (s : State) : State := if s.log.readAgain && atRest s then readReleaseAgain s else s

/-- What the block that made a failed request does (R4, R14, R27, R175, R178, R180): a block does not act on a failed read. -/
def requestFailed (r : Request) (s : State) : State :=
  match r.kind with
  | .record => { s with log := { s.log with busy := false } }
  | .capture => { s with log := { s.log with busy := hasReq .capture s } }
  | .notice => if r.live then dropFrontNotice s else s
  | .haltWrite => advanceHalt s
  | .fetch => if r.live then { s with fetch := { s.fetch with txn := none } } else s
  | .release => if r.live then releaseFailed s else s
  | .loading | .ready | .runWord | .areaWrite | .stoppingWrite | .logFill | .captureFill | .noticeFill => s

/-- A run halts with MEMORY_ERROR in every run state but IDLE and HALTED (R14). -/
def haltMemoryError (s : State) : State := if atRest s then s else enterHalted .memoryError 0 s

/-- MEMORY_ERROR (R14): the oldest request of the kind ends at its word number `words`. -/
def execMemoryError (kind : ReqKind) (words : Nat) (s : State) : Host.Outcome State Fault Refusal :=
  match serveFailing kind words s with
  | none => .next s
  | some (r, s1) => finish (startNotice (haltMemoryError (pendMemoryError (requestFailed r s1))))

end Sys2Proof.Machine
end

