-- ==== Sys2Proof/Machine/Dispatch.lean ====
section
/-! DEFINITION. The one dispatch of commands to their meanings, one arm per row of spec/opcode_table.json. -/

namespace Sys2Proof.Machine

open Sys2Proof

/-- The effect of a command on everything but the queue of waiting commands. -/
def exec (i : Instr) (s : State) : Host.Outcome State Fault Refusal :=
  match i with
  | .startA => Sys2Proof.Machine.execStartA s
  | .startB => Sys2Proof.Machine.execStartB s
  | .continueRun => Sys2Proof.Machine.execContinueRun s
  | .stop => Sys2Proof.Machine.execStop s
  | .room => Sys2Proof.Machine.execRoom s
  | .softReset => Sys2Proof.Machine.execSoftReset s
  | .undefinedCommandCode code => Sys2Proof.Machine.execUndefinedCommandCode code s
  | .anchorWrite value => Sys2Proof.Machine.execAnchorWrite value s
  | .stateWrite value => Sys2Proof.Machine.execStateWrite value s
  | .causeRead => Sys2Proof.Machine.execCauseRead s
  | .irqEnableWrite value => Sys2Proof.Machine.execIrqEnableWrite value s
  | .ignoredRegisterWrite reg value => Sys2Proof.Machine.execIgnoredRegisterWrite reg value s
  | .por => Sys2Proof.Machine.execPor s
  | .pin => Sys2Proof.Machine.execPin s
  | .rawLineChange line level => Sys2Proof.Machine.execRawLineChange line level s
  | .firstLevelTaken line => Sys2Proof.Machine.execFirstLevelTaken line s
  | .guardOpened => Sys2Proof.Machine.execGuardOpened s
  | .guardClosed => Sys2Proof.Machine.execGuardClosed s
  | .boardLost => Sys2Proof.Machine.execBoardLost s
  | .boardSeated => Sys2Proof.Machine.execBoardSeated s
  | .linkDown => Sys2Proof.Machine.execLinkDown s
  | .linkUp => Sys2Proof.Machine.execLinkUp s
  | .timeStampTick => Sys2Proof.Machine.execTimeStampTick s
  | .timeWrap => Sys2Proof.Machine.execTimeWrap s
  | .landed p tag => Sys2Proof.Machine.execLanded p tag s
  | .lifted p tag => Sys2Proof.Machine.execLifted p tag s
  | .parked p tag => Sys2Proof.Machine.execParked p tag s
  | .cleaned p tag => Sys2Proof.Machine.execCleaned p tag s
  | .fault p tag code => Sys2Proof.Machine.execFault p tag code s
  | .stopped => Sys2Proof.Machine.execStopped s
  | .orderDeadlineExpiry p => Sys2Proof.Machine.execOrderDeadlineExpiry p s
  | .stopDeadlineExpiry => Sys2Proof.Machine.execStopDeadlineExpiry s
  | .loadingReadComplete => Sys2Proof.Machine.execLoadingReadComplete s
  | .fetchReadComplete => Sys2Proof.Machine.execFetchReadComplete s
  | .returnReleased => Sys2Proof.Machine.execReturnReleased s
  | .endDrained => Sys2Proof.Machine.execEndDrained s
  | .pauseDrained => Sys2Proof.Machine.execPauseDrained s
  | .resumeReleased => Sys2Proof.Machine.execResumeReleased s
  | .areaWriteComplete => Sys2Proof.Machine.execAreaWriteComplete s
  | .readyPoll => Sys2Proof.Machine.execReadyPoll s
  | .readyReadComplete => Sys2Proof.Machine.execReadyReadComplete s
  | .runWordReadComplete => Sys2Proof.Machine.execRunWordReadComplete s
  | .stoppingWriteComplete => Sys2Proof.Machine.execStoppingWriteComplete s
  | .haltWriteComplete => Sys2Proof.Machine.execHaltWriteComplete s
  | .memoryError kind words => Sys2Proof.Machine.execMemoryError kind words s
  | .checkEnd p loop => Sys2Proof.Machine.execCheckEnd p loop s
  | .measurementTake => Sys2Proof.Machine.execMeasurementTake s
  | .settleElapsed => Sys2Proof.Machine.execSettleElapsed s
  | .sample value => Sys2Proof.Machine.execSample value s
  | .rampCrossing ticks => Sys2Proof.Machine.execRampCrossing ticks s
  | .rampTimeLimit => Sys2Proof.Machine.execRampTimeLimit s
  | .attemptJudged micros => Sys2Proof.Machine.execAttemptJudged micros s
  | .classificationReturned => Sys2Proof.Machine.execClassificationReturned s
  | .captureHandoff => Sys2Proof.Machine.execCaptureHandoff s
  | .captureWriteComplete => Sys2Proof.Machine.execCaptureWriteComplete s
  | .headTaken => Sys2Proof.Machine.execHeadTaken s
  | .markRemoved => Sys2Proof.Machine.execMarkRemoved s
  | .recordWriteComplete => Sys2Proof.Machine.execRecordWriteComplete s
  | .releaseReadComplete => Sys2Proof.Machine.execReleaseReadComplete s
  | .releasePoll => Sys2Proof.Machine.execReleasePoll s
  | .noticeWriteComplete => Sys2Proof.Machine.execNoticeWriteComplete s

end Sys2Proof.Machine
end

