-- ==== Sys2Proof/Safety.lean ====
section
/-! DEFINITION. What counts as a safe state of the PS-820, in the terms the claims use. Each part is a law the manual states of the
whole machine, with what it takes to hold step by step from any state. After them, what some operations make of a state, for the
statements that share it. -/

namespace Sys2Proof.Machine

open Sys2Proof

/-- Shared memory is in its canonical form (log entry 3). -/
def MemoryCanonical (s : State) : Prop := Memory.wf s.mem = true

/-- The Step Window holds at most 8 entries (R74), and a transaction in flight has a place for its entry (R42). -/
def WindowBounded (s : State) : Prop :=
  s.window.length + (if s.fetch.txn.isSome then 1 else 0) ≤ Config.windowCapacity

/-- The call depth lies between 0 and 4 (R44). -/
def StackBounded (s : State) : Prop := s.fetch.stack.length ≤ 4

/-- At most 16 notice requests are queued (R179). -/
def QueueBounded (s : State) : Prop := s.notice.queue.length ≤ Config.noticeQueueSize

/-- No two entries of the window have one number, and the next number is above them all (R74). -/
def EntriesDistinct (s : State) : Prop :=
  (s.window.map (·.uid)).Nodup ∧ ∀ e ∈ s.window, e.uid < s.nextUid

/-- Touch counts stay within 0..65,535 and consecutive-miss counts within 0..15 (R114). -/
def WearBounded (s : State) : Prop := ∀ p, (probe s p).touch ≤ 65535 ∧ (probe s p).miss ≤ 15

/-- While a STOP is outstanding, the guard reads open or the link is down, no per-probe order is outstanding (R99, R108, R109). -/
def LinkQuiet (s : State) : Prop :=
  (s.link.stop.isSome = true ∨ guardOpen s = true ∨ s.link.up = false) → ∀ p, (probe s p).order = none

/-- The run states in which the guard must read closed (R15, R29). -/
def guardedRun : RunState → Bool
  | .running | .paused | .chainWait | .boardWait => true
  | .idle | .starting | .guardHold | .stopping | .halted => false

/-- The guard is respected: it reads open until its first level is taken (R28); a START that has not seen it open finds it
closed (R18); and a run that goes on finds it closed (R29). -/
def GuardRespected (s : State) : Prop :=
  (s.rc.guardLine.taken = false → guardOpen s = true)
  ∧ (s.rc.run = .starting → s.rc.guardSeenOpen = false → guardOpen s = false)
  ∧ (guardedRun s.rc.run = true → guardOpen s = false)

/-- The guard driver is on only with the source, the source only while the unit measures and the guard reads closed
(R29, R131, R132, R133). -/
def SourceGuarded (s : State) : Prop :=
  (s.unit.guardOn = true → s.unit.sourceOn = true)
  ∧ (s.unit.sourceOn = true → s.unit.step.isSome = true)
  ∧ (s.unit.sourceOn = true → guardOpen s = false)

/-- The safety of the machine's moving parts and its source. -/
def SafeState (s : State) : Prop := LinkQuiet s ∧ GuardRespected s ∧ SourceGuarded s

/-- The interlock of the source (R133): the source is on only while the unit measures an entry of the window whose role probes all
stand LANDED with their contact verified. -/
def InterlockHeld (s : State) : Prop :=
  s.unit.sourceOn = true → ∃ r e, s.unit.step = some r ∧ entryOf s r.entry = some e
    ∧ ∀ x ∈ e.roles, (probe s x.probe).state = .landed ∧ (probe s x.probe).verified = true

/-- The send sequence of the link names every probe with an outstanding order, once, and no other (R99). -/
def SendSequence (s : State) : Prop :=
  s.link.sent.Nodup ∧ ∀ p, p ∈ s.link.sent ↔ (probe s p).order.isSome = true

/-! ## What an operation makes of a state, in the terms of more than one statement -/

/-- Every held contact check has been taken as the unit became idle: started where its probe stands, in `u`, at the landing of the
record, dropped otherwise; a running check goes on (R121). -/
def DeferredTaken (s u : State) : Prop :=
  ∀ p, u.checks.get p =
    match (s.checks.get p).running, (s.checks.get p).held with
    | some c, h => ⟨some c, h⟩
    | none, none => ⟨none, none⟩
    | none, some c =>
      if (probe u p).state = .landed ∧ (probe u p).tag = c.landingTag then ⟨some c, none⟩ else ⟨none, none⟩

/-- A block has requested the notice `n` between `s` and `u` (R179, R180): nothing becomes of it while the ring is not in force; it
is queued, or held behind 16 queued. -/
def NoticeRequested (n : Notice) (s u : State) : Prop :=
  (s.notice.inForce = false → u.notice = s.notice)
  ∧ (s.notice.inForce = true → s.notice.queue.length < 16 →
      u.notice.queue = s.notice.queue ++ [n] ∧ u.notice.held = s.notice.held)
  ∧ (s.notice.inForce = true → 16 ≤ s.notice.queue.length →
      u.notice.queue = s.notice.queue ∧ u.notice.held = s.notice.held ++ [n])

/-- The entry of number `u` has failed between `s` and `t` (R85): its state, cause and detail; its roles ORDERED, CHECKING or
RETOUCHING and its members ORDERED are WAITING again, the retouch counts kept; every other role, member and entry is as it was. -/
def EntryFailed (u : Nat) (c : Cause) (detail : Nat) (s t : State) : Prop :=
  t.window = s.window.map fun f => if f.uid = u then { f with
    state := .failed, cause := some c, detail := detail
    roles := f.roles.map fun r =>
      if r.state = .ordered ∨ r.state = .checking ∨ r.state = .retouching then { r with state := .waiting } else r
    members := f.members.map fun m => if m.state = .ordered then { m with state := .waiting } else m } else f

/-- A touch count stands at or above the touch limit in force (R116). -/
def TouchDue (t : Settings) (touch : Nat) : Prop := t.touchLimit ≠ 0 ∧ t.touchLimit ≤ touch

/-- A miss count stands at or above the miss limit in force (R116). -/
def MissDue (t : Settings) (miss : Nat) : Prop := t.missLimit ≠ 0 ∧ t.missLimit ≤ miss

/-- The service-due test of R116 has been made of a probe's counts: the flag is set where a limit is reached and kept otherwise,
and SERVICE_DUE is requested, with the limits reached, where the flag was clear. -/
def ServiceTested (p : ProbeNo) (touch miss : Nat) (s u : State) : Prop :=
  (TouchDue s.settings touch ∨ MissDue s.settings miss → (probe u p).due = true)
  ∧ (¬TouchDue s.settings touch → ¬MissDue s.settings miss → (probe u p).due = (probe s p).due)
  ∧ ((probe s p).due = true ∨ (¬TouchDue s.settings touch ∧ ¬MissDue s.settings miss) → u.notice = s.notice)
  ∧ ∀ reason : Nat,
    (TouchDue s.settings touch ∧ ¬MissDue s.settings miss ∧ reason = 1)
      ∨ (¬TouchDue s.settings touch ∧ MissDue s.settings miss ∧ reason = 2)
      ∨ (TouchDue s.settings touch ∧ MissDue s.settings miss ∧ reason = 3) →
    (probe s p).due = false → s.notice.inForce = true → s.notice.queue.length < 16 →
    u.notice.queue = s.notice.queue ++
      [⟨.serviceDue, BitVec.ofNat 32 p.val, BitVec.ofNat 32 reason, s.rc.time, .plain⟩]

/-- The logger has taken the head `e` of the window of `s` (R35, R174): the removal is counted, a kept record numbered and its
write made, STEP_FAILED requested where NOTICE_FAILURES asks for it, and the entry handed on to the Diversion Unit. -/
def HeadTaken (e : Entry) (s u : State) : Prop :=
  ∃ t, u = takeRemoval e t ∧ t.window = s.window.tail ∧ t.mem = s.mem ∧ t.link = s.link ∧ t.unit = s.unit ∧ t.fetch = s.fetch
    ∧ t.div = s.div
    ∧ t.rc = { s.rc with summary := {
        logged := satSucc s.rc.summary.logged
        passed := if e.kind = .measure ∧ e.state = .done ∧ entryClass e = .pass then satSucc s.rc.summary.passed
          else s.rc.summary.passed
        failed := if e.state = .failed then satSucc s.rc.summary.failed else s.rc.summary.failed
        skipped := if e.state = .skipped then satSucc s.rc.summary.skipped else s.rc.summary.skipped
        stale := s.rc.summary.stale } }
    ∧ (recordKindCode e.kind ≠ 1 ∨ entryClass e ≠ .pass ∨ s.settings.logPasses = true →
        t.log = { s.log with nextSeq := s.log.nextSeq + 1, writingSeq := s.log.nextSeq, busy := true }
        ∧ ⟨.record, s.settings.logBase + 64 * s.log.fill, .write (recordWords s.log.nextSeq s.rc.time e), true,
            s.port.epoch⟩ ∈ t.port.reqs)
    ∧ (recordKindCode e.kind = 1 → entryClass e = .pass → s.settings.logPasses = false → t.log = s.log)
    ∧ (s.settings.noticeFailures = false ∨ e.state ≠ .failed → t.notice = s.notice)
    ∧ (s.settings.noticeFailures = true → e.state = .failed → s.notice.inForce = true → s.notice.queue.length < 16 →
        t.notice.queue = s.notice.queue ++
          [⟨.stepFailed, BitVec.ofNat 32 (causeCodeOpt e.cause), BitVec.ofNat 32 s.log.nextSeq, s.rc.time, .plain⟩])

/-! ## Which commands reach what -/

/-- The commands in which the Memory Port serves or abandons a request. -/
def servesPort : Instr → Bool
  | .loadingReadComplete | .fetchReadComplete | .areaWriteComplete | .readyReadComplete | .runWordReadComplete => true
  | .stoppingWriteComplete | .haltWriteComplete | .memoryError _ _ | .captureWriteComplete | .recordWriteComplete => true
  | .releaseReadComplete | .noticeWriteComplete | .por | .pin | .softReset => true
  | .startA | .startB | .continueRun | .stop | .room | .undefinedCommandCode _ | .anchorWrite _ | .stateWrite _ => false
  | .causeRead | .irqEnableWrite _ | .ignoredRegisterWrite _ _ | .rawLineChange _ _ | .firstLevelTaken _ => false
  | .guardOpened | .guardClosed | .boardLost | .boardSeated | .linkDown | .linkUp | .timeStampTick | .timeWrap => false
  | .landed _ _ | .lifted _ _ | .parked _ _ | .cleaned _ _ | .fault _ _ _ | .stopped | .orderDeadlineExpiry _ => false
  | .stopDeadlineExpiry | .returnReleased | .endDrained | .pauseDrained | .resumeReleased | .readyPoll => false
  | .checkEnd _ _ | .measurementTake | .settleElapsed | .sample _ | .rampCrossing _ | .rampTimeLimit => false
  | .attemptJudged _ | .classificationReturned | .captureHandoff | .headTaken | .markRemoved | .releasePoll => false

/-- The events that reach the Register Window: the host's accesses and the resets. -/
def reachesRegisters : Instr → Bool
  | .startA | .startB | .continueRun | .stop | .softReset | .undefinedCommandCode _ | .anchorWrite _ | .stateWrite _ => true
  | .causeRead | .irqEnableWrite _ | .por | .pin => true
  | .room | .ignoredRegisterWrite _ _ | .rawLineChange _ _ | .firstLevelTaken _ => false
  | .guardOpened | .guardClosed | .boardLost | .boardSeated | .linkDown | .linkUp | .timeStampTick | .timeWrap => false
  | .landed _ _ | .lifted _ _ | .parked _ _ | .cleaned _ _ | .fault _ _ _ | .stopped | .orderDeadlineExpiry _ => false
  | .stopDeadlineExpiry | .loadingReadComplete | .fetchReadComplete | .returnReleased | .endDrained | .pauseDrained => false
  | .resumeReleased | .areaWriteComplete | .readyPoll | .readyReadComplete | .runWordReadComplete => false
  | .stoppingWriteComplete | .haltWriteComplete | .memoryError _ _ | .checkEnd _ _ | .measurementTake => false
  | .settleElapsed | .sample _ | .rampCrossing _ | .rampTimeLimit | .attemptJudged _ | .classificationReturned => false
  | .captureHandoff | .captureWriteComplete | .headTaken | .markRemoved | .recordWriteComplete => false
  | .releaseReadComplete | .releasePoll | .noticeWriteComplete => false

end Sys2Proof.Machine
end

