-- ==== Sys2Proof/Certificates/Slice0/Obligations.lean ====
section
/-! DEFINITION. The statements for the provers, each a Prop under Obligations. Where a command's step ends with the consequences
that follow it at once (Machine/RunFlow.lean, settle), a statement names the state u they start from: the command's own effect
is what it says of u, and SettleLeaves says how the consequences are composed and what they never change. -/

open Sys2Proof Sys2Proof.Machine

/-! ## The step and the registers -/

/-- A step runs the command at the front of the queue on the state with the rest of the queue; with none waiting it serves at
most a fill word that is due (log entry 6). -/
def Obligations.StepRunsFrontCommand : Prop :=
  (∀ (c : Instr) (s : State), step (s.withPending (c :: s.pending)) = exec c s)
  ∧ ∀ s : State, s.pending = [] → step s = .next (serveFillWord s)

/-- Every command completes: no command ends in a fault or a refusal, and none touches the queue of waiting commands.
The model's choices it rests on: log entries 7 and 26. -/
def Obligations.EveryCommandCompletes : Prop :=
  ∀ (c : Instr) (s : State), ∃ t, exec c s = .next t ∧ t.pending = s.pending

/-- R1: IDENT reads the family code 820 and the revision 1, and a write to it (or to CAUSE, R8) changes nothing. -/
def Obligations.IdentReadsAndIgnoresWrites : Prop :=
  (∀ s : State, (readIdent s).extractLsb' 0 16 = 820 ∧ (readIdent s).extractLsb' 16 8 = 1)
  ∧ ∀ (reg : IgnoredRegister) (v : Word) (s : State), exec (.ignoredRegisterWrite reg v) s = .next s

/-- R2, R3, R5, R7, spec 12.5: an ANCHOR write is taken whole in IDLE and HALTED; elsewhere it, a command refused in the present run
state, and a code that names no command set REFUSED and change nothing else. A read of STATE shows the fields at their places, and
the bits no field names read 0; a write clears each of POR, PIN, SOFT and REFUSED whose bit is 1 and changes no other field. The codes
of the run states, of the end codes and of the areas. A read of ANCHOR returns the value held, a read of COMMAND 0. -/
def Obligations.AnchorAndStateRegisters : Prop :=
  (∀ s : State,
      (∀ v : Word, s.rc.run = .idle ∨ s.rc.run = .halted →
          exec (.anchorWrite v) s = .next { s with regs := { s.regs with anchor := v } })
      ∧ (s.rc.run ≠ .idle → s.rc.run ≠ .halted →
        (∀ v : Word, exec (.anchorWrite v) s = .next { s with regs := { s.regs with refused := true } })
        ∧ exec .startA s = .next { s with regs := { s.regs with refused := true } }
        ∧ exec .startB s = .next { s with regs := { s.regs with refused := true } })
      ∧ (s.rc.run ≠ .paused →
          s.rc.run ≠ .guardHold ∨ s.rc.stoppedReceived = false ∨ s.rc.guardLine.filtered = true →
          exec .continueRun s = .next { s with regs := { s.regs with refused := true } })
      ∧ (s.rc.run = .idle ∨ s.rc.run = .stopping →
          exec .stop s = .next { s with regs := { s.regs with refused := true } })
      ∧ ∀ code : Byte, code.toNat = 0 ∨ 6 < code.toNat →
          exec (.undefinedCommandCode code) s = .next { s with regs := { s.regs with refused := true } })
  ∧ (∀ s : State,
      (readState s).extractLsb' 0 4 = BitVec.ofNat 4 (runCode s.rc.run)
      ∧ (readState s).extractLsb' 4 4 = BitVec.ofNat 4 (runCode s.rc.remembered)
      ∧ (readState s).extractLsb' 8 4 = BitVec.ofNat 4 (endCodeCode s.rc.endCode)
      ∧ (readState s).getLsbD 12 = decide (s.rc.area = .b)
      ∧ (readState s).extractLsb' 13 3 = 0
      ∧ (readState s).getLsbD 16 = s.regs.porFlag ∧ (readState s).getLsbD 17 = s.regs.pinFlag
      ∧ (readState s).getLsbD 18 = s.regs.softFlag ∧ (readState s).getLsbD 19 = s.regs.refused
      ∧ (readState s).getLsbD 20 = s.log.held ∧ (readState s).getLsbD 21 = s.div.active
      ∧ (readState s).extractLsb' 22 2 = 0
      ∧ (readState s).getLsbD 24 = s.rc.guardLine.filtered ∧ (readState s).getLsbD 25 = s.rc.boardLine.filtered
      ∧ (readState s).getLsbD 26 = s.link.up ∧ (readState s).extractLsb' 27 5 = 0)
  ∧ (∀ (v : Word) (s : State), exec (.stateWrite v) s = .next { s with regs := { s.regs with
      porFlag := s.regs.porFlag && !v.getLsbD 16
      pinFlag := s.regs.pinFlag && !v.getLsbD 17
      softFlag := s.regs.softFlag && !v.getLsbD 18
      refused := s.regs.refused && !v.getLsbD 19 } })
  ∧ ([.idle, .starting, .running, .paused, .chainWait, .boardWait, .guardHold, .stopping, .halted] : List RunState).map runCode
      = [0, 1, 2, 3, 4, 5, 6, 7, 8]
  ∧ ([.none, .finished, .aborted, .notReady, .badAnchor, .haltedByTable, .doubleFault, .memoryError, .linkLost, .boardLost] :
      List EndCode).map endCodeCode = [0, 1, 2, 3, 4, 5, 6, 7, 8, 9]
  ∧ areaCode .a = 0 ∧ areaCode .b = 1
  ∧ ∀ s : State, readAnchor s = s.regs.anchor ∧ readCommand s = 0

/-- R8, R182: a CAUSE read returns the code of the highest-priority source pending and enabled, 0 for none, and clears that
source unless it is MEMORY_ERROR or RUN_END.
The model's choices it rests on: log entry 45 (bits 31 to 3 of the value read are 0). -/
def Obligations.CauseReadAnswersHighest : Prop :=
  ∀ s : State, ∃ c : Nat,
    exec .causeRead s = .next { s with
      regs := { s.regs with causeRead := BitVec.ofNat 32 c }
      notice := { s.notice with pend := { s.notice.pend with
        guard := s.notice.pend.guard && decide (c ≠ 2)
        logHeld := s.notice.pend.logHeld && decide (c ≠ 4)
        notice := s.notice.pend.notice && decide (c ≠ 5) } } }
    ∧ c ≤ 5
    ∧ (c = 0 ↔ irqLine s = false)
    ∧ (c = 1 ↔ s.notice.pend.memoryError = true ∧ s.regs.irqEnable.memoryError = true)
    ∧ (c = 2 → s.notice.pend.guard = true ∧ s.regs.irqEnable.guard = true)
    ∧ (c = 3 → s.notice.pend.runEnd = true ∧ s.regs.irqEnable.runEnd = true)
    ∧ (c = 4 → s.notice.pend.logHeld = true ∧ s.regs.irqEnable.logHeld = true)
    ∧ (c = 5 → s.notice.pend.notice = true ∧ s.regs.irqEnable.notice = true)
    ∧ (s.notice.pend.guard = true → s.regs.irqEnable.guard = true → 1 ≤ c ∧ c ≤ 2)
    ∧ (s.notice.pend.runEnd = true → s.regs.irqEnable.runEnd = true → 1 ≤ c ∧ c ≤ 3)
    ∧ (s.notice.pend.logHeld = true → s.regs.irqEnable.logHeld = true → 1 ≤ c ∧ c ≤ 4)
    ∧ (s.notice.pend.notice = true → s.regs.irqEnable.notice = true → 1 ≤ c)

/-- R9: IRQ_ENABLE is written whole in every run state and read back bit for bit, its higher bits 0; the line is asserted exactly
while a source is pending and enabled, POR and PIN clear the enables, SOFT keeps them, and after any reset the line is deasserted.
-/
def Obligations.IrqEnableAndLine : Prop :=
  ∀ (v : Word) (s : State),
    exec (.irqEnableWrite v) s = .next { s with regs := { s.regs with
      irqEnable := ⟨v.getLsbD 0, v.getLsbD 1, v.getLsbD 2, v.getLsbD 3, v.getLsbD 4⟩ } }
    ∧ ((readIrqEnable s).getLsbD 0 = s.regs.irqEnable.memoryError ∧ (readIrqEnable s).getLsbD 1 = s.regs.irqEnable.guard
      ∧ (readIrqEnable s).getLsbD 2 = s.regs.irqEnable.runEnd ∧ (readIrqEnable s).getLsbD 3 = s.regs.irqEnable.logHeld
      ∧ (readIrqEnable s).getLsbD 4 = s.regs.irqEnable.notice ∧ (readIrqEnable s).extractLsb' 5 27 = 0)
    ∧ (irqLine s = true ↔
        (s.notice.pend.memoryError = true ∧ s.regs.irqEnable.memoryError = true)
        ∨ (s.notice.pend.guard = true ∧ s.regs.irqEnable.guard = true)
        ∨ (s.notice.pend.runEnd = true ∧ s.regs.irqEnable.runEnd = true)
        ∨ (s.notice.pend.logHeld = true ∧ s.regs.irqEnable.logHeld = true)
        ∨ (s.notice.pend.notice = true ∧ s.regs.irqEnable.notice = true))
    ∧ (∀ t, exec .por s = .next t ∨ exec .pin s = .next t →
        t.regs.irqEnable = Sources.clear ∧ t.notice.pend = Sources.clear ∧ irqLine t = false
        ∧ causeOf t.notice.pend t.regs.irqEnable = 0)
    ∧ (∀ t, exec .softReset s = .next t →
        t.regs.irqEnable = s.regs.irqEnable ∧ t.notice.pend = Sources.clear ∧ irqLine t = false
        ∧ causeOf t.notice.pend t.regs.irqEnable = 0)

/-! ## Resets -/

/-- The values the spec gives for the state after a power-on reset (R2, R6, R7, R9, R15, R16, R28, R34, R35, R41, R61, R98, R118,
R129..R131, R159, R160, R171, R179). -/
def Obligations.ResetValues : Prop :=
  State.reset.regs.anchor = 0 ∧ State.reset.regs.irqEnable = Sources.clear ∧ State.reset.regs.refused = false
  ∧ State.reset.regs.porFlag = true ∧ State.reset.regs.pinFlag = false ∧ State.reset.regs.softFlag = false
  ∧ State.reset.rc.run = .idle ∧ State.reset.rc.remembered = .idle ∧ State.reset.rc.endCode = .none
  ∧ State.reset.rc.area = .a ∧ State.reset.rc.time = 0 ∧ State.reset.rc.summary = ⟨0, 0, 0, 0, 0⟩
  ∧ State.reset.rc.stoppedReceived = false ∧ State.reset.rc.seenAbsent = false
  ∧ State.reset.rc.guardLine.filtered = true ∧ State.reset.rc.boardLine.filtered = false
  ∧ State.reset.fetch.list = 0 ∧ State.reset.fetch.index = 0 ∧ State.reset.fetch.recovery = false
  ∧ State.reset.fetch.stack = [] ∧ State.reset.fetch.bank = 0 ∧ State.reset.fetch.held = none
  ∧ State.reset.fetch.txn = none ∧ State.reset.window = [] ∧ State.reset.port.reqs = []
  ∧ State.reset.corr = ⟨0, 0, 1073741824, 0⟩ ∧ State.reset.settings.pointCount = 0 ∧ State.reset.settings.cell = 100
  ∧ State.reset.settings.dMin = 0 ∧ State.reset.settings.timeRes = 0 ∧ State.reset.settings.contactOhm = 1000
  ∧ (∀ x y, inReach State.reset.settings.reachTop x y = false ∧ inReach State.reset.settings.reachBottom x y = false)
  ∧ (∀ p, (probe State.reset p).state = .unknown ∧ (probe State.reset p).order = none ∧ (probe State.reset p).tag = 0
      ∧ (probe State.reset p).touch = 0 ∧ (probe State.reset p).miss = 0 ∧ (probe State.reset p).due = false
      ∧ (probe State.reset p).pos = none ∧ (probe State.reset p).verified = false ∧ (probe State.reset p).deadline = none
      ∧ (probe State.reset p).faultCode = 0)
  ∧ State.reset.link.stop = none ∧ State.reset.link.sent = []
  ∧ (∀ p, State.reset.checks.get p = ⟨none, none⟩)
  ∧ (∀ n, n < 4 → bankOf State.reset n = ⟨0, 0, 6, 6, 6, false, 0, 1000, 1, 0, false, 6⟩)
  ∧ (∀ p q, (State.reset.unit.resNull.get p).get q = 0 ∧ (State.reset.unit.capNull.get p).get q = 0)
  ∧ State.reset.unit.step = none ∧ State.reset.unit.sourceOn = false ∧ State.reset.unit.guardOn = false
  ∧ (∀ p, State.reset.div.table.get p = ⟨.halt, 0, 0, 0, .halt⟩) ∧ State.reset.div.active = false
  ∧ State.reset.div.returnPoint = none ∧ State.reset.div.returnAfter = false ∧ State.reset.div.savedBank = 0
  ∧ State.reset.div.firstCause = none ∧ State.reset.div.secondCause = none ∧ State.reset.div.retryCount = 0
  ∧ State.reset.div.retryOrigin = none ∧ State.reset.log.fill = 0 ∧ State.reset.log.release = 0
  ∧ State.reset.log.nextSeq = 1 ∧ State.reset.log.capFill = 0 ∧ State.reset.log.busy = false
  ∧ State.reset.log.held = false ∧ State.reset.notice.inForce = false ∧ State.reset.notice.fill = 0
  ∧ State.reset.notice.wrap = 0 ∧ State.reset.notice.queue = [] ∧ State.reset.notice.pend = Sources.clear

/-- R6, R13, R37, R99: every reset leaves the reset values over the machine's own raw lines and link, STOP sent where the link is up
and no order outstanding; which reset-cause flags each kind leaves; SOFT keeps ANCHOR, IRQ_ENABLE, the reset-cause flags (setting
SOFT) and each probe's counts and service-due flag. The only bytes of memory that may change lie in a write request that the reset
abandons.
The model's choices it rests on: log entries 1 and 5. -/
def Obligations.ResetEffects : Prop :=
  (∀ s : State,
      (∃ t, exec .por s = .next t ∧ t.regs.porFlag = true ∧ t.regs.pinFlag = false ∧ t.regs.softFlag = false)
      ∧ (∃ t, exec .pin s = .next t ∧ t.regs.porFlag = false ∧ t.regs.pinFlag = true ∧ t.regs.softFlag = false)
      ∧ (∃ t, exec .softReset s = .next t ∧ t.regs.porFlag = s.regs.porFlag ∧ t.regs.pinFlag = s.regs.pinFlag
          ∧ t.regs.softFlag = true))
  ∧ (∀ s : State, ∃ m,
      exec .por s = .next { State.reset with
        pending := s.pending, mem := m, free := s.free + 1
        rc := { State.reset.rc with
          guardLine := ⟨s.rc.guardLine.raw, true, false⟩, boardLine := ⟨s.rc.boardLine.raw, false, false⟩ }
        link := { State.reset.link with stop := if s.link.up then some 500 else none, up := s.link.up } }
      ∧ exec .pin s = .next { State.reset with
        pending := s.pending, mem := m, free := s.free + 1
        regs := { State.reset.regs with porFlag := false, pinFlag := true }
        rc := { State.reset.rc with
          guardLine := ⟨s.rc.guardLine.raw, true, false⟩, boardLine := ⟨s.rc.boardLine.raw, false, false⟩ }
        link := { State.reset.link with stop := if s.link.up then some 500 else none, up := s.link.up } }
      ∧ ∀ a, (∀ r ∈ s.port.reqs, ∀ ws, r.body = .write ws → a < r.addr ∨ r.addr + 4 * ws.length ≤ a) →
          memByte m a = memByte s.mem a)
  ∧ (∀ s : State, ∃ m l,
      exec .softReset s = .next { State.reset with
        pending := s.pending, mem := m, free := s.free + 1, link := l
        regs := { s.regs with softFlag := true, refused := false, causeRead := 0 }
        rc := { State.reset.rc with
          guardLine := ⟨s.rc.guardLine.raw, true, false⟩, boardLine := ⟨s.rc.boardLine.raw, false, false⟩ } }
      ∧ l.up = s.link.up ∧ l.stop = (if s.link.up then some 500 else none) ∧ l.sent = []
      ∧ (∀ p, l.probes.get p = { Probe.reset with
          touch := (probe s p).touch, miss := (probe s p).miss, due := (probe s p).due })
      ∧ ∀ a, (∀ r ∈ s.port.reqs, ∀ ws, r.body = .write ws → a < r.addr ∨ r.addr + 4 * ws.length ≤ a) →
          memByte m a = memByte s.mem a)

/-! ## Starting and ending a run -/

/-- R2, R17: START_A and START_B taken: with a good anchor STARTING is entered and the read of the anchor block made; with a bad one
no request is made and the device halts with BAD_ANCHOR, the notice ring out of force and RUN_END pending.
The model's choices it rests on: log entry 15. -/
def Obligations.StartTaken : Prop :=
  (∀ (s : State) (c : Instr) (which : Area), (c = .startA ∧ which = .a) ∨ (c = .startB ∧ which = .b) →
      s.rc.run = .idle ∨ s.rc.run = .halted → s.regs.anchor.toNat % 4096 = 0 → s.regs.anchor.toNat < 33554432 →
      exec c s = .next (sealPort { s with
        rc := { s.rc with
          run := .starting, endCode := .none, area := which, time := 0
          guardSeenOpen := s.rc.guardLine.filtered, loadStep := some .anchor, endCauses := 0 }
        notice := { s.notice with pend := { s.notice.pend with memoryError := false, runEnd := false } }
        port := { s.port with reqs := s.port.reqs ++ [⟨.loading, s.regs.anchor.toNat, .read 36, true, s.port.epoch⟩] } }))
  ∧ (∀ (s : State) (c : Instr), c = .startA ∨ c = .startB → s.rc.run = .idle ∨ s.rc.run = .halted →
      s.regs.anchor.toNat % 4096 ≠ 0 ∨ 33554432 ≤ s.regs.anchor.toNat →
      ∃ t, exec c s = .next t ∧ t.rc.run = .halted ∧ t.rc.endCode = .badAnchor ∧ t.notice.inForce = false
        ∧ t.notice.queue = [] ∧ t.notice.held = [] ∧ t.notice.pend = { s.notice.pend with memoryError := false, runEnd := true }
        ∧ t.port.reqs.length = s.port.reqs.length ∧ t.mem = s.mem ∧ t.settings = s.settings ∧ t.link = s.link
        ∧ t.regs = s.regs ∧ t.window = [] ∧ t.rc.summary = s.rc.summary)

/-- R10, R17, R36, R179: the loading reads follow one another, each made when the one before has completed: the anchor block, the four
banks and the eight diversion entries one record at a time, both null tables together, the wear table where LOAD_WEAR is set, the run
word. Each record replaces the one held. Good settings mark the loading as succeeded (R26) and bring the notice ring into force, its
fill word written as 0; a bad base or ring size halts with BAD_ANCHOR and leaves no such mark. TablesTaken says what each read gives.
`s1` is the state once the Memory Port has served the read.
The model's choices it rests on: log entries 10 and 41 (how many requests, and that each covers its record whole). -/
def Obligations.LoadingReadsInOrder : Prop :=
  (∀ (s s1 : State) (r : Request) (ws : List Word), serve .loading s = some (r, ws, s1) → r.live = true →
      s.rc.run = .starting →
      (∀ n, s.rc.loadStep = some (.bank n) → n < 3 →
        exec .loadingReadComplete s = .next (sealPort (settle { s1 with
          unit := { s1.unit with banks := s1.unit.banks.set n (parseBank ws) }
          rc := { s1.rc with loadStep := some (.bank (n + 1)) }
          port := { s1.port with reqs := s1.port.reqs ++
            [⟨.loading, s1.settings.bankBase + 32 * (n + 1), .read 8, true, s1.port.epoch⟩] } })))
      ∧ (s.rc.loadStep = some (.bank 3) →
        exec .loadingReadComplete s = .next (sealPort (settle { s1 with
          unit := { s1.unit with banks := s1.unit.banks.set 3 (parseBank ws) }
          rc := { s1.rc with loadStep := some .nulls }
          port := { s1.port with reqs := s1.port.reqs ++
            [⟨.loading, s1.settings.nullBase, .read 128, true, s1.port.epoch⟩] } })))
      ∧ (s.rc.loadStep = some .nulls →
        exec .loadingReadComplete s = .next (sealPort (settle { s1 with
          unit := { s1.unit with
            resNull := parseNulls 100000 (ws.take 64), capNull := parseNulls 1000000 (ws.drop 64) }
          rc := { s1.rc with loadStep := some (.diversion 0) }
          port := { s1.port with reqs := s1.port.reqs ++
            [⟨.loading, s1.settings.divBase, .read 4, true, s1.port.epoch⟩] } })))
      ∧ (∀ n, s.rc.loadStep = some (.diversion n) → n < 7 →
        exec .loadingReadComplete s = .next (sealPort (settle { s1 with
          div := { s1.div with table := s1.div.table.set (probeOfNat n) (parseDivEntry ws) }
          rc := { s1.rc with loadStep := some (.diversion (n + 1)) }
          port := { s1.port with reqs := s1.port.reqs ++
            [⟨.loading, s1.settings.divBase + 16 * (n + 1), .read 4, true, s1.port.epoch⟩] } })))
      ∧ (s.rc.loadStep = some (.diversion 7) → s1.settings.loadWear = true →
        exec .loadingReadComplete s = .next (sealPort (settle { s1 with
          div := { s1.div with table := s1.div.table.set 7 (parseDivEntry ws) }
          rc := { s1.rc with loadStep := some .wear }
          port := { s1.port with reqs := s1.port.reqs ++
            [⟨.loading, s1.settings.wearBase, .read 16, true, s1.port.epoch⟩] } })))
      ∧ (s.rc.loadStep = some (.diversion 7) → s1.settings.loadWear = false →
        exec .loadingReadComplete s = .next (sealPort (settle { s1 with
          div := { s1.div with table := s1.div.table.set 7 (parseDivEntry ws) }
          rc := { s1.rc with loadStep := some .runWord }
          port := { s1.port with reqs := s1.port.reqs ++
            [⟨.loading, runWordAddr s1.settings.anchorBase s1.rc.area, .read 16, true, s1.port.epoch⟩] } })))
      ∧ (s.rc.loadStep = some .wear → ∃ l, exec .loadingReadComplete s = .next (sealPort (settle { s1 with
          link := { s1.link with probes := l }
          rc := { s1.rc with loadStep := some .runWord }
          port := { s1.port with reqs := s1.port.reqs ++
            [⟨.loading, runWordAddr s1.settings.anchorBase s1.rc.area, .read 16, true, s1.port.epoch⟩] } }))
        ∧ ∀ p, (l.get p).touch = min 65535 (fieldNat ws (8 * p.val)) ∧ (l.get p).miss = min 15 (fieldNat ws (8 * p.val + 4))
            ∧ (l.get p).state = (probe s1 p).state ∧ (l.get p).order = (probe s1 p).order
            ∧ ((l.get p).due = true ↔
                (s1.settings.touchLimit ≠ 0 ∧ s1.settings.touchLimit ≤ (l.get p).touch)
                ∨ (s1.settings.missLimit ≠ 0 ∧ s1.settings.missLimit ≤ (l.get p).miss))))
  ∧ (∀ (s s1 : State) (r : Request) (ws : List Word), serve .loading s = some (r, ws, s1) → r.live = true →
      s.rc.run = .starting → s.rc.loadStep = some .anchor →
      ∃ u, exec .loadingReadComplete s = .next (sealPort (settle u)) ∧ u.settings = parseSettings r.addr ws ∧ u.mem = s1.mem
        ∧ (settingsGood (parseSettings r.addr ws) = true →
            u.rc.run = .starting ∧ u.rc.loadStep = some (.bank 0) ∧ u.rc.loadedGood = true
            ∧ u.notice.inForce = true ∧ u.notice.fill = 0 ∧ u.notice.wrap = 0 ∧ u.notice.base = u.settings.noticeBase
            ∧ ⟨.noticeFill, r.addr + 0x10C, .write [0], true, s1.port.epoch⟩ ∈ u.port.reqs
            ∧ u.port.reqs.getLast? = some ⟨.loading, u.settings.bankBase, .read 8, true, s1.port.epoch⟩)
        ∧ (settingsGood (parseSettings r.addr ws) = false →
            u.rc.run = .halted ∧ u.rc.endCode = .badAnchor ∧ u.rc.loadedGood = false ∧ u.notice.inForce = false
            ∧ u.notice.queue = [] ∧ u.notice.pend.runEnd = true))
  ∧ (∀ base : Nat, runWordAddr base .a = base + 0x200 ∧ runWordAddr base .b = base + 0x240)
  ∧ ∀ p : ProbeNo, probeOfNat p.val = p

/-- R10, R17, R129, R130, R159, spec 12.1, 12.3: what the words of a loading read give: each setting, its place and its clamping, and
which settings are good; a bank with the two values formed at load; a null; a diversion entry; and the places of a field in the words
of a structure, as the statements of the program entries read them.
The model's choices it rests on: log entry 46 (the retouch limit of a bank is a byte, and a setting is the whole word at its place). -/
def Obligations.TablesTaken : Prop :=
  (∀ (base : Nat) (ws : List Word) (t : Settings), t = parseSettings base ws →
    t.anchorBase = base
    ∧ t.pointBase = (ws.getD 0 0).toNat ∧ t.pointCount = min 262144 (ws.getD 1 0).toNat
    ∧ t.limitBase = (ws.getD 2 0).toNat ∧ t.limitCount = min 65535 (ws.getD 3 0).toNat
    ∧ t.groupBase = (ws.getD 4 0).toNat ∧ t.keepOutTop = (ws.getD 5 0).toNat ∧ t.keepOutBottom = (ws.getD 6 0).toNat
    ∧ t.mapX0 = (ws.getD 7 0).toInt ∧ t.mapY0 = (ws.getD 8 0).toInt
    ∧ t.cell = max 100 (min 10000 (ws.getD 9 0).toNat)
    ∧ t.reachTop = ⟨(ws.getD 10 0).toInt, (ws.getD 11 0).toInt, (ws.getD 12 0).toInt, (ws.getD 13 0).toInt⟩
    ∧ t.reachBottom = ⟨(ws.getD 14 0).toInt, (ws.getD 15 0).toInt, (ws.getD 16 0).toInt, (ws.getD 17 0).toInt⟩
    ∧ t.dMin = min 10000 (ws.getD 18 0).toNat
    ∧ t.bankBase = (ws.getD 19 0).toNat ∧ t.nullBase = (ws.getD 20 0).toNat ∧ t.wearBase = (ws.getD 21 0).toNat
    ∧ t.divBase = (ws.getD 22 0).toNat ∧ t.logBase = (ws.getD 23 0).toNat ∧ t.logSize = (ws.getD 24 0).toNat
    ∧ t.capBase = (ws.getD 25 0).toNat ∧ t.capSize = (ws.getD 26 0).toNat ∧ t.noticeBase = (ws.getD 27 0).toNat
    ∧ t.timeRes = min 2 (ws.getD 28 0).toNat
    ∧ t.moveDeadline = max 1 (min 65535 (ws.getD 29 0).toNat) ∧ t.cleanDeadline = max 1 (min 65535 (ws.getD 30 0).toNat)
    ∧ t.contactOhm = max 1 (min 1000 (ws.getD 31 0).toNat)
    ∧ t.touchLimit = min 65535 (ws.getD 32 0).toNat ∧ t.missLimit = min 15 (ws.getD 33 0).toNat
    ∧ t.logPasses = (ws.getD 34 0).getLsbD 0 ∧ t.logSkipped = (ws.getD 34 0).getLsbD 1
    ∧ t.noticeFailures = (ws.getD 34 0).getLsbD 2 ∧ t.loadWear = (ws.getD 34 0).getLsbD 3
    ∧ t.noticeMask = ws.getD 35 0)
  ∧ (∀ t : Settings, settingsGood t = true ↔
    t.pointBase % 64 = 0 ∧ t.limitBase % 64 = 0 ∧ t.groupBase % 64 = 0 ∧ t.keepOutTop % 64 = 0 ∧ t.keepOutBottom % 64 = 0
    ∧ t.bankBase % 64 = 0 ∧ t.nullBase % 64 = 0 ∧ t.wearBase % 64 = 0 ∧ t.divBase % 64 = 0 ∧ t.logBase % 64 = 0
    ∧ t.capBase % 64 = 0 ∧ t.noticeBase % 64 = 0
    ∧ (∃ n, 6 ≤ n ∧ n ≤ 16 ∧ t.logSize = 2 ^ n) ∧ ∃ n, 12 ≤ n ∧ n ≤ 20 ∧ t.capSize = 2 ^ n)
  ∧ (∀ (ws : List Word) (b : Bank), b = parseBank ws →
    b.k = min 8 ((ws.getD 0 0).toNat % 256) ∧ b.start = min 6 ((ws.getD 0 0).toNat / 256 % 256)
    ∧ b.floor = min 6 ((ws.getD 0 0).toNat / 65536 % 256) ∧ b.ceiling = min 6 ((ws.getD 0 0).toNat / 16777216)
    ∧ b.autoEnable = (ws.getD 1 0).getLsbD 0 ∧ b.maxChanges = min 6 ((ws.getD 1 0).toNat / 256 % 256)
    ∧ b.retouchLimit = min 7 ((ws.getD 1 0).toNat / 65536 % 256)
    ∧ b.settle = (ws.getD 2 0).toNat % 65536 ∧ b.vth = max 200 (min 2000 ((ws.getD 2 0).toNat / 65536))
    ∧ b.tMax = max 1 (min 2147483648 (ws.getD 3 0).toNat)
    ∧ (b.autoInForce = true ↔ b.autoEnable = true ∧ b.floor ≤ b.ceiling)
    ∧ b.startInForce = (if b.floor ≤ b.ceiling then max b.floor (min b.ceiling b.start) else b.start))
  ∧ (∀ (hi : Nat) (ws : List Word) (p q : ProbeNo),
    ((parseNulls hi ws).get p).get q = min hi (ws.getD (8 * p.val + q.val) 0).toNat)
  ∧ (∀ (ws : List Word) (d : DivEntry), d = parseDivEntry ws →
    d.action = (if (ws.getD 0 0).toNat % 256 = 0 then .continue_ else if (ws.getD 0 0).toNat % 256 = 1 then .divert else .halt)
    ∧ d.bank = min 3 ((ws.getD 0 0).toNat / 256 % 256) ∧ d.budget = min 15 ((ws.getD 0 0).toNat / 65536 % 256)
    ∧ d.exhausted = (if (ws.getD 0 0).toNat / 16777216 = 0 then .continue_ else .halt)
    ∧ d.list = (ws.getD 1 0).toNat)
  ∧ (∀ (ws : List Word) (off : Nat), fieldWord ws off = ws.getD (off / 4) 0
    ∧ fieldNat ws off = (ws.getD (off / 4) 0).toNat ∧ fieldInt ws off = (ws.getD (off / 4) 0).toInt
    ∧ (fieldByte ws off).toNat = (ws.getD (off / 4) 0).toNat / 256 ^ (off % 4) % 256)

/-- R18, R19, R20, R160, R171, R181: the findings in their order when the run word has been read, of which the first that applies
decides, with the RUN_ENDED notice of a START that fails at outcome 2 or 3 and BOARD_WAIT_ENTERED where no board is seated; what run
begin clears and sets, and that it touches no probe but a FAULTED one, and no read that ROOM has made or asked for.
The model's choices it rests on: log entries 15 and 17. -/
def Obligations.StartChecksAndRunBegin : Prop :=
  (∀ (s s1 : State) (r : Request) (ws : List Word), serve .loading s = some (r, ws, s1) → r.live = true →
      s.rc.run = .starting → s.rc.loadStep = some .runWord →
      ∃ u, exec .loadingReadComplete s = .next (sealPort (settle u)) ∧ u.mem = s1.mem ∧ u.settings = s1.settings
        ∧ (if fieldNat ws 0x08 % 64 ≠ 0 then u.rc.run = .halted ∧ u.rc.endCode = .badAnchor ∧ u.notice.inForce = false
           else if (fieldWord ws 0).getLsbD 0 = false then
            u.rc.run = .idle ∧ u.rc.endCode = .notReady ∧ u.notice.pend.runEnd = true
            ∧ (s1.notice.inForce = true → s1.notice.queue.length < 16 →
                u.notice.queue = s1.notice.queue ++ [⟨.runEnded, 3, 0, s1.rc.time, .plain⟩])
            ∧ (s1.notice.inForce = true → 16 ≤ s1.notice.queue.length →
                u.notice.held = s1.notice.held ++ [⟨.runEnded, 3, 0, s1.rc.time, .plain⟩])
           else if s1.link.up = false then u.rc.run = .halted ∧ u.rc.endCode = .linkLost
            ∧ (s1.rc.haltSeqs = [] → s1.rc.underWay = false → u.notice.pend.runEnd = true
              ∧ (s1.notice.inForce = true → s1.notice.queue.length < 16 → u.notice.queue.getLast? =
                  some ⟨.runEnded, 8, 0, s1.rc.time, .halt⟩ ∧ u.notice.queue.length = s1.notice.queue.length + 1))
           else
            u.corr = ⟨fieldInt ws 0x0C, fieldInt ws 0x10, fieldInt ws 0x14, fieldInt ws 0x18⟩
            ∧ u.rc.follow = (fieldWord ws 4).getLsbD 0 ∧ u.rc.boardChange = (fieldWord ws 4).getLsbD 1
            ∧ u.rc.mainList = fieldNat ws 0x08 ∧ u.rc.doneCount = fieldWord ws 0x1C
            ∧ (if s1.rc.guardSeenOpen then u.rc.run = .guardHold
                ∧ u.rc.remembered = (if s1.rc.boardLine.filtered then .running else .boardWait)
               else u.rc.run = (if s1.rc.boardLine.filtered then .running else .boardWait))
            ∧ (s1.rc.boardLine.filtered = true → u.rc.underWay = true ∧ u.notice = s1.notice)
            ∧ (s1.rc.boardLine.filtered = false → u.rc.waitKind = .seatAtStart
                ∧ NoticeRequested ⟨.boardWaitEntered, 1, 0, s1.rc.time, .plain⟩ s1 u)))
  ∧ (∀ s : State,
      (runBegin s).rc.time = 0 ∧ (runBegin s).rc.summary = ⟨0, 0, 0, 0, 0⟩ ∧ (runBegin s).rc.underWay = true
      ∧ (runBegin s).log = { s.log with fill := 0, release := 0, nextSeq := 1, capFill := 0, held := false }
      ∧ ⟨.logFill, s.settings.anchorBase + 0x100, .write [0], true, s.port.epoch⟩ ∈ (runBegin s).port.reqs
      ∧ ⟨.captureFill, s.settings.anchorBase + 0x108, .write [0], true, s.port.epoch⟩ ∈ (runBegin s).port.reqs
      ∧ (∀ r ∈ s.port.reqs, r.kind ≠ .fetch → r ∈ (runBegin s).port.reqs)
      ∧ (runBegin s).div.active = false ∧ (runBegin s).div.firstCause = none ∧ (runBegin s).div.secondCause = none
      ∧ (runBegin s).div.retryCount = 0 ∧ (runBegin s).div.retryOrigin = none
      ∧ (runBegin s).fetch.list = s.rc.mainList ∧ (runBegin s).fetch.index = 0 ∧ (runBegin s).fetch.stack = []
      ∧ (runBegin s).fetch.bank = 0 ∧ (runBegin s).fetch.recovery = false ∧ (runBegin s).fetch.held = none
      ∧ (∀ p, (probe s p).state = .faulted → probe (runBegin s) p = { probe s p with state := .unknown })
      ∧ (∀ p, (probe s p).state ≠ .faulted → probe (runBegin s) p = probe s p)
      ∧ (runBegin s).rc.run = s.rc.run ∧ (runBegin s).mem = s.mem ∧ (runBegin s).window = s.window)

/-- R4, R24, R31: CONTINUE from PAUSED, and from GUARD_HOLD once STOPPED has been received and the guard reads closed, by remembered
state. ROOM reads the release index in the run states of a run, and READY too in CHAIN_WAIT; while such a re-read is in flight it asks
for one more (the read that the room test has made for its own head is no such re-read); in IDLE, STARTING and HALTED it reads nothing.
The model's choices it rests on: log entries 18 and 19; and 42 (which anchor block's release word a STOPPING reads that a START not yet
loaded has led to). -/
def Obligations.ContinueAndRoom : Prop :=
  (∀ s : State,
      (s.rc.run = .paused → exec .continueRun s = .next (sealPort (settle { s with
        rc := { s.rc with run := .running }, fetch := { s.fetch with stopped := false } })))
      ∧ (s.rc.run = .guardHold → s.rc.stoppedReceived = true → s.rc.guardLine.filtered = false →
          (s.rc.remembered = .running ∨ s.rc.remembered = .paused →
            exec .continueRun s = .next (sealPort (settle { s with rc := { s.rc with run := s.rc.remembered } })))
          ∧ (s.rc.remembered = .chainWait →
            exec .continueRun s = .next (sealPort (settle { s with
              rc := { s.rc with run := .chainWait, readyAgain := false }
              port := { s.port with reqs := s.port.reqs ++
                [⟨.ready, runWordAddr s.settings.anchorBase s.rc.area.other, .read 1, true, s.port.epoch⟩] } })))
          ∧ (s.rc.remembered = .boardWait →
            exec .continueRun s = .next (sealPort (settle { s with
              rc := { s.rc with run := .boardWait, parking := Per.all .none } })))))
  ∧ (∀ s : State,
      (s.rc.run = .idle ∨ s.rc.run = .starting ∨ s.rc.run = .halted → exec .room s = .next s)
      ∧ (s.rc.run ≠ .idle → s.rc.run ≠ .starting → s.rc.run ≠ .halted →
          exec .room s = .next (sealPort { s with
            log := { s.log with readAgain := s.log.readAgain || decide ((if s.log.waiting then 1 else 0) < countLive .release s) }
            rc := { s.rc with readyAgain := s.rc.readyAgain || (decide (s.rc.run = .chainWait) && hasLive .ready s) }
            port := { s.port with reqs := s.port.reqs
              ++ (if (if s.log.waiting then 1 else 0) < countLive .release s then []
                  else [⟨.release, s.settings.anchorBase + 0x104, .read 1, true, s.port.epoch⟩])
              ++ (if s.rc.run = .chainWait ∧ hasLive .ready s = false then
                    [⟨.ready, runWordAddr s.settings.anchorBase s.rc.area.other, .read 1, true, s.port.epoch⟩]
                  else []) } })))

/-- R25, R26: STOP stops the fetcher, ends the measurement, discards the window, makes the Diversion Unit inactive and enters STOPPING;
no order is voided. From HALTED it enters STOPPING and the end code is kept. In STOPPING each probe that is not PARKED is given a PARK
as soon as one can be taken, but for one whose PARK of this STOPPING has failed, until parking has been given up; and STOPPING
completes, its first closing write made, exactly under the conditions of R26 (and with the writes of an earlier HALTED entry made).
The model's choices it rests on: log entries 11, 15, 32 and 33; 28 (parking that a guard opening has given up is not taken up again,
and STOPPING then completes though the guard reads closed again: the model's reading of R25 and R26); and 23 (STOP from HALTED keeps
the second parameter of RUN_ENDED). -/
def Obligations.StopEntersStopping : Prop :=
  (∀ s : State,
      (s.rc.run ≠ .idle → s.rc.run ≠ .stopping → s.rc.run ≠ .halted →
        ∃ u, exec .stop s = .next (sealPort (settle u)) ∧ u.rc.run = .stopping ∧ u.rc.pendingEnd = .aborted
          ∧ u.window = [] ∧ u.unit.step = none ∧ (s.unit.step ≠ none → u.unit.sourceOn = false ∧ u.unit.guardOn = false)
          ∧ u.div = { s.div with active := false } ∧ u.log.held = false
          ∧ u.fetch = { s.fetch with held := none, txn := none, stopped := true }
          ∧ u.link = s.link ∧ u.mem = s.mem ∧ u.rc.endCode = s.rc.endCode ∧ u.rc.summary = s.rc.summary
          ∧ u.rc.parking = Per.all .none ∧ u.rc.parkGivenUp = false ∧ u.rc.stopSeq = none
          ∧ u.port.reqs.length = s.port.reqs.length)
      ∧ (s.rc.run = .halted → exec .stop s = .next (sealPort (settle { s with rc := { s.rc with
          run := .stopping, pendingEnd := s.rc.endCode, parking := Per.all .none, parkGivenUp := false, stopSeq := none } }))))
  ∧ (∀ s : State, s.rc.run = .stopping → s.rc.stopSeq = none →
    (∀ p,
      ((probe s p).state = .parked ∨ s.rc.parking.get p = .failed ∨ s.rc.parkGivenUp = true ∨ requestOrder p .park s = none →
        probe (stoppingSettle s) p = probe s p)
      ∧ ((probe s p).state ≠ .parked → s.rc.parking.get p ≠ .failed → s.rc.parkGivenUp = false →
        (probe s p).order = none → s.link.stop = none → s.rc.guardLine.filtered = false → s.link.up = true →
        probe (stoppingSettle s) p = { probe s p with
          state := .parking, pos := none, order := some .park, verified := false, tag := (probe s p).tag + 1
          deadline := some s.settings.moveDeadline }
        ∧ (stoppingSettle s).rc.parking.get p = .issued))
    ∧ ((stoppingSettle s).rc.stopSeq ≠ none ∨ (stoppingSettle s).rc.run = .idle ↔
      (∀ p, (probe s p).order = none) ∧ s.link.stop = none ∧ s.rc.haltSeqs = []
      ∧ ((∀ p, (probe s p).state = .parked ∨ ((probe s p).state = .faulted ∧ s.rc.parking.get p = .failed))
        ∨ s.rc.guardLine.filtered = true ∨ s.rc.parkGivenUp = true ∨ s.link.up = false))
    ∧ ((∀ p, (probe s p).order = none) → s.link.stop = none → s.rc.haltSeqs = [] →
      (∀ p, (probe s p).state = .parked ∨ ((probe s p).state = .faulted ∧ s.rc.parking.get p = .failed))
        ∨ s.rc.guardLine.filtered = true ∨ s.rc.parkGivenUp = true ∨ s.link.up = false →
      (s.rc.loadedGood = true → s.rc.pendingEnd ≠ .badAnchor → stoppingSettle s = { s with
        rc := { s.rc with stopSeq := some (.wear 0) }
        port := { s.port with reqs := s.port.reqs ++ [⟨.stoppingWrite, s.settings.wearBase,
          .write [BitVec.ofNat 32 (probe s 0).touch, BitVec.ofNat 32 (probe s 0).miss], true, s.port.epoch⟩] } })
      ∧ (s.rc.loadedGood = false ∨ s.rc.pendingEnd = .badAnchor → s.rc.underWay = true → stoppingSettle s = { s with
        rc := { s.rc with stopSeq := some .summary }
        port := { s.port with reqs := s.port.reqs ++ [⟨.stoppingWrite, runWordAddr s.settings.anchorBase s.rc.area + 0x20,
          .write (summaryWords s.rc.summary), true, s.port.epoch⟩] } })
      ∧ (s.rc.loadedGood = false ∨ s.rc.pendingEnd = .badAnchor → s.rc.underWay = false →
        (s.notice.inForce = true → (stoppingSettle s).rc = { s.rc with stopSeq := some .notice }
          ∧ (s.notice.queue.length < 16 → (stoppingSettle s).notice.queue = s.notice.queue ++
            [⟨.runEnded, BitVec.ofNat 32 (endCodeCode s.rc.pendingEnd), s.rc.endCauses, s.rc.time, .stopping⟩]))
        ∧ (s.notice.inForce = false → (stoppingSettle s).rc.run = .idle ∧ (stoppingSettle s).rc.endCode = s.rc.pendingEnd
          ∧ (stoppingSettle s).notice.pend.runEnd = true))))

/-! ## The end of an area, the closing writes, chaining -/

/-- R46, R47, R48: with the window empty in RUNNING a held RETURN pops the innermost frame, a held END stops the fetcher and writes
the area summary (R21), and a held PAUSE stops the fetcher at the entry after it, enters PAUSED and requests its notice (R24).
The model's choices it rests on: log entry 16. -/
def Obligations.HeldEntriesReleased : Prop :=
  (∀ (s : State) (fs : List Frame) (f : Frame), s.fetch.held = some .ret → s.window = [] → s.rc.run = .running →
      s.fetch.stack = fs ++ [f] →
      exec .returnReleased s = .next (sealPort (settle { s with
        fetch := { s.fetch with held := none, list := f.list, index := f.index, stack := fs } })))
  ∧ (∀ s : State, s.fetch.held = some .endOfArea → s.window = [] → s.rc.run = .running →
      exec .endDrained s = .next (sealPort (settle { s with
        fetch := { s.fetch with held := none, stopped := true }
        rc := { s.rc with areaSeq := some .summary }
        port := { s.port with reqs := s.port.reqs ++ [⟨.areaWrite, runWordAddr s.settings.anchorBase s.rc.area + 0x20,
          .write [BitVec.ofNat 32 s.rc.summary.logged, BitVec.ofNat 32 s.rc.summary.passed,
            BitVec.ofNat 32 s.rc.summary.failed, BitVec.ofNat 32 s.rc.summary.skipped,
            BitVec.ofNat 32 s.rc.summary.stale], true, s.port.epoch⟩] } })))
  ∧ (∀ s : State, s.fetch.held = some .pause → s.window = [] → s.rc.run = .running →
      ∃ u, exec .pauseDrained s = .next (sealPort (settle u)) ∧ u.rc = { s.rc with run := .paused }
        ∧ u.fetch = { s.fetch with held := none, stopped := true, index := s.fetch.index + 1 }
        ∧ u.link = s.link ∧ u.mem = s.mem ∧ u.window = [] ∧ u.unit = s.unit ∧ u.div = s.div ∧ u.log = s.log
        ∧ u.notice.inForce = s.notice.inForce ∧ u.notice.pend = s.notice.pend
        ∧ NoticeRequested ⟨.paused, 0, 0, s.rc.time, .plain⟩ s u
        ∧ (s.notice.inForce = false → u = { s with rc := u.rc, fetch := u.fetch }))

/-- R21, R22: the area-completion writes, each made when the one before has completed, AREA_DONE (the area, the done count plus one)
the last (with the notice ring out of force nothing waits for it); then, in RUNNING, the move that FOLLOW and BOARD_CHANGE name, with
BOARD_WAIT_ENTERED or CHAIN_WAIT_ENTERED requested (R22, R23, R181).
The model's choices it rests on: log entries 16 and 33. -/
def Obligations.AreaWritesAndMove : Prop :=
  (∀ s : State,
      (∀ (s1 : State) (r : Request) (ws : List Word), serve .areaWrite s = some (r, ws, s1) → r.live = true →
        (s.rc.areaSeq = some .summary → exec .areaWriteComplete s = .next (sealPort (settle { s1 with
          rc := { s1.rc with areaSeq := some .ready }
          port := { s1.port with reqs := s1.port.reqs ++
            [⟨.areaWrite, runWordAddr s1.settings.anchorBase s1.rc.area, .write [0], true, s1.port.epoch⟩] } })))
        ∧ (s.rc.areaSeq = some .ready → exec .areaWriteComplete s = .next (sealPort (settle { s1 with
          rc := { s1.rc with areaSeq := some .doneCount }
          port := { s1.port with reqs := s1.port.reqs ++ [⟨.areaWrite,
            runWordAddr s1.settings.anchorBase s1.rc.area + 0x1C, .write [s1.rc.doneCount + 1], true, s1.port.epoch⟩] } })))
        ∧ (s.rc.areaSeq = some .doneCount → ∃ u, exec .areaWriteComplete s = .next (sealPort (settle u)) ∧ u.mem = s1.mem
          ∧ u.rc = { s1.rc with areaSeq := some (if s1.notice.inForce then .notice else .move) } ∧ u.link = s1.link
          ∧ u.window = s1.window ∧ u.fetch = s1.fetch
          ∧ (s1.notice.inForce = true → s1.notice.queue.length < 16 → u.notice.queue = s1.notice.queue ++
              [⟨.areaDone, BitVec.ofNat 32 (areaCode s1.rc.area), s1.rc.doneCount + 1, s1.rc.time, .area⟩])
          ∧ (s1.notice.inForce = true → 16 ≤ s1.notice.queue.length → u.notice.held = s1.notice.held ++
              [⟨.areaDone, BitVec.ofNat 32 (areaCode s1.rc.area), s1.rc.doneCount + 1, s1.rc.time, .area⟩])
          ∧ (s1.notice.inForce = false → u.notice = s1.notice)))
      ∧ (∀ (s1 : State) (r : Request) (ws : List Word) (n : Notice) (q : List Notice), serve .notice s = some (r, ws, s1) →
          r.live = true → s.rc.areaSeq = some .notice → s.notice.queue = n :: q → n.mark = .area →
          ∃ u, exec .areaWriteComplete s = .next (sealPort (settle u)) ∧ u.rc = { s1.rc with areaSeq := some .move }
            ∧ u.mem = s1.mem ∧ u.notice.fill = (s.notice.fill + 1) % 128))
  ∧ (∀ s : State, s.rc.areaSeq = some .move → s.rc.run = .running →
      (s.rc.follow = false → (areaMove s).rc.run = .stopping ∧ (areaMove s).rc.pendingEnd = .finished
          ∧ (areaMove s).rc.parking = Per.all .none ∧ (areaMove s).rc.parkGivenUp = false ∧ (areaMove s).rc.stopSeq = none
          ∧ (areaMove s).notice = s.notice)
      ∧ (s.rc.follow = true → s.rc.boardChange = true →
          (areaMove s).rc.run = .boardWait ∧ (areaMove s).rc.waitKind = .change
          ∧ (areaMove s).rc.seenAbsent = !s.rc.boardLine.filtered ∧ (areaMove s).rc.parking = Per.all .none
          ∧ NoticeRequested ⟨.boardWaitEntered, 2, 0, s.rc.time, .plain⟩ s (areaMove s))
      ∧ (s.rc.follow = true → s.rc.boardChange = false → (areaMove s).rc.run = .chainWait
          ∧ (areaMove s).port.reqs.getLast? =
            some ⟨.ready, runWordAddr s.settings.anchorBase s.rc.area.other, .read 1, true, s.port.epoch⟩
          ∧ NoticeRequested ⟨.chainWaitEntered, BitVec.ofNat 32 (areaCode s.rc.area.other), 0, s.rc.time, .plain⟩ s (areaMove s))
      ∧ (areaMove s).mem = s.mem ∧ (areaMove s).window = s.window ∧ (areaMove s).link = s.link)
  ∧ Area.a.other = .b ∧ Area.b.other = .a

/-- R20, R22: a BOARD_WAIT for a board to be seated goes on while the board reads absent and ends in RUNNING when it reads
present, with run begin where it was entered from STARTING. In a board-change wait each probe that is not PARKED is given a PARK as
soon as one can be taken, but for one whose PARK of this wait has failed; the wait ends in CHAIN_WAIT, CHAIN_WAIT_ENTERED requested
(R23), only with every probe PARKED or given up, seen-absent set and a board present, and with these it does end. -/
def Obligations.BoardWaitEnds : Prop :=
  ∀ s : State, s.rc.run = .boardWait →
    (s.rc.waitKind ≠ .change → s.rc.boardLine.filtered = false → boardSettle s = s)
    ∧ (s.rc.waitKind = .seatAtSwitch → s.rc.boardLine.filtered = true →
        boardSettle s = { s with rc := { s.rc with run := .running } })
    ∧ (s.rc.waitKind = .seatAtStart → s.rc.boardLine.filtered = true →
        boardSettle s = { runBegin s with rc := { (runBegin s).rc with run := .running } }
        ∧ (boardSettle s).rc.time = 0 ∧ (boardSettle s).rc.underWay = true
        ∧ (boardSettle s).fetch.list = s.rc.mainList ∧ (boardSettle s).log.nextSeq = 1)
    ∧ (s.rc.waitKind = .change →
        ((boardSettle s).rc.run = .chainWait →
          s.rc.boardLine.filtered = true ∧ s.rc.seenAbsent = true
          ∧ (∀ p, (probe (boardSettle s) p).state = .parked ∨ s.rc.parking.get p = .failed)
          ∧ NoticeRequested ⟨.chainWaitEntered, BitVec.ofNat 32 (areaCode s.rc.area.other), 0, s.rc.time, .plain⟩ s (boardSettle s))
        ∧ ((boardSettle s).rc.run = .boardWait → (boardSettle s).notice = s.notice ∧ (boardSettle s).port = s.port)
        ∧ (∀ p,
          ((probe s p).state = .parked ∨ s.rc.parking.get p = .failed ∨ requestOrder p .park s = none →
            probe (boardSettle s) p = probe s p)
          ∧ ((probe s p).state ≠ .parked → s.rc.parking.get p ≠ .failed → (probe s p).order = none → s.link.stop = none →
            s.rc.guardLine.filtered = false → s.link.up = true →
            probe (boardSettle s) p = { probe s p with
              state := .parking, pos := none, order := some .park, verified := false, tag := (probe s p).tag + 1
              deadline := some s.settings.moveDeadline }
            ∧ (boardSettle s).rc.parking.get p = .issued))
        ∧ ((boardSettle s).rc.run = .chainWait ∨ (boardSettle s).rc.run = .boardWait)
        ∧ (s.rc.boardLine.filtered = false → (boardSettle s).rc.seenAbsent = true)
        ∧ (s.rc.boardLine.filtered = true → s.rc.seenAbsent = true →
          (∀ p, (probe s p).state = .parked ∨ s.rc.parking.get p = .failed) →
          (boardSettle s).rc.run = .chainWait ∧ (boardSettle s).link = s.link ∧ (boardSettle s).port.reqs.getLast? =
            some ⟨.ready, runWordAddr s.settings.anchorBase s.rc.area.other, .read 1, true, s.port.epoch⟩))

/-- R20, R23: READY is read again 1 ms after the previous read, in CHAIN_WAIT; a READY read that finds the flag set reads the other
run word whole, and one that finds it clear leaves the wait as it is. The area switch: what it records, clears and sets, what it
leaves, and the state it enters (BOARD_WAIT with its notice where no board is seated); a misaligned main list halts with BAD_ANCHOR
and switches nothing.
The model's choices it rests on: log entries 9 and 19. -/
def Obligations.ChainWaitAndAreaSwitch : Prop :=
  (∀ s : State, s.rc.run = .chainWait → hasLive .runWord s = false →
      (hasLive .ready s = false → exec .readyPoll s = .next (sealPort { s with port := { s.port with reqs := s.port.reqs ++
        [⟨.ready, runWordAddr s.settings.anchorBase s.rc.area.other, .read 1, true, s.port.epoch⟩] } }))
      ∧ ∀ (s1 : State) (r : Request) (w : Word), serve .ready s = some (r, [w], s1) → r.live = true →
        (s.rc.readyAgain = false → w.getLsbD 0 = false → exec .readyReadComplete s = .next (sealPort s1))
        ∧ (s.rc.readyAgain = false → w.getLsbD 0 = true → hasLive .runWord s1 = false →
          exec .readyReadComplete s = .next (sealPort { s1 with port := { s1.port with reqs := s1.port.reqs ++
            [⟨.runWord, runWordAddr s1.settings.anchorBase s1.rc.area.other, .read 16, true, s1.port.epoch⟩] } }))
        ∧ (s.rc.readyAgain = true → exec .readyReadComplete s = .next (sealPort { s1 with
          rc := { s1.rc with readyAgain := false }
          port := { s1.port with reqs := s1.port.reqs ++
            [⟨.ready, runWordAddr s1.settings.anchorBase s1.rc.area.other, .read 1, true, s1.port.epoch⟩] } })))
  ∧ (∀ (s s1 : State) (r : Request) (ws : List Word), serve .runWord s = some (r, ws, s1) → r.live = true →
      s.rc.run = .chainWait →
      ∃ u, exec .runWordReadComplete s = .next (sealPort (settle u)) ∧ u.mem = s1.mem ∧ u.settings = s1.settings
        ∧ (fieldNat ws 0x08 % 64 ≠ 0 →
            u.rc.run = .halted ∧ u.rc.endCode = .badAnchor ∧ u.rc.area = s1.rc.area ∧ u.corr = s1.corr
            ∧ u.notice.inForce = false)
        ∧ (fieldNat ws 0x08 % 64 = 0 →
            u.rc.run = (if s1.rc.boardLine.filtered then .running else .boardWait) ∧ u.rc.area = s1.rc.area.other
            ∧ (s1.rc.boardLine.filtered = false → u.rc.waitKind = .seatAtSwitch
                ∧ NoticeRequested ⟨.boardWaitEntered, 1, 0, s1.rc.time, .plain⟩ s1 u)
            ∧ (s1.rc.boardLine.filtered = true → u.notice = s1.notice)
            ∧ u.rc.follow = (fieldWord ws 4).getLsbD 0 ∧ u.rc.boardChange = (fieldWord ws 4).getLsbD 1
            ∧ u.rc.mainList = fieldNat ws 0x08 ∧ u.rc.doneCount = fieldWord ws 0x1C
            ∧ u.corr = ⟨fieldInt ws 0x0C, fieldInt ws 0x10, fieldInt ws 0x14, fieldInt ws 0x18⟩
            ∧ u.rc.summary = ⟨0, 0, 0, 0, 0⟩ ∧ u.div.retryCount = 0 ∧ u.div.retryOrigin = none
            ∧ u.fetch.list = fieldNat ws 0x08 ∧ u.fetch.index = 0 ∧ u.fetch.stack = [] ∧ u.fetch.bank = 0
            ∧ u.rc.time = s1.rc.time ∧ u.log = s1.log ∧ u.link = s1.link))

/-- R27: what HALTED entry does, from every run state but HALTED: the fetcher stopped, the measurement ended, the window empty,
the Diversion Unit inactive with its causes kept, the probes and their orders as they were.
The model's choices it rests on: log entries 11 and 15. -/
def Obligations.HaltedEntryEffects : Prop :=
  ∀ (code : EndCode) (causes : Word) (s : State),
    (s.rc.run = .halted → enterHalted code causes s = s)
    ∧ (s.rc.run ≠ .halted →
      (enterHalted code causes s).rc.run = .halted ∧ (enterHalted code causes s).rc.endCode = code
      ∧ (enterHalted code causes s).rc.underWay = false
      ∧ (enterHalted code causes s).fetch = { s.fetch with held := none, txn := none, stopped := true }
      ∧ (enterHalted code causes s).unit.step = none
      ∧ (s.unit.step ≠ none → (enterHalted code causes s).unit.sourceOn = false)
      ∧ (enterHalted code causes s).window = []
      ∧ (enterHalted code causes s).div = { s.div with active := false }
      ∧ (enterHalted code causes s).link = s.link ∧ (enterHalted code causes s).mem = s.mem
      ∧ (enterHalted code causes s).log.held = false ∧ (enterHalted code causes s).rc.summary = s.rc.summary
      ∧ (code = .badAnchor →
          (enterHalted code causes s).notice.inForce = false ∧ (enterHalted code causes s).notice.pend.runEnd = true
          ∧ (enterHalted code causes s).port.reqs.length = s.port.reqs.length)
      ∧ (code ≠ .badAnchor → s.rc.loadedGood = true → s.rc.run ≠ .starting → s.rc.haltSeqs = [] →
          (enterHalted code causes s).port.reqs.getLast? = some ⟨.haltWrite, s.settings.wearBase,
            .write [BitVec.ofNat 32 (probe s 0).touch, BitVec.ofNat 32 (probe s 0).miss], true, s.port.epoch⟩))

/-- R26, R27: the closing writes, each after the previous one: the wear records of P0 to P7, the summary if a run was under way,
the RUN_ENDED notice; in STOPPING then RUN_END pending and IDLE with the pending end code; after a HALTED entry (here the only one
whose writes are under way) RUN_END is pending as the notice is requested. RUN_ENDED carries the end code and the causes of the halt.
The model's choices it rests on: log entries 11, 15, 16 and 33. -/
def Obligations.ClosingWritesInOrder : Prop :=
  (∀ s : State,
    (∀ (s1 : State) (r : Request) (ws : List Word), serve .stoppingWrite s = some (r, ws, s1) → r.live = true →
      (∀ p, s.rc.stopSeq = some (.wear p) → p < 7 → exec .stoppingWriteComplete s = .next (sealPort (settle { s1 with
        rc := { s1.rc with stopSeq := some (.wear (p + 1)) }
        port := { s1.port with reqs := s1.port.reqs ++ [⟨.stoppingWrite, s1.settings.wearBase + 8 * (p + 1),
          .write [BitVec.ofNat 32 (probe s1 (probeOfNat (p + 1))).touch, BitVec.ofNat 32 (probe s1 (probeOfNat (p + 1))).miss],
          true, s1.port.epoch⟩] } })))
      ∧ (s.rc.stopSeq = some (.wear 7) → s.rc.underWay = true →
        exec .stoppingWriteComplete s = .next (sealPort (settle { s1 with
          rc := { s1.rc with stopSeq := some .summary }
          port := { s1.port with reqs := s1.port.reqs ++ [⟨.stoppingWrite,
            runWordAddr s1.settings.anchorBase s1.rc.area + 0x20, .write (summaryWords s1.rc.summary), true,
            s1.port.epoch⟩] } })))
      ∧ (s.rc.stopSeq = some .summary ∨ (s.rc.stopSeq = some (.wear 7) ∧ s.rc.underWay = false) →
        ∃ u, exec .stoppingWriteComplete s = .next (sealPort (settle u)) ∧ u.mem = s1.mem
          ∧ (s1.notice.inForce = true → u.rc = { s1.rc with stopSeq := some .notice }
            ∧ (s1.notice.queue.length < 16 → u.notice.queue = s1.notice.queue ++
                [⟨.runEnded, BitVec.ofNat 32 (endCodeCode s1.rc.pendingEnd), s1.rc.endCauses, s1.rc.time, .stopping⟩])
            ∧ (16 ≤ s1.notice.queue.length → u.notice.held = s1.notice.held ++
                [⟨.runEnded, BitVec.ofNat 32 (endCodeCode s1.rc.pendingEnd), s1.rc.endCauses, s1.rc.time, .stopping⟩]))
          ∧ (s1.notice.inForce = false →
              u.rc.run = .idle ∧ u.rc.endCode = s.rc.pendingEnd ∧ u.notice.pend.runEnd = true)))
    ∧ (∀ (s1 : State) (r : Request) (ws : List Word) (n : Notice) (q : List Notice), serve .notice s = some (r, ws, s1) →
        r.live = true → s.rc.stopSeq = some .notice → s.notice.queue = n :: q → n.mark = .stopping →
        ∃ u, exec .stoppingWriteComplete s = .next (sealPort (settle u)) ∧ u.mem = s1.mem ∧ u.rc.run = .idle
          ∧ u.rc.endCode = s.rc.pendingEnd ∧ u.rc.underWay = false ∧ u.notice.pend.runEnd = true))
  ∧ (∀ (s s1 : State) (r : Request) (ws : List Word) (h : HaltSeq), serve .haltWrite s = some (r, ws, s1) →
    s.rc.haltSeqs = [h] →
    (∀ p, h.phase = .wear p → p < 7 → exec .haltWriteComplete s = .next (sealPort (settle { s1 with
      rc := { s1.rc with haltSeqs := [{ h with phase := .wear (p + 1) }] }
      port := { s1.port with reqs := s1.port.reqs ++ [⟨.haltWrite, h.wearBase + 8 * (p + 1),
        .write [BitVec.ofNat 32 (probe s1 (probeOfNat (p + 1))).touch, BitVec.ofNat 32 (probe s1 (probeOfNat (p + 1))).miss],
        true, s1.port.epoch⟩] } })))
    ∧ (h.phase = .wear 7 → h.underWay = true → exec .haltWriteComplete s = .next (sealPort (settle { s1 with
      rc := { s1.rc with haltSeqs := [{ h with phase := .summary }] }
      port := { s1.port with reqs := s1.port.reqs ++ [⟨.haltWrite, h.runWordAddr + 0x20, .write (summaryWords h.summary),
        true, s1.port.epoch⟩] } })))
    ∧ (h.phase = .summary ∨ (h.phase = .wear 7 ∧ h.underWay = false) →
      ∃ u, exec .haltWriteComplete s = .next (sealPort (settle u)) ∧ u.rc = { s1.rc with haltSeqs := [] }
        ∧ u.notice.pend.runEnd = true ∧ u.mem = s1.mem
        ∧ (s1.notice.inForce = true → s1.notice.queue.length < 16 →
            u.notice.queue = s1.notice.queue ++
              [⟨.runEnded, BitVec.ofNat 32 (endCodeCode h.endCode), h.causes, s1.rc.time, .halt⟩])))
  ∧ (∀ c : Summary, summaryWords c = [BitVec.ofNat 32 c.logged, BitVec.ofNat 32 c.passed, BitVec.ofNat 32 c.failed,
      BitVec.ofNat 32 c.skipped, BitVec.ofNat 32 c.stale])

/-! ## The machine's lines, the link and the time stamp -/

/-- R28, R31: a raw level change moves no filtered level; the first level after a reset is taken once, without source or notice;
the guard closing makes GUARD pending, requests its notice outside IDLE and resumes nothing.
The model's choices it rests on: log entries 7 and 8. -/
def Obligations.LevelsAndGuardClosing : Prop :=
  (∀ (s : State) (level : Bool),
      exec (.rawLineChange .guard level) s =
        .next { s with rc := { s.rc with guardLine := { s.rc.guardLine with raw := level } } }
      ∧ exec (.rawLineChange .board level) s =
        .next { s with rc := { s.rc with boardLine := { s.rc.boardLine with raw := level } } }
      ∧ (s.rc.guardLine.taken = false → exec (.firstLevelTaken .guard) s = .next (sealPort (settle { s with
          rc := { s.rc with guardLine := ⟨s.rc.guardLine.raw, s.rc.guardLine.raw, true⟩ } })))
      ∧ (s.rc.boardLine.taken = false → exec (.firstLevelTaken .board) s = .next (sealPort (settle { s with
          rc := { s.rc with boardLine := ⟨s.rc.boardLine.raw, s.rc.boardLine.raw, true⟩ } })))
      ∧ (∀ l, (lineOf l s).taken = true → exec (.firstLevelTaken l) s = .next s)
      ∧ lineOf .guard s = s.rc.guardLine ∧ lineOf .board s = s.rc.boardLine)
  ∧ (∀ s : State, s.rc.guardLine.taken = true → s.rc.guardLine.raw = false → s.rc.guardLine.filtered = true →
      ∃ u, exec .guardClosed s = .next (sealPort (settle u))
        ∧ u.rc = { s.rc with guardLine := ⟨false, false, true⟩ } ∧ u.notice.pend = { s.notice.pend with guard := true }
        ∧ u.link = s.link ∧ u.window = s.window ∧ u.fetch = s.fetch ∧ u.unit = s.unit ∧ u.mem = s.mem ∧ u.div = s.div
        ∧ (s.rc.run = .idle ∨ s.notice.inForce = false → u.notice.queue = s.notice.queue ∧ u.port = s.port)
        ∧ (s.rc.run ≠ .idle → s.notice.inForce = true → s.notice.queue.length < 16 →
          u.notice.queue = s.notice.queue ++ [⟨.guardClosed, BitVec.ofNat 32 (runCode s.rc.run), 0, s.rc.time, .plain⟩]))

/-- R18, R26, R28, R29, R108, R109, R121, R140: the guard opening voids every order, sends STOP where the link is up, ends the
measurement with the source off and takes the deferred checks, makes GUARD pending, and enters GUARD_HOLD from the four run states of a
run; in STARTING it is remembered that the guard has read open, in STOPPING parking is given up; the window keeps its entries.
The model's choices it rests on: log entries 7 and 8; and 28 (parking once given up is not taken up again in that STOPPING). -/
def Obligations.GuardOpeningStops : Prop :=
  ∀ s : State, s.rc.guardLine.taken = true → s.rc.guardLine.raw = true → s.rc.guardLine.filtered = false →
    ∃ u, exec .guardOpened s = .next (sealPort (settle u))
      ∧ u.rc.guardLine = ⟨true, true, true⟩ ∧ u.rc.stoppedReceived = false
      ∧ u.notice.pend = { s.notice.pend with guard := true }
      ∧ (∀ p, (probe u p).order = none ∧ (probe u p).tag = (probe s p).tag ∧ (probe u p).touch = (probe s p).touch
          ∧ (probe u p).miss = (probe s p).miss ∧ (probe u p).due = (probe s p).due
          ∧ ((probe s p).order ≠ none → (probe u p).state = .unknown ∧ (probe u p).pos = none
              ∧ (probe u p).verified = false ∧ (probe u p).deadline = none)
          ∧ ((probe s p).order = none → probe u p = probe s p))
      ∧ u.link.up = s.link.up ∧ (s.link.up = true → s.link.stop = none → u.link.stop = some 500)
      ∧ (s.link.up = false ∨ s.link.stop ≠ none → u.link.stop = s.link.stop)
      ∧ u.link.sent = []
      ∧ u.unit.step = none ∧ (s.unit.step ≠ none → u.unit.sourceOn = false ∧ u.unit.guardOn = false)
      ∧ (s.unit.step ≠ none → DeferredTaken s u) ∧ (s.unit.step = none → u.checks = s.checks)
      ∧ u.window = s.window ∧ u.fetch = s.fetch ∧ u.mem = s.mem ∧ u.div = s.div ∧ u.regs = s.regs
      ∧ (s.rc.run = .running ∨ s.rc.run = .paused ∨ s.rc.run = .chainWait ∨ s.rc.run = .boardWait →
          u.rc.run = .guardHold ∧ u.rc.remembered = s.rc.run)
      ∧ (s.rc.run = .idle ∨ s.rc.run = .starting ∨ s.rc.run = .guardHold ∨ s.rc.run = .stopping ∨ s.rc.run = .halted →
          u.rc.run = s.rc.run ∧ u.rc.remembered = s.rc.remembered)
      ∧ (s.rc.run = .starting → u.rc.guardSeenOpen = true) ∧ (s.rc.run = .stopping → u.rc.parkGivenUp = true)
      ∧ u.rc = { s.rc with
          guardLine := ⟨true, true, true⟩, stoppedReceived := false, run := u.rc.run, remembered := u.rc.remembered
          guardSeenOpen := s.rc.guardSeenOpen || decide (s.rc.run = .starting)
          parkGivenUp := s.rc.parkGivenUp || decide (s.rc.run = .stopping)
          readyAgain := s.rc.readyAgain && decide (u.rc.run = s.rc.run) }
      ∧ (s.rc.run = .idle → u.notice.queue = s.notice.queue)
      ∧ (s.rc.run ≠ .idle → s.notice.inForce = true → s.notice.queue.length < 16 →
          u.notice.queue = s.notice.queue ++ [⟨.guardOpened, BitVec.ofNat 32 (runCode s.rc.run), 0, s.rc.time, .plain⟩])

/-- R22, R28, R32: a board lost in RUNNING, PAUSED, or GUARD_HOLD remembering either halts the run with BOARD_LOST, its orders voided
and STOP sent only outside GUARD_HOLD, and leaves every other run state; a board seated only sets the level.
The model's choices it rests on: log entries 7 and 18. -/
def Obligations.BoardLevelChanges : Prop :=
  (∀ s : State, s.rc.boardLine.taken = true → s.rc.boardLine.raw = false → s.rc.boardLine.filtered = true →
      ∃ u, exec .boardLost s = .next (sealPort (settle u)) ∧ u.rc.boardLine = ⟨false, false, true⟩ ∧ u.mem = s.mem
        ∧ u.regs = s.regs
        ∧ (s.rc.run = .running ∨ s.rc.run = .paused
            ∨ (s.rc.run = .guardHold ∧ (s.rc.remembered = .running ∨ s.rc.remembered = .paused)) →
            u.rc.run = .halted ∧ u.rc.endCode = .boardLost ∧ u.window = [] ∧ u.unit.step = none
            ∧ (∀ p, (probe u p).order = none) ∧ u.div.active = false)
        ∧ (s.rc.run = .running ∨ s.rc.run = .paused → s.link.up = true → s.link.stop = none → u.link.stop = some 500)
        ∧ (s.rc.run = .guardHold → u.link.stop = s.link.stop)
        ∧ (s.rc.run ≠ .running → s.rc.run ≠ .paused →
            s.rc.run ≠ .guardHold ∨ (s.rc.remembered ≠ .running ∧ s.rc.remembered ≠ .paused) →
            u.rc.run = s.rc.run ∧ u.link = s.link ∧ u.window = s.window ∧ u.unit = s.unit ∧ u.notice = s.notice))
  ∧ (∀ s : State, s.rc.boardLine.taken = true → s.rc.boardLine.raw = true → s.rc.boardLine.filtered = false →
      exec .boardSeated s = .next (sealPort (settle { s with rc := { s.rc with boardLine := ⟨true, true, true⟩ } })))

/-- R33, R111: a link loss voids every order and an outstanding STOP, makes every probe UNKNOWN and ends the measurement, and halts
the run with LINK_LOST outside IDLE and HALTED; at link bring-up STOP is sent, with its 500 ms deadline.
The model's choices it rests on: log entry 7. -/
def Obligations.LinkChanges : Prop :=
  (∀ s : State, s.link.up = true →
      ∃ u, exec .linkDown s = .next (sealPort (settle u)) ∧ u.link.up = false ∧ u.link.stop = none ∧ u.link.sent = []
        ∧ u.unit.step = none
        ∧ (s.unit.step ≠ none → u.unit.sourceOn = false ∧ u.unit.guardOn = false) ∧ u.mem = s.mem ∧ u.regs = s.regs
        ∧ (∀ p, (probe u p).state = .unknown ∧ (probe u p).order = none ∧ (probe u p).pos = none
            ∧ (probe u p).verified = false ∧ (probe u p).tag = (probe s p).tag ∧ (probe u p).touch = (probe s p).touch
            ∧ (probe u p).miss = (probe s p).miss ∧ (probe u p).due = (probe s p).due)
        ∧ (s.rc.run = .idle ∨ s.rc.run = .halted → u.rc = s.rc ∧ u.window = s.window)
        ∧ (s.rc.run ≠ .idle → s.rc.run ≠ .halted → u.rc.run = .halted ∧ u.rc.endCode = .linkLost ∧ u.window = []))
  ∧ (∀ s : State, s.link.up = false → s.link.stop = none →
      exec .linkUp s = .next (sealPort (settle { s with link := { s.link with up := true, stop := some 500 } })))

/-- R34: outside IDLE a tick advances the time stamp by 1; in IDLE it holds; the advance from 4,294,967,295 goes to 0 and requests
TIME_WRAP while the notice ring is in force.
The model's choices it rests on: log entry 20. -/
def Obligations.TimeStampAdvances : Prop :=
  ∀ s : State,
    (s.rc.run = .idle → exec .timeStampTick s = .next s ∧ exec .timeWrap s = .next s)
    ∧ (s.rc.run ≠ .idle → s.rc.time.toNat < 4294967295 →
        exec .timeStampTick s = .next { s with rc := { s.rc with time := s.rc.time + 1 } } ∧ exec .timeWrap s = .next s)
    ∧ (s.rc.run ≠ .idle → s.rc.time.toNat = 4294967295 →
        ∃ t, exec .timeStampTick s = .next t ∧ exec .timeWrap s = .next t ∧ t.rc = { s.rc with time := 0 } ∧ t.mem = s.mem
          ∧ t.link = s.link ∧ t.window = s.window
          ∧ (s.notice.inForce = false → t.notice = s.notice)
          ∧ (s.notice.inForce = true → s.notice.queue.length < 16 →
              t.notice.queue = s.notice.queue ++ [⟨.timeWrap, 0, 0, 0, .plain⟩]))

/-! ## Reports, orders and the probes -/

/-- R102, R113, R114, R116, R83, R119: a report that answers the outstanding order completes it: the record it leaves, the touch it
counts with the service-due test made of it, and the role or mask member it moves on: the ORDERED member of the entry that holds the
probe's reservation becomes COMPLETE, and the entry DONE with the last of them (MembersServed says what doneIfComplete does); every
other member and entry is as it was. A check requested starts, or is held while the unit measures or a check of the probe runs.
The model's choices it rests on: log entry 35. -/
def Obligations.OrdersComplete : Prop :=
  (∀ (p : ProbeNo) (s : State) (first : Bool),
    (first = true ∧ ∃ x y, (probe s p).order = some (.move x y))
      ∨ (first = false ∧ ∃ x y, (probe s p).order = some (.retouch x y)) →
    ∃ u, exec (.landed p (probe s p).tag) s = .next (sealPort (settle u))
      ∧ probe u p = { probe s p with
          state := .landed, order := none, deadline := none, verified := false
          touch := min 65535 ((probe s p).touch + 1), due := (probe u p).due }
      ∧ ServiceTested p (min 65535 ((probe s p).touch + 1)) (probe s p).miss s u ∧ u.link.sent = s.link.sent.erase p
      ∧ (∀ q, q ≠ p → probe u q = probe s q) ∧ u.mem = s.mem ∧ u.rc = s.rc ∧ u.link.stop = s.link.stop
      ∧ (∀ e i, holder s p = some e → owningRole e p = some i →
          u.window = s.window.map (fun f => if f.uid = e.uid then
            { f with roles := f.roles.modify i fun r => { r with state := .checking } } else f)
          ∧ u.checks = s.checks.set p (requestedSlot s.unit.step.isNone ⟨e.uid, i, (probe s p).tag, first⟩ (s.checks.get p)))
      ∧ (holder s p = none ∨ (∃ e, holder s p = some e ∧ owningRole e p = none) →
          u.window = s.window ∧ u.checks = s.checks))
  ∧ (∀ (p : ProbeNo) (s : State), (probe s p).order = some .lift →
    ∃ u, exec (.lifted p (probe s p).tag) s = .next (sealPort (settle u))
      ∧ u = { s with link := { s.link with probes := u.link.probes, sent := s.link.sent.erase p } }
      ∧ probe u p = { probe s p with state := .lifted, order := none, deadline := none, verified := false, pos := none }
      ∧ ∀ q, q ≠ p → probe u q = probe s q)
  ∧ (∀ (p : ProbeNo) (s : State), (probe s p).order = some .park →
    ∃ u, exec (.parked p (probe s p).tag) s = .next (sealPort (settle u))
      ∧ probe u p = { probe s p with state := .parked, order := none, deadline := none, verified := false, pos := none }
      ∧ (∀ q, q ≠ p → probe u q = probe s q) ∧ u.mem = s.mem ∧ u.rc = s.rc ∧ u.link.sent = s.link.sent.erase p
      ∧ (holder s p = none → u.window = s.window)
      ∧ (∀ e, holder s p = some e →
          (e.kind ≠ .park → u.window = s.window)
          ∧ (e.kind = .park → u.window = s.window.map fun f => if f.uid = e.uid then doneIfComplete { f with
              members := f.members.map fun m => if m.probe = p ∧ m.state = .ordered then { m with state := .complete } else m }
              else f))
      ∧ (∀ e, holder s p = some e → e.kind = .park → e.state = .pending →
          (∀ m ∈ e.members, (m.probe = p ∧ m.state = .ordered) ∨ m.state = .complete) →
          ∃ f ∈ u.window, f.uid = e.uid ∧ f.state = .done ∧ f.snap = e.snap))
  ∧ (∀ (p : ProbeNo) (s : State) (n : Nat), (probe s p).order = some (.clean n) →
    ∃ u, exec (.cleaned p (probe s p).tag) s = .next (sealPort (settle u))
      ∧ probe u p = { probe s p with
          state := .lifted, order := none, deadline := none, verified := false, pos := none
          touch := 0, miss := 0, due := false }
      ∧ (∀ q, q ≠ p → probe u q = probe s q) ∧ u.mem = s.mem ∧ u.rc = s.rc ∧ u.link.sent = s.link.sent.erase p
      ∧ (holder s p = none → u.window = s.window)
      ∧ (∀ e, holder s p = some e →
          (e.kind ≠ .clean → u.window = s.window)
          ∧ (e.kind = .clean → u.window = s.window.map fun f => if f.uid = e.uid then doneIfComplete { f with
              members := f.members.map fun m => if m.probe = p ∧ m.state = .ordered then { m with state := .complete } else m }
              else f))
      ∧ (∀ e, holder s p = some e → e.kind = .clean → e.state = .pending →
          (∀ m ∈ e.members, (m.probe = p ∧ m.state = .ordered) ∨ m.state = .complete) →
          ∃ f ∈ u.window, f.uid = e.uid ∧ f.state = .done ∧ f.snap = e.snap))
  ∧ (∀ (e : Entry) (p : ProbeNo),
    (∀ i, owningRole e p = some i →
      ∃ r, e.roles[i]? = some r ∧ r.probe = p ∧ (r.state = .ordered ∨ r.state = .retouching))
    ∧ (owningRole e p = none ↔ ∀ r ∈ e.roles, r.probe = p → r.state ≠ .ordered ∧ r.state ≠ .retouching))
  ∧ (∀ (idle : Bool) (c : CheckRec) (slot : CheckSlot),
    requestedSlot idle c slot = (match slot.running with
      | some r => ⟨some r, some c⟩
      | none => if idle then ⟨some c, none⟩ else ⟨none, some c⟩))

/-- R103: a stale report only adds 1 to the stale-reports counter (R35): no outstanding order, another tag, a kind that does not
answer the order, or STOPPED with no STOP outstanding. -/
def Obligations.StaleReportsOnlyCounted : Prop :=
  ∀ (p : ProbeNo) (tag : BitVec 4) (s t : State),
    t = { s with rc := { s.rc with summary := { s.rc.summary with
      stale := if s.rc.summary.stale < 4294967295 then s.rc.summary.stale + 1 else 4294967295 } } } →
    ((probe s p).order = none ∨ tag ≠ (probe s p).tag →
      exec (.landed p tag) s = .next t ∧ exec (.lifted p tag) s = .next t
      ∧ exec (.parked p tag) s = .next t ∧ exec (.cleaned p tag) s = .next t)
    ∧ (∀ o, (probe s p).order = some o →
      ((∀ x y, o ≠ .move x y ∧ o ≠ .retouch x y) → exec (.landed p tag) s = .next t)
      ∧ (o ≠ .lift → exec (.lifted p tag) s = .next t)
      ∧ (o ≠ .park → exec (.parked p tag) s = .next t)
      ∧ ((∀ n, o ≠ .clean n) → exec (.cleaned p tag) s = .next t))
    ∧ (s.link.stop = none → exec .stopped s = .next t)

/-- R22, R26, R85, R104, R105, R107: a FAULT report, whatever its tag, and the expiry of an order's deadline fault the probe, end a
measurement it takes part in, and fail the unmeasured entry that holds its reservation, its roles or members under way falling back to
WAITING; where they end a PARK that the Run Controller has asked for itself, in STOPPING or a board change, that PARK is marked as
failed, and nothing else of the Run Controller changes. An expiry with no order outstanding changes nothing.
The model's choices it rests on: log entries 7 and 8. -/
def Obligations.FaultAndExpiry : Prop :=
  (∀ (p : ProbeNo) (s : State) (c : Instr) (code : Byte) (cause : Cause) (detail : Nat),
    (∃ tag k, c = .fault p tag k ∧ code = (if k = 0 then 255 else k) ∧ cause = .motionFault ∧ detail = code.toNat)
      ∨ (c = .orderDeadlineExpiry p ∧ (probe s p).order ≠ none ∧ code = 0 ∧ cause = .motionTimeout ∧ detail = p.val) →
    ∃ u, exec c s = .next (sealPort (settle u))
      ∧ probe u p = { probe s p with
          state := .faulted, pos := none, order := none, deadline := none, verified := false, faultCode := code }
      ∧ (∀ q, q ≠ p → probe u q = probe s q) ∧ u.mem = s.mem ∧ u.rc.run = s.rc.run ∧ u.div = s.div
      ∧ ((probe s p).order = some .park → s.rc.parking.get p = .issued → u.rc.parking.get p = .failed)
      ∧ u.rc = { s.rc with parking :=
          if (probe s p).order = some .park ∧ s.rc.parking.get p = .issued then s.rc.parking.set p .failed else s.rc.parking }
      ∧ u.link.sent = s.link.sent.erase p
      ∧ (measuredProbe p s = true → u.unit.step = none ∧ u.unit.sourceOn = false ∧ u.unit.guardOn = false ∧ DeferredTaken s u)
      ∧ (holder s p = none → u.window = s.window)
      ∧ (∀ e, holder s p = some e → entryOf s e.uid = some e →
          (unmeasured e = false → u.window = s.window) ∧ (unmeasured e = true → EntryFailed e.uid cause detail s u)))
  ∧ (∀ (p : ProbeNo) (s : State), (probe s p).order = none → exec (.orderDeadlineExpiry p) s = .next s)
  ∧ (∀ (p : ProbeNo) (s : State), measuredProbe p s = true ↔
      ∃ st e, s.unit.step = some st ∧ entryOf s st.entry = some e ∧ ∃ r ∈ e.roles, r.probe = p)
  ∧ (∀ (p q : ProbeNo) (marks : Per ParkMark) (m : ParkMark),
      (marks.set p m).get q = if q = p then m else marks.get q)

/-- R30, R95, R110: STOPPED and the STOP deadline end the STOP and make every probe UNKNOWN. STOPPED sets the STOPPED-received mark and
has the window take its probes back; the deadline halts the run with LINK_LOST outside IDLE and HALTED.
The model's choices it rests on: log entry 7. -/
def Obligations.StopAnsweredOrMissed : Prop :=
  ∀ s : State,
    (s.link.stop = none → exec .stopDeadlineExpiry s = .next s)
    ∧ (s.link.stop ≠ none →
      (∃ u : State, exec .stopped s = .next (sealPort (settle u)) ∧ u.link.stop = none ∧ u.link.up = s.link.up
        ∧ (∀ p, probe u p = { probe s p with state := .unknown, pos := none, verified := false })
        ∧ u.rc = { s.rc with stoppedReceived := true } ∧ u.unit.step = none ∧ u.mem = s.mem ∧ u.fetch = s.fetch
        ∧ u.window.length = s.window.length
        ∧ ∀ (i : Nat) (e : Entry), s.window[i]? = some e → ∃ f : Entry, u.window[i]? = some f ∧ f.uid = e.uid
            ∧ (unmeasured e = false → f = e)
            ∧ (unmeasured e = true → e.kind = .measure → f.state = .pending ∧ (∀ r ∈ f.roles, r.state = .waiting)
                ∧ f.roles.map (·.retouches) = e.roles.map (·.retouches))
            ∧ (unmeasured e = true → e.kind = .clean ∨ e.kind = .park →
                f.state = e.state ∧ ∀ m ∈ f.members, m.state ≠ .ordered))
      ∧ (∃ u, exec .stopDeadlineExpiry s = .next (sealPort (settle u)) ∧ u.link.stop = none ∧ u.link.up = s.link.up
        ∧ (∀ p, probe u p = { probe s p with state := .unknown, pos := none, verified := false }) ∧ u.mem = s.mem
        ∧ u.rc.stoppedReceived = s.rc.stoppedReceived ∧ u.unit.step = none
        ∧ (s.rc.run = .idle ∨ s.rc.run = .halted → u.rc = s.rc ∧ u.window = s.window)
        ∧ (s.rc.run ≠ .idle → s.rc.run ≠ .halted → u.rc.run = .halted ∧ u.rc.endCode = .linkLost ∧ u.window = [])))

/-- R99, R100: when a per-probe order is taken, what it does to the probe's record, that it is sent after the orders taken before it,
and that a refused one changes nothing.
The model's choices it rests on: log entry 34. -/
def Obligations.OrdersTakenOrRefused : Prop :=
  ∀ (p : ProbeNo) (o : Order) (s : State),
    ((probe s p).order = none → s.link.stop = none → s.rc.guardLine.filtered = false → s.link.up = true →
      (probe s p).state ≠ .faulted ∨ o = .park →
      ∃ t, requestOrder p o s = some t ∧ t = { s with link := t.link } ∧ t.link.stop = none ∧ t.link.up = true
        ∧ t.link.sent = s.link.sent ++ [p] ∧ (∀ q, q ≠ p → probe t q = probe s q)
        ∧ (probe t p).order = some o ∧ (probe t p).tag = (probe s p).tag + 1 ∧ (probe t p).verified = false
        ∧ (probe t p).touch = (probe s p).touch ∧ (probe t p).miss = (probe s p).miss ∧ (probe t p).due = (probe s p).due
        ∧ (probe t p).faultCode = (probe s p).faultCode
        ∧ (∀ x y, o = .move x y → (probe t p).state = .moving ∧ (probe t p).pos = some (x, y))
        ∧ (∀ x y, o = .retouch x y → (probe t p).state = .moving ∧ (probe t p).pos = (probe s p).pos)
        ∧ (o = .lift → (probe t p).state = .lifting ∧ (probe t p).pos = (probe s p).pos)
        ∧ (o = .park → (probe t p).state = .parking ∧ (probe t p).pos = none)
        ∧ (∀ n, o = .clean n →
            (probe t p).state = .cleaning ∧ (probe t p).pos = none ∧ (probe t p).deadline = some s.settings.cleanDeadline)
        ∧ ((∀ n, o ≠ .clean n) → (probe t p).deadline = some s.settings.moveDeadline))
    ∧ ((probe s p).order ≠ none ∨ s.link.stop ≠ none ∨ s.rc.guardLine.filtered = true ∨ s.link.up = false
        ∨ ((probe s p).state = .faulted ∧ o ≠ .park) → requestOrder p o s = none)

/-! ## Fetching -/

/-- R42, R43: a fetch read that completes acts on the transaction in flight, and one made for a discarded transaction acts on
nothing; a transaction begins exactly under the conditions of R42, with the read of the 64-byte entry (R38).
The model's choices it rests on: log entries 14 and 41. -/
def Obligations.FetchReadsAct : Prop :=
  (∀ (s s1 : State) (r : Request) (ws : List Word), serve .fetch s = some (r, ws, s1) →
    (r.live = true → exec .fetchReadComplete s = .next (sealPort (settle (txnRead ws s1))))
    ∧ (r.live = false → exec .fetchReadComplete s = .next (sealPort (settle s1))))
  ∧ (∀ s : State, s.rc.run = .running → s.window.length < 8 → s.fetch.held = none → s.fetch.txn = none →
    hasReq .fetch s = false → s.fetch.stopped = false →
    beginTxn s = { s with
      fetch := { s.fetch with txn := some .entry }
      port := { s.port with reqs := s.port.reqs ++
        [⟨.fetch, s.fetch.list - s.fetch.list % 64 + 64 * s.fetch.index, .read 16, true, s.port.epoch⟩] } })
  ∧ (∀ s : State, s.rc.run ≠ .running ∨ 8 ≤ s.window.length ∨ s.fetch.held ≠ none ∨ s.fetch.txn ≠ none
    ∨ hasReq .fetch s = true ∨ s.fetch.stopped = true → beginTxn s = s)

/-- R40, R44, R47, R50, R53, R54, R56, R58: what each control entry does when it has been read (of a CLEAN or PARK entry: its mask, its
members in probe order, its cycle count), and the placeholder of the first check that fails. What a snapshot holds (the origin area,
list and index, the call depth, the bank), the board position that the call stack gives, and the modes of RESUME.
The model's choices it rests on: log entries 14 and 46 (the RESUME mode and the CLEAN cycle count are bytes). -/
def Obligations.ControlEntriesAct : Prop :=
  (∀ (ws : List Word) (s : State), s.fetch.txn = some .entry →
    ((fieldByte ws 0).toNat = 2 → s.fetch.recovery = false → fieldByte ws 0x10 ≠ 0 → s.fetch.stack.length < 4 →
      txnRead ws s = { s with fetch := { s.fetch with
        stack := s.fetch.stack ++
          [⟨s.fetch.list, s.fetch.index + 1, fieldInt ws 8, fieldInt ws 0x0C, (fieldByte ws 0x10).toNat⟩]
        list := fieldNat ws 4, index := 0, txn := none } })
    ∧ ((fieldByte ws 0).toNat = 3 → s.fetch.recovery = false → s.fetch.stack ≠ [] →
      txnRead ws s = { s with fetch := { s.fetch with held := some .ret, txn := none } })
    ∧ ((fieldByte ws 0).toNat = 4 → s.fetch.recovery = false →
      txnRead ws s = { s with fetch := { s.fetch with held := some .endOfArea, txn := none } })
    ∧ ((fieldByte ws 0).toNat = 5 → s.fetch.recovery = false →
      txnRead ws s = { s with fetch := { s.fetch with held := some .pause, txn := none } })
    ∧ (∀ m, (fieldByte ws 0).toNat = 10 → s.fetch.recovery = true → parseMode (fieldByte ws 4) = some m →
      txnRead ws s = { s with fetch := { s.fetch with held := some (.resume m), txn := none } })
    ∧ ((fieldByte ws 0).toNat = 7 → (fieldByte ws 4).toNat ≤ 3 →
      txnRead ws s = { s with fetch := { s.fetch with
        bank := (fieldByte ws 4).toNat, index := s.fetch.index + 1, txn := none } })
    ∧ (∀ k : EntryKind, ((fieldByte ws 0).toNat = 6 ∧ k = .mark) ∨ ((fieldByte ws 0).toNat = 8 ∧ k = .clean)
        ∨ ((fieldByte ws 0).toNat = 9 ∧ k = .park) →
      ∃ e, txnRead ws s = { s with
          window := s.window ++ [e], nextUid := s.nextUid + 1
          fetch := { s.fetch with index := s.fetch.index + 1, txn := none } }
        ∧ e.kind = k ∧ e.snap = snapshotNow s ∧ e.board = boardPosition s.fetch.stack ∧ e.roles = []
        ∧ e.bank = s.fetch.bank ∧ e.cause = none ∧ e.detail = 0 ∧ e.nets = [] ∧ e.result = none
        ∧ (k = .mark → e.state = .done ∧ e.markValue = fieldWord ws 4)
        ∧ (k = .park → e.mask = fieldByte ws 4)
        ∧ (k = .mark → e.members = [])
        ∧ (k ≠ .mark → e.members = (allProbes.filter fun p => e.mask.getLsbD p.val).map fun p => ⟨p, .waiting⟩)
        ∧ (k = .clean → e.cycles = max 1 (min 15 (fieldByte ws 6).toNat)
            ∧ ((fieldByte ws 5).getLsbD 0 = false → e.mask = fieldByte ws 4)
            ∧ ((fieldByte ws 5).getLsbD 0 = true → ∀ p : ProbeNo, e.mask.getLsbD p.val = (probe s p).due))
        ∧ (k ≠ .mark → (e.mask = 0 → e.state = .done) ∧ (e.mask ≠ 0 → e.state = .pending)))
    ∧ (∀ d : Nat,
        ((fieldByte ws 0).toNat = 0 ∨ 10 < (fieldByte ws 0).toNat) ∧ d = 1
        ∨ (2 ≤ (fieldByte ws 0).toNat ∧ (fieldByte ws 0).toNat ≤ 5 ∧ s.fetch.recovery = true ∧ d = 10)
        ∨ ((fieldByte ws 0).toNat = 10 ∧ s.fetch.recovery = false ∧ d = 9)
        ∨ ((fieldByte ws 0).toNat = 7 ∧ 3 < (fieldByte ws 4).toNat ∧ d = 1)
        ∨ ((fieldByte ws 0).toNat = 10 ∧ s.fetch.recovery = true ∧ parseMode (fieldByte ws 4) = none ∧ d = 1)
        ∨ ((fieldByte ws 0).toNat = 2 ∧ s.fetch.recovery = false ∧ fieldByte ws 0x10 = 0 ∧ d = 2)
        ∨ ((fieldByte ws 0).toNat = 2 ∧ s.fetch.recovery = false ∧ fieldByte ws 0x10 ≠ 0 ∧ 4 ≤ s.fetch.stack.length ∧ d = 7)
        ∨ ((fieldByte ws 0).toNat = 3 ∧ s.fetch.recovery = false ∧ s.fetch.stack = [] ∧ d = 8) →
      ∃ e, txnRead ws s = { s with
          window := s.window ++ [e], nextUid := s.nextUid + 1
          fetch := { s.fetch with index := s.fetch.index + 1, txn := none } }
        ∧ e.kind = .programError ∧ e.state = .failed ∧ e.cause = some .programError ∧ e.detail = d
        ∧ e.snap = snapshotNow s ∧ e.board = boardPosition s.fetch.stack ∧ e.bank = s.fetch.bank ∧ e.roles = [] ∧ e.members = []
        ∧ e.slots = [] ∧ e.nets = [] ∧ e.entryByte = fieldByte ws 0))
  ∧ (∀ s : State, snapshotNow s =
      ⟨⟨if s.fetch.recovery = true then .recovery else if s.rc.area = .a then .a else .b, s.fetch.list, s.fetch.index⟩,
        s.fetch.stack.length, s.fetch.bank⟩)
  ∧ boardPosition [] = 0 ∧ (∀ (fs : List Frame) (f : Frame), boardPosition (fs ++ [f]) = f.board)
  ∧ (∀ b : Byte, parseMode b = (if b.toNat = 1 then some .retry else if b.toNat = 2 then some .next
      else if b.toNat = 3 then some .halt else none))
  ∧ allProbes = [0, 1, 2, 3, 4, 5, 6, 7]

/-- R39, R50, R51, R54, R55, spec 12.2: a MEASURE entry's group flag is read before any check; a disabled group skips the step; the field
checks 1 to 4 are made in order, and the first that fails makes the placeholder; past them the first role's point record is read. The
fields of a MEASURE entry: the kind codes, the slots each kind requires and uses, a slot's present flag, probe number and point index,
the bank field with CURRENT, the limit index with its word for none; the entries made keep the slots and the kind bytes as written.
The model's choices it rests on: log entry 41 (the record is read whole). -/
def Obligations.MeasureEntryChecks : Prop :=
  (∀ (ws : List Word) (s : State), s.fetch.txn = some .entry → fieldByte ws 0 = 1 →
    txnRead ws s = { s with
      fetch := { s.fetch with txn := some (.group ws) }
      port := { s.port with reqs := s.port.reqs ++
        [⟨.fetch, s.settings.groupBase + 4 * ((fieldByte ws 2).toNat / 32), .read 1, true, s.port.epoch⟩] } })
  ∧ (∀ (ws : List Word) (w : Word) (s : State), s.fetch.txn = some (.group ws) → fieldByte ws 0 = 1 →
    (w.getLsbD ((fieldByte ws 2).toNat % 32) = false →
      (s.settings.logSkipped = true → ∃ e, txnRead [w] s = { s with
          window := s.window ++ [e], nextUid := s.nextUid + 1
          fetch := { s.fetch with index := s.fetch.index + 1, txn := none } }
        ∧ e.kind = .skipped ∧ e.state = .skipped ∧ e.cause = none ∧ e.roles = [] ∧ e.snap = snapshotNow s
        ∧ e.board = boardPosition s.fetch.stack ∧ e.bank = s.fetch.bank ∧ e.measByte = fieldByte ws 1 ∧ e.slots = entrySlots ws)
      ∧ (s.settings.logSkipped = false → txnRead [w] s = { s with
          fetch := { s.fetch with index := s.fetch.index + 1, txn := none }
          rc := { s.rc with summary := { s.rc.summary with skipped := satSucc s.rc.summary.skipped } } }))
    ∧ (w.getLsbD ((fieldByte ws 2).toNat % 32) = true →
      (∀ d : Nat,
        ((measKindOf (fieldByte ws 1) = none ∨ resolveBank s.fetch.bank (fieldByte ws 3) = none) ∧ d = 1)
        ∨ (∃ k b, measKindOf (fieldByte ws 1) = some k ∧ resolveBank s.fetch.bank (fieldByte ws 3) = some b
            ∧ ((∃ n ∈ requiredSlots k, slotPresent ws n = false) ∧ d = 5
              ∨ (∀ n ∈ requiredSlots k, slotPresent ws n = true)
                ∧ ((∃ n ∈ stepRoles k ws, 7 < slotProbe ws n ∨ s.settings.pointCount ≤ slotPoint ws n)
                    ∨ ∃ l, limitIndex ws = some l ∧ s.settings.limitCount ≤ l) ∧ d = 2
              ∨ (∀ n ∈ requiredSlots k, slotPresent ws n = true)
                ∧ (∀ n ∈ stepRoles k ws, slotProbe ws n ≤ 7 ∧ slotPoint ws n < s.settings.pointCount)
                ∧ (∀ l, limitIndex ws = some l → l < s.settings.limitCount)
                ∧ ¬((stepRoles k ws).map (slotProbe ws)).Nodup ∧ d = 4)) →
        ∃ e, txnRead [w] s = { s with
            window := s.window ++ [e], nextUid := s.nextUid + 1
            fetch := { s.fetch with index := s.fetch.index + 1, txn := none } }
          ∧ e.kind = .programError ∧ e.state = .failed ∧ e.cause = some .programError ∧ e.detail = d
          ∧ e.snap = snapshotNow s ∧ e.board = boardPosition s.fetch.stack ∧ e.bank = s.fetch.bank ∧ e.roles = []
          ∧ e.entryByte = fieldByte ws 0 ∧ e.measByte = fieldByte ws 1 ∧ e.slots = entrySlots ws)
      ∧ (∀ k b, measKindOf (fieldByte ws 1) = some k → resolveBank s.fetch.bank (fieldByte ws 3) = some b →
        (∀ n ∈ requiredSlots k, slotPresent ws n = true) →
        (∀ n ∈ stepRoles k ws, slotProbe ws n ≤ 7 ∧ slotPoint ws n < s.settings.pointCount) →
        (∀ l, limitIndex ws = some l → l < s.settings.limitCount) →
        ((stepRoles k ws).map (slotProbe ws)).Nodup →
        txnRead [w] s = { s with
          fetch := { s.fetch with txn := some (.points ws []) }
          port := { s.port with reqs := s.port.reqs ++
            [⟨.fetch, s.settings.pointBase + 32 * slotPoint ws .forceHi, .read 8, true, s.port.epoch⟩] } })))
  ∧ (∀ b : Byte, measKindOf b = (if b.toNat = 1 then some .res2 else if b.toNat = 2 then some .res4
      else if b.toNat = 3 then some .cap else if b.toNat = 4 then some .diode else if b.toNat = 5 then some .cont else none))
  ∧ (∀ k : MeasKind,
      requiredSlots k = (if k = .res4 then [.forceHi, .forceLo, .senseHi, .senseLo] else [.forceHi, .forceLo])
      ∧ usedSlots k = (if k = .res4 then [.forceHi, .forceLo, .senseHi, .senseLo, .guard] else [.forceHi, .forceLo, .guard])
      ∧ ∀ ws, stepRoles k ws = (usedSlots k).filter fun n => slotPresent ws n)
  ∧ ([.forceHi, .forceLo, .senseHi, .senseLo, .guard] : List RoleName).map roleIndex = [0, 1, 2, 3, 4]
  ∧ (∀ (ws : List Word) (n : RoleName),
      slotPoint ws n = (ws.getD (4 + 2 * roleIndex n) 0).toNat
      ∧ slotProbe ws n = (ws.getD (5 + 2 * roleIndex n) 0).toNat % 256
      ∧ slotPresent ws n = (ws.getD (5 + 2 * roleIndex n) 0).getLsbD 8
      ∧ ∃ x, (entrySlots ws)[roleIndex n]? = some x ∧ x.present = slotPresent ws n ∧ x.probe.toNat = slotProbe ws n
          ∧ x.point.toNat = slotPoint ws n)
  ∧ (∀ ws : List Word, (entrySlots ws).length = 5)
  ∧ (∀ (current : Nat) (b : Byte), resolveBank current b =
      (if b.toNat = 255 then some current else if b.toNat ≤ 3 then some b.toNat else none))
  ∧ (∀ ws : List Word, limitIndex ws =
      (if (ws.getD 1 0).toNat = 4294967295 then none else some (ws.getD 1 0).toNat))

/-- R42, R55, R60, R71, R154, spec 12.3: past checks 1 to 4 the point records of the roles are read in slot order, then the limit
record where the step names one; then checks 5 to 8 are made in order, and the first that fails makes the placeholder with its
detail (1 BAD_KIND, 6 LIMITS_INVERTED, 3 WRONG_SIDE, 11 SPACING_INTERNAL); past them the landing checks begin. The pairs exempt from
check 8 are the two Kelvin pairs of a RES4 step. What a point record and a limit record of each form hold; a form that names no code
gives no limit.
The model's choices it rests on: log entry 41 (each record is read whole). -/
def Obligations.RecordsChecked : Prop :=
  (∀ (ws data : List Word) (pts : List PointRec) (k : MeasKind) (s : State), measKindOf (fieldByte ws 1) = some k →
    (s.fetch.txn = some (.points ws pts) →
      (∀ n, (stepRoles k ws)[pts.length + 1]? = some n → txnRead data s = { s with
        fetch := { s.fetch with txn := some (.points ws (pts ++ [parsePoint data])) }
        port := { s.port with reqs := s.port.reqs ++
          [⟨.fetch, s.settings.pointBase + 32 * slotPoint ws n, .read 8, true, s.port.epoch⟩] } })
      ∧ ((stepRoles k ws).length ≤ pts.length + 1 →
        (∀ l, limitIndex ws = some l → txnRead data s = { s with
          fetch := { s.fetch with txn := some (.limit ws (pts ++ [parsePoint data])) }
          port := { s.port with reqs := s.port.reqs ++
            [⟨.fetch, s.settings.limitBase + 32 * l, .read 8, true, s.port.epoch⟩] } })
        ∧ (limitIndex ws = none → txnRead data s = recordsRead ws (pts ++ [parsePoint data]) false none s)))
    ∧ (s.fetch.txn = some (.limit ws pts) → txnRead data s = recordsRead ws pts true (parseLimit data) s))
  ∧ (∀ (ws : List Word) (pts : List PointRec) (given : Bool) (lim : Option LimitRec) (k : MeasKind) (s : State)
      (badForm inverted wrongSide tooClose : Prop),
    measKindOf (fieldByte ws 1) = some k → (∀ n ∈ stepRoles k ws, slotProbe ws n ≤ 7) →
    (badForm ↔ (given = true ∧ lim = none) ∨ (k = .cont ∧ ∀ a b c, lim ≠ some (.cont a b c))
      ∨ (k ≠ .cont ∧ ∃ a b c, lim = some (.cont a b c))) →
    (inverted ↔ ∃ lo hi, lim = some (.abs lo hi) ∧ hi < lo) →
    (wrongSide ↔ ∃ x ∈ (stepRoles k ws).zip pts,
      ¬(x.2.side = 0 ∧ slotProbe ws x.1 < 4) ∧ ¬(x.2.side = 1 ∧ 4 ≤ slotProbe ws x.1)) →
    (tooClose ↔ ∃ (i j : Nat) (x y : RoleName × PointRec) (a b : Int × Int), i < j
      ∧ ((stepRoles k ws).zip pts)[i]? = some x ∧ ((stepRoles k ws).zip pts)[j]? = some y
      ∧ probeSide (roleProbe ws x.1) = probeSide (roleProbe ws y.1) ∧ kelvinPair k x.1 y.1 = false
      ∧ pointPosition s x.2 = some a ∧ pointPosition s y.2 = some b
      ∧ (a.1 - b.1) ^ 2 + (a.2 - b.2) ^ 2 < (s.settings.dMin : Int) ^ 2) →
    (∀ d : Nat,
      (badForm ∧ d = 1) ∨ (¬badForm ∧ inverted ∧ d = 6) ∨ (¬badForm ∧ ¬inverted ∧ wrongSide ∧ d = 3)
        ∨ (¬badForm ∧ ¬inverted ∧ ¬wrongSide ∧ tooClose ∧ d = 11) →
      ∃ e, recordsRead ws pts given lim s = { s with
          window := s.window ++ [e], nextUid := s.nextUid + 1
          fetch := { s.fetch with index := s.fetch.index + 1, txn := none } }
        ∧ e.kind = .programError ∧ e.state = .failed ∧ e.cause = some .programError ∧ e.detail = d ∧ e.roles = []
        ∧ e.snap = snapshotNow s ∧ e.board = boardPosition s.fetch.stack ∧ e.bank = s.fetch.bank ∧ e.nets = []
        ∧ (fieldByte ws 0 = 1 → e.measByte = fieldByte ws 1 ∧ e.slots = entrySlots ws))
    ∧ (¬badForm → ¬inverted → ¬wrongSide → ¬tooClose → recordsRead ws pts given lim s = landFrom ws pts lim k 0 s))
  ∧ (∀ (k : MeasKind) (a b : RoleName), kelvinPair k a b = true ↔ k = .res4
      ∧ (a, b) ∈ [(.forceHi, .senseHi), (.senseHi, .forceHi), (.forceLo, .senseLo), (RoleName.senseLo, RoleName.forceLo)])
  ∧ (∀ data : List Word, parsePoint data = ⟨max (-1000000) (min 1000000 (data.getD 0 0).toInt),
      max (-1000000) (min 1000000 (data.getD 1 0).toInt), BitVec.ofNat 8 (data.getD 2 0).toNat,
      (data.getD 3 0).toNat % 65536, (data.getD 3 0).toNat / 65536⟩)
  ∧ (∀ data : List Word, parseLimit data =
      (if (data.getD 0 0).toNat % 256 = 1 then
        some (.abs (data.getD 3 0 ++ data.getD 2 0).toInt (data.getD 5 0 ++ data.getD 4 0).toInt)
      else if (data.getD 0 0).toNat % 256 = 2 then
        some (.nomtol (data.getD 3 0 ++ data.getD 2 0).toInt ((data.getD 4 0).toNat % 65536) ((data.getD 4 0).toNat / 65536))
      else if (data.getD 0 0).toNat % 256 = 3 then
        some (.cont (data.getD 2 0).toNat (data.getD 3 0).toNat ((data.getD 4 0).getLsbD 0))
      else none))

/-- R45, R52, R57, R65, R66, R67, R96, spec 12.3: the landing checks of a role: a role unplaceable, outside its side's reach rectangle
or outside the mapped cells is refused with OUT_OF_REACH; else its keep-out word is read, whose set flag refuses it with KEEP_OUT; a role
past the last places the MEASURE entry, with each role's probe, point, target position, side, net and pad, and the nets, bank and
measurement byte of the step. What they test: the inclusive rectangle of each side, the cell by floor division within 0..127, the place
of a cell's word, the position under the panel offset (the sums over the frames of the call stack), the side of a probe. -/
def Obligations.LandingChecks : Prop :=
  (∀ (ws : List Word) (pts : List PointRec) (lim : Option LimitRec) (k : MeasKind) (i : Nat) (s : State),
    (∀ (n : RoleName) (pt : PointRec), (stepRoles k ws)[i]? = some n → pts[i]? = some pt →
      ((pointPosition s pt = none
          ∨ ∃ x y, pointPosition s pt = some (x, y)
            ∧ (inReach (reachOf s.settings (probeSide (roleProbe ws n))) x y = false
              ∨ keepOutCell s.settings x y = none)) →
        ∃ e, landFrom ws pts lim k i s = { s with
            window := s.window ++ [e], nextUid := s.nextUid + 1
            fetch := { s.fetch with index := s.fetch.index + 1, txn := none } }
          ∧ e.kind = .landingRefused ∧ e.state = .failed ∧ e.cause = some .landingRefused ∧ e.detail = 1
          ∧ e.nets = pts.map (·.net) ∧ e.roles = [] ∧ e.snap = snapshotNow s ∧ e.board = boardPosition s.fetch.stack
          ∧ e.bank = s.fetch.bank ∧ (fieldByte ws 0 = 1 → e.measByte = fieldByte ws 1 ∧ e.slots = entrySlots ws))
      ∧ (∀ x y cell, pointPosition s pt = some (x, y) →
          inReach (reachOf s.settings (probeSide (roleProbe ws n))) x y = true → keepOutCell s.settings x y = some cell →
          landFrom ws pts lim k i s = { s with
            fetch := { s.fetch with txn := some (.keepOut ws pts lim i) }
            port := { s.port with reqs := s.port.reqs ++
              [⟨.fetch, keepOutAddr s.settings (probeSide (roleProbe ws n)) cell, .read 1, true, s.port.epoch⟩] } }
          ∧ ∀ w : Word,
            (w.getLsbD (cell.1 % 32) = true → ∃ e, keepOutRead ws pts lim k i w s = { s with
                window := s.window ++ [e], nextUid := s.nextUid + 1
                fetch := { s.fetch with index := s.fetch.index + 1, txn := none } }
              ∧ e.kind = .landingRefused ∧ e.state = .failed ∧ e.cause = some .landingRefused ∧ e.detail = 2
              ∧ e.nets = pts.map (·.net) ∧ e.roles = [] ∧ e.snap = snapshotNow s ∧ e.board = boardPosition s.fetch.stack
              ∧ e.bank = s.fetch.bank ∧ (fieldByte ws 0 = 1 → e.measByte = fieldByte ws 1 ∧ e.slots = entrySlots ws))
            ∧ (w.getLsbD (cell.1 % 32) = false → keepOutRead ws pts lim k i w s = landFrom ws pts lim k (i + 1) s)))
    ∧ ((stepRoles k ws)[i]? = none → ∃ e, landFrom ws pts lim k i s = { s with
        window := s.window ++ [e], nextUid := s.nextUid + 1
        fetch := { s.fetch with index := s.fetch.index + 1, txn := none } }
      ∧ e.kind = .measure ∧ e.state = .pending ∧ e.limit = lim ∧ e.snap = snapshotNow s
      ∧ e.board = boardPosition s.fetch.stack ∧ (∀ r ∈ e.roles, r.state = .waiting ∧ r.retouches = 0)
      ∧ (pts.length = (stepRoles k ws).length → e.roles.map (·.name) = stepRoles k ws
          ∧ e.roles.map (·.probe) = (stepRoles k ws).map (roleProbe ws))
      ∧ (∀ (j : Nat) (n : RoleName) (pt : PointRec) (a : Int × Int), (stepRoles k ws)[j]? = some n → pts[j]? = some pt →
          pointPosition s pt = some a → e.roles[j]? = some ⟨n, roleProbe ws n, slotPoint ws n, a.1, a.2,
            probeSide (roleProbe ws n), pt.net, pt.pad, .waiting, 0⟩)
      ∧ e.nets = pts.map (·.net) ∧ (∀ b, resolveBank s.fetch.bank (fieldByte ws 3) = some b → e.bank = b)
      ∧ (fieldByte ws 0 = 1 → e.measByte = fieldByte ws 1 ∧ e.slots = entrySlots ws) ∧ e.cause = none
      ∧ e.result = none ∧ e.capture = (fieldByte ws 8).getLsbD 0))
  ∧ (∀ (q : Rect) (x y : Int), inReach q x y = true ↔ q.xMin ≤ x ∧ x ≤ q.xMax ∧ q.yMin ≤ y ∧ y ≤ q.yMax)
  ∧ (∀ t : Settings, reachOf t .top = t.reachTop ∧ reachOf t .bottom = t.reachBottom)
  ∧ (∀ (t : Settings) (x y : Int), 0 < t.cell →
    (∀ i j : Nat, keepOutCell t x y = some (i, j) ↔ i ≤ 127 ∧ j ≤ 127
      ∧ (i : Int) * t.cell ≤ x - t.mapX0 ∧ x - t.mapX0 < ((i : Int) + 1) * t.cell
      ∧ (j : Int) * t.cell ≤ y - t.mapY0 ∧ y - t.mapY0 < ((j : Int) + 1) * t.cell)
    ∧ (keepOutCell t x y = none ↔ x < t.mapX0 ∨ t.mapX0 + 128 * t.cell ≤ x ∨ y < t.mapY0 ∨ t.mapY0 + 128 * t.cell ≤ y))
  ∧ (∀ (t : Settings) (i j : Nat), keepOutAddr t .top (i, j) = t.keepOutTop + 16 * j + 4 * (i / 32)
    ∧ keepOutAddr t .bottom (i, j) = t.keepOutBottom + 16 * j + 4 * (i / 32))
  ∧ (∀ (s : State) (pt : PointRec), pointPosition s pt =
      transform s.corr ((s.fetch.stack.map (·.dx)).sum, (s.fetch.stack.map (·.dy)).sum) pt.x pt.y)
  ∧ (∀ p : ProbeNo, probeSide p = if p.val ≤ 3 then .top else .bottom)
  ∧ (∀ (ws : List Word) (n : RoleName) (p : ProbeNo), slotProbe ws n = p.val → roleProbe ws n = p)

/-! ## Serving roles, checks and measuring -/

/-- R78, R80, R81, R84, R85: how a WAITING role is served once its entry holds the probe's reservation and the probe has no order:
stay-down, a FAULTED probe, the MOVE (a refused one leaves the role WAITING), or waiting while each conflict is resolved
(ConflictsResolved); otherwise it stays WAITING. A PENDING entry whose roles are all CONTACT_OK becomes READY. Which entries are
unmeasured (R76), which probes an entry names, and that the oldest entry that names a probe holds its reservation (R78).
The model's choices it rests on: log entry 39 (the order in which several conflicting probes are resolved). -/
def Obligations.RolesServed : Prop :=
  (∀ (u i : Nat) (s : State) (e : Entry) (r : Role), entryOf s u = some e → e.roles[i]? = some r →
    (unmeasured e = false ∨ r.state ≠ .waiting ∨ holds s u r.probe = false ∨ (probe s r.probe).order ≠ none →
      serveRole u i s = s)
    ∧ (unmeasured e = true → r.state = .waiting → holds s u r.probe = true → (probe s r.probe).order = none →
      ((probe s r.probe).state = .landed → (probe s r.probe).pos = some (r.x, r.y) → probeSide r.probe = r.side →
        (probe s r.probe).verified = true →
        serveRole u i s = { s with window := s.window.map (fun f => if f.uid = u then
          readyIfContact { f with roles := f.roles.modify i (fun r => { r with state := .contactOk }) } else f) })
      ∧ ((probe s r.probe).state = .faulted →
          EntryFailed u .motionFault (probe s r.probe).faultCode.toNat s (serveRole u i s))
      ∧ ((probe s r.probe).state ≠ .faulted →
          (probe s r.probe).state ≠ .landed ∨ (probe s r.probe).pos ≠ some (r.x, r.y) ∨ probeSide r.probe ≠ r.side
            ∨ (probe s r.probe).verified = false →
          (conflictSet s e r = [] → ∀ t, requestOrder r.probe (.move r.x r.y) s = some t →
            serveRole u i s = { t with window := t.window.map (fun f => if f.uid = u then
              { f with roles := f.roles.modify i (fun r => { r with state := .ordered }) } else f) })
          ∧ (conflictSet s e r = [] → requestOrder r.probe (.move r.x r.y) s = none → serveRole u i s = s)
          ∧ (conflictSet s e r ≠ [] →
            serveRole u i s = (conflictSet s e r).foldl (fun t q => resolveConflict e q t) s
            ∧ entryOf (serveRole u i s) u = some e
            ∧ ∀ q, q ∉ conflictSet s e r → probe (serveRole u i s) q = probe s q))))
  ∧ (∀ f : Entry,
    (f.state = .pending → (∀ r ∈ f.roles, r.state = .contactOk) → readyIfContact f = { f with state := .ready })
    ∧ (f.state ≠ .pending ∨ (∃ r ∈ f.roles, r.state ≠ .contactOk) → readyIfContact f = f))
  ∧ (∀ e : Entry, unmeasured e = true ↔ e.state = .pending ∨ e.state = .ready ∨ e.state = .measuring)
  ∧ (∀ (e : Entry) (p : ProbeNo), namesProbe e p = true ↔
      (e.kind = .measure ∧ ∃ r ∈ e.roles, r.probe = p)
      ∨ ((e.kind = .clean ∨ e.kind = .park) ∧ ∃ m ∈ e.members, m.probe = p))
  ∧ (∀ (s : State) (p : ProbeNo),
    (holder s p = none ↔ ∀ e ∈ s.window, namesProbe e p = false)
    ∧ (∀ e, holder s p = some e ↔ ∃ before behind, s.window = before ++ e :: behind ∧ namesProbe e p = true
        ∧ ∀ x ∈ before, namesProbe x p = false)
    ∧ ∀ u, holds s u p = true ↔ ∃ e, holder s p = some e ∧ e.uid = u)
  ∧ (∀ (s : State) (u : Nat) (e : Entry), (s.window.map (·.uid)).Nodup → (entryOf s u = some e ↔ e ∈ s.window ∧ e.uid = u))

/-- R68, R70, R81, R82, R99: which probes conflict with a role, and how each is resolved. A LANDED probe that no entry reserves, or that
stands off its own role's point in the same entry, is lifted; one that a younger entry reserves is lifted and its role or member falls
back to WAITING there (a READY entry becomes PENDING, the retouch count is kept); every other is left alone, and so is one whose LIFT
is refused. -/
def Obligations.ConflictsResolved : Prop :=
  (∀ (s : State) (e : Entry) (r : Role) (q : ProbeNo), q ∈ conflictSet s e r ↔
    q ≠ r.probe ∧ probeSide q = probeSide r.probe
    ∧ ((probe s q).state = .landed ∨ (probe s q).state = .moving ∨ (probe s q).state = .lifting)
    ∧ ∃ a, (probe s q).pos = some a ∧ (r.x - a.1) ^ 2 + (r.y - a.2) ^ 2 < (s.settings.dMin : Int) ^ 2
      ∧ ¬∃ k, measKindOf e.measByte = some k
        ∧ ∃ x ∈ e.roles, x.probe = q ∧ kelvinPair k r.name x.name = true ∧ (x.x, x.y) = a)
  ∧ (∀ (e : Entry) (q : ProbeNo) (s : State),
    ((probe s q).state ≠ .landed ∨ requestOrder q .lift s = none → resolveConflict e q s = s)
    ∧ ∀ t, (probe s q).state = .landed → requestOrder q .lift s = some t →
      (holder s q = none → resolveConflict e q s = t)
      ∧ ∀ h, holder s q = some h →
        (h.uid = e.uid →
          ((∃ x ∈ e.roles, x.probe = q ∧ (probe s q).pos = some (x.x, x.y)) → resolveConflict e q s = s)
          ∧ ((∀ x ∈ e.roles, x.probe = q → (probe s q).pos ≠ some (x.x, x.y)) → resolveConflict e q s = t))
        ∧ (∀ (before between behind : List Entry) (a : Entry), a.uid = e.uid → (s.window.map (·.uid)).Nodup →
          (s.window = before ++ h :: (between ++ a :: behind) → resolveConflict e q s = s)
          ∧ (s.window = before ++ a :: (between ++ h :: behind) →
            resolveConflict e q s = { t with window := t.window.map fun f => if f.uid = h.uid then { f with
              state := if f.state = .ready then .pending else f.state
              roles := f.roles.map fun x => if x.probe = q then { x with state := .waiting } else x
              members := f.members.map fun m => if m.probe = q then { m with state := .waiting } else m } else f })))

/-- R79, R85, R88, R89: how a WAITING mask member is served: PARKED completes a PARK member with no order, a FAULTED probe fails a CLEAN
entry, else the CLEAN or PARK order is asked for; a service entry whose members are all COMPLETE is DONE. A serving pass is made in
RUNNING, oldest entry first, roles in slot order, members in probe order, and then the entry fails where it holds the reservation of a
FAULTED probe, a PARK entry apart.
The model's choices it rests on: log entry 12 (the order within a pass is R79's; that each entry's service ends with a test of the
entry for FAULTED probes, sweepFaulted, is the model's choice). -/
def Obligations.MembersServed : Prop :=
  (∀ (u i : Nat) (s : State) (e : Entry) (m : Member), entryOf s u = some e → e.members[i]? = some m →
    (unmeasured e = false ∨ m.state ≠ .waiting ∨ holds s u m.probe = false ∨ (probe s m.probe).order ≠ none →
      serveMember u i s = s)
    ∧ (unmeasured e = true → m.state = .waiting → holds s u m.probe = true → (probe s m.probe).order = none →
      (e.kind = .park → (probe s m.probe).state = .parked →
        serveMember u i s = { s with window := s.window.map (fun f => if f.uid = u then
          doneIfComplete { f with members := f.members.modify i (fun m => { m with state := .complete }) } else f) })
      ∧ (e.kind = .clean → (probe s m.probe).state = .faulted →
          EntryFailed u .motionFault (probe s m.probe).faultCode.toNat s (serveMember u i s))
      ∧ (∀ o, (e.kind = .park ∧ (probe s m.probe).state ≠ .parked ∧ o = .park)
          ∨ (e.kind = .clean ∧ (probe s m.probe).state ≠ .faulted ∧ o = .clean e.cycles) →
        (requestOrder m.probe o s = none → serveMember u i s = s)
        ∧ ∀ t, requestOrder m.probe o s = some t →
          serveMember u i s = { t with window := t.window.map (fun f => if f.uid = u then
            { f with members := f.members.modify i (fun m => { m with state := .ordered }) } else f) })))
  ∧ (∀ f : Entry,
    (f.state = .pending → (∀ m ∈ f.members, m.state = .complete) → doneIfComplete f = { f with state := .done })
    ∧ (f.state ≠ .pending ∨ (∃ m ∈ f.members, m.state ≠ .complete) → doneIfComplete f = f))
  ∧ (∀ (u : Nat) (s : State) (e : Entry) (charged : ProbeNo → Prop), entryOf s u = some e →
    (∀ p, charged p ↔ unmeasured e = true ∧ holds s u p = true ∧ (probe s p).state = .faulted
      ∧ ((e.kind = .measure ∧ ∃ r ∈ e.roles, r.probe = p) ∨ (e.kind = .clean ∧ ∃ m ∈ e.members, m.probe = p))) →
    ((∀ p, ¬charged p) → sweepFaulted u s = s)
    ∧ ((∃ p, charged p) → ∃ p, charged p ∧
        EntryFailed u .motionFault (probe s p).faultCode.toNat s (sweepFaulted u s))
    ∧ serveEntry u s = sweepFaulted u ((List.range e.members.length).foldl (fun t i => serveMember u i t)
        ((List.range e.roles.length).foldl (fun t i => serveRole u i t) s)))
  ∧ (∀ s : State,
    (s.rc.run ≠ .running → servingPass s = s)
    ∧ (s.rc.run = .running → servingPass s = (s.window.map (·.uid)).foldl (fun t u => serveEntry u t) s))

/-- R84, R115, R116, R120, R121, R122, R123, R124, R127: a check that ends frees its slot or takes the held record, then the Probe
Table and the window act on the outcome (contact, a retouch, or the failure of the entry, its roles under way falling back to
WAITING); each first-touch result is followed by the service-due test.
The model's choices it rests on: log entries 7 and 35. -/
def Obligations.CheckEnds : Prop :=
  (∀ (p : ProbeNo) (loop : Option Nat) (s : State) (c : CheckRec) (pass : Bool), (s.checks.get p).running = some c →
    (pass = true ↔ ∃ r, loop = some r ∧ r ≤ 1000 * s.settings.contactOhm) →
    ∃ slot, exec (.checkEnd p loop) s =
        .next (sealPort (settle (windowResult p c pass (tableResult p c pass { s with checks := s.checks.set p slot }))))
      ∧ ((s.checks.get p).held = none → slot = ⟨none, none⟩)
      ∧ (∀ h, (s.checks.get p).held = some h → slot =
          (if s.unit.step ≠ none then ⟨none, some h⟩
           else if (probe s p).state = .landed ∧ (probe s p).tag = h.landingTag then ⟨some h, none⟩ else ⟨none, none⟩)))
  ∧ (∀ (p : ProbeNo) (loop : Option Nat) (s : State), (s.checks.get p).running = none → exec (.checkEnd p loop) s = .next s)
  ∧ (∀ (p : ProbeNo) (c : CheckRec) (pass : Bool) (s : State),
    (probe (tableResult p c pass s) p).miss =
        (if c.firstTouch then (if pass then 0 else min 15 ((probe s p).miss + 1)) else (probe s p).miss)
    ∧ (probe (tableResult p c pass s) p).verified =
        ((probe s p).verified || (pass && decide ((probe s p).state = .landed ∧ (probe s p).tag = c.landingTag)))
    ∧ (probe (tableResult p c pass s) p).touch = (probe s p).touch
    ∧ (c.firstTouch = true → ServiceTested p (probe s p).touch (if pass then 0 else min 15 ((probe s p).miss + 1)) s
        (tableResult p c pass s))
    ∧ (c.firstTouch = false → (probe (tableResult p c pass s) p).due = (probe s p).due
        ∧ (tableResult p c pass s).notice = s.notice)
    ∧ (∀ q, q ≠ p → probe (tableResult p c pass s) q = probe s q)
    ∧ (tableResult p c pass s).window = s.window)
  ∧ (∀ (p : ProbeNo) (c : CheckRec) (pass : Bool) (s : State) (e : Entry) (r : Role), entryOf s c.entry = some e →
    e.roles[c.role]? = some r →
    (r.state ≠ .checking ∨ s.rc.run ≠ .running ∨ (probe s p).tag ≠ c.landingTag → windowResult p c pass s = s)
    ∧ (r.state = .checking → s.rc.run = .running → (probe s p).tag = c.landingTag →
      (pass = true → windowResult p c pass s = { s with window := s.window.map (fun f => if f.uid = e.uid then
          readyIfContact { f with roles := f.roles.modify c.role (fun r => { r with state := .contactOk }) } else f) })
      ∧ (pass = false → (bankOf s e.bank).retouchLimit ≤ r.retouches → unmeasured e = true →
          EntryFailed e.uid .noContact p.val s (windowResult p c pass s))
      ∧ (pass = false → r.retouches < (bankOf s e.bank).retouchLimit → ∀ x y t,
          retouchTarget (r.retouches + 1) r.pad r.x r.y = (x, y) → requestOrder p (.retouch x y) s = some t →
          windowResult p c pass s = { t with window := t.window.map (fun f => if f.uid = e.uid then
            { f with roles := f.roles.modify c.role (fun r =>
              { r with state := .retouching, retouches := r.retouches + 1 }) } else f) })))

/-- R86, R132, R133: the unit takes the oldest unmeasured entry when it is idle in RUNNING and that entry is a READY MEASURE entry
whose role probes all stand LANDED and verified; otherwise it takes nothing.
The model's choices it rests on: log entries 7 and 27. -/
def Obligations.MeasurementTaken : Prop :=
  (∀ (s : State) (e : Entry) (k : MeasKind), oldestUnmeasured s = some e → measKindOf e.measByte = some k →
    s.unit.step = none → s.rc.run = .running → e.kind = .measure → e.state = .ready →
    (∀ r ∈ e.roles, (probe s r.probe).state = .landed ∧ (probe s r.probe).verified = true) →
    ∃ st, exec .measurementTake s = .next { s with
        window := s.window.map (fun f => if f.uid = e.uid then { f with state := .measuring } else f)
        unit := { s.unit with step := some st, sourceOn := true, guardOn := e.roles.any fun r => decide (r.name = .guard) } }
      ∧ st.entry = e.uid ∧ st.kind = k ∧ st.bank = e.bank ∧ st.start = s.rc.time ∧ st.elapsed = 0 ∧ st.changes = 0
      ∧ (∀ r ∈ e.roles, r.name = .forceHi → (∀ x ∈ e.roles, x.name = .forceHi → x = r) → st.hi = r.probe)
      ∧ (∀ r ∈ e.roles, r.name = .forceLo → (∀ x ∈ e.roles, x.name = .forceLo → x = r) → st.lo = r.probe)
      ∧ st.rangeLimited = false ∧ st.final = none
      ∧ st.range = (match k with
          | .diode => 2
          | .cont => 1
          | .res2 | .res4 | .cap => (bankOf s e.bank).startInForce)
      ∧ st.tried = [st.range] ∧ st.attempt = ⟨[], 0, false, 0, false⟩
      ∧ st.phase = (if (bankOf s e.bank).settle = 0 then .acquiring else .settling))
  ∧ (∀ s : State, s.unit.step ≠ none ∨ s.rc.run ≠ .running ∨ oldestUnmeasured s = none
      ∨ (∃ e, oldestUnmeasured s = some e ∧ (e.kind ≠ .measure ∨ e.state ≠ .ready
          ∨ ∃ r ∈ e.roles, (probe s r.probe).state ≠ .landed ∨ (probe s r.probe).verified = false)) →
    exec .measurementTake s = .next s)
  ∧ (∀ (s : State) (e : Entry), oldestUnmeasured s = some e ↔
    ∃ before behind, s.window = before ++ e :: behind ∧ unmeasured e = true ∧ ∀ x ∈ before, unmeasured x = false)

/-- R134, R135, R136: the settle time passes to ACQUIRING; a sample is stored, added and tested for saturation, the N-th ending the
acquisition; a ramp ends at its crossing or at T_max.
The model's choices it rests on: log entries 8 and 24. -/
def Obligations.AttemptAcquires : Prop :=
  ∀ (s : State) (r : StepRec), s.unit.step = some r →
    (r.phase = .settling → exec .settleElapsed s = .next { s with unit := { s.unit with step := some { r with
        phase := .acquiring, elapsed := r.elapsed + 100 * (bankOf s r.bank).settle } } })
    ∧ (∀ v : BitVec 20, r.phase = .acquiring → r.kind ≠ .cap →
        exec (.sample v) s = .next { s with unit := { s.unit with step := some { r with
          attempt := { r.attempt with
            samples := r.attempt.samples ++ [v.toInt]
            sum := r.attempt.sum + v.toInt
            saturated := r.attempt.saturated || decide (v.toInt = -524288 ∨ v.toInt = 524287) }
          elapsed := r.elapsed + 800
          phase := if 2 ^ (bankOf s r.bank).k ≤ r.attempt.samples.length + 1 then .judging else .acquiring } } })
    ∧ (∀ n : Nat, r.phase = .acquiring → r.kind = .cap → 1 ≤ n → n ≤ (bankOf s r.bank).tMax →
        exec (.rampCrossing n) s = .next { s with unit := { s.unit with step := some { r with
          attempt := { r.attempt with ticks := n, crossed := true }, elapsed := r.elapsed + n, phase := .judging } } })
    ∧ (r.phase = .acquiring → r.kind = .cap →
        exec .rampTimeLimit s = .next { s with unit := { s.unit with step := some { r with
          attempt := { r.attempt with ticks := (bankOf s r.bank).tMax, crossed := false }
          elapsed := r.elapsed + (bankOf s r.bank).tMax, phase := .judging } } })

/-- R137, R138, R150, R151, R152: an attempt that wishes keep is final; a wish for a range is granted under the four conditions and
begins a new attempt at that range with the source on, and otherwise the attempt is final and RANGE_LIMITED; a final attempt
switches the source and the guard driver off. The wish of each kind, by the saturated flag and the mean, or by the ramp.
The model's choices it rests on: log entry 24. -/
def Obligations.AttemptJudged : Prop :=
  (∀ (s : State) (r : StepRec) (us : Nat), s.unit.step = some r → r.phase = .judging →
    (attemptWish r.kind (bankOf s r.bank) r.attempt = .keep →
      exec (.attemptJudged us) s = .next { s with unit := { s.unit with
        step := some { r with phase := .classifying, rangeLimited := false, elapsed := r.elapsed + 100 * us }
        sourceOn := false, guardOn := false } })
    ∧ (∀ target : Int,
      (attemptWish r.kind (bankOf s r.bank) r.attempt = .up ∧ target = r.range + 1)
        ∨ (attemptWish r.kind (bankOf s r.bank) r.attempt = .down ∧ target = (r.range : Int) - 1) →
      ((bankOf s r.bank).autoInForce = true → ((bankOf s r.bank).floor : Int) ≤ target →
        target ≤ (bankOf s r.bank).ceiling → target.toNat ∉ r.tried → r.changes < (bankOf s r.bank).maxChanges →
        exec (.attemptJudged us) s = .next { s with unit := { s.unit with step := some { r with
          phase := if (bankOf s r.bank).settle = 0 then .acquiring else .settling
          range := target.toNat, tried := r.tried ++ [target.toNat], changes := r.changes + 1
          attempt := ⟨[], 0, false, 0, false⟩, elapsed := r.elapsed + 100 * us } } })
      ∧ ((bankOf s r.bank).autoInForce = false ∨ target < (bankOf s r.bank).floor ∨ ((bankOf s r.bank).ceiling : Int) < target
          ∨ target.toNat ∈ r.tried ∨ (bankOf s r.bank).maxChanges ≤ r.changes →
        exec (.attemptJudged us) s = .next { s with unit := { s.unit with
          step := some { r with phase := .classifying, rangeLimited := true, elapsed := r.elapsed + 100 * us }
          sourceOn := false, guardOn := false } })))
  ∧ (∀ (kind : MeasKind) (b : Bank) (t : Attempt), kind = .res2 ∨ kind = .res4 →
    attemptWish kind b t =
      (if t.saturated = true ∨ 458752 < (meanOf (2 ^ b.k) t.sum).natAbs then .up
       else if (meanOf (2 ^ b.k) t.sum).natAbs < 16384 then .down else .keep))
  ∧ (∀ (b : Bank) (t : Attempt),
    attemptWish .cap b t = (if t.crossed = false then .down else if t.ticks < 1000 then .up else .keep)
    ∧ attemptWish .diode b t = .keep ∧ attemptWish .cont b t = .keep)

/-- R87, R121, R138, R139, R142, R178: the classification (of the final attempt's value against the entry's limit copy) completes
the step and takes the deferred checks, or, for a PASS with the capture flag set other than CAP, makes the capture hand-off: the
free logger writes the samples at the fill offset, wrapping, and once every word is acknowledged advances the offset, writes its
word, requests CAPTURE_WRAP or CAPTURE_HALF, frees itself and completes the step. The completion makes the measured entry DONE, or
FAILED with the cause and detail of its classification, gives it the results, and leaves every other entry as it was.
The model's choices it rests on: log entries 22 and 24. -/
def Obligations.StepCompletes : Prop :=
  ∀ (s : State) (r : StepRec) (e : Entry), s.unit.step = some r → entryOf s r.entry = some e →
    (r.phase = .classifying →
      (finalClass s r ≠ .pass ∨ e.capture = false ∨ r.kind = .cap →
        ∃ u, exec .classificationReturned s = .next (sealPort (settle u)) ∧ u.unit.step = none ∧ u.unit.sourceOn = false
          ∧ u.mem = s.mem ∧ u.link = s.link ∧ u.log = s.log ∧ u.rc = s.rc ∧ u.notice = s.notice ∧ DeferredTaken s u
          ∧ ∀ g : Reading, g = ⟨finalValue s r, r.range, r.changes, r.rangeLimited, isOverrange r.kind r.attempt,
                finalClass s r, r.start, min 4294967295 (r.elapsed / 100), none⟩ →
            (finalClass s r = .pass →
              u.window = s.window.map fun f => if f.uid = e.uid then { f with state := .done, result := some g } else f)
            ∧ ∀ (c : Cause) (d : Nat),
              (finalClass s r = .failLow ∧ c = .measureFail ∧ d = 1) ∨ (finalClass s r = .failHigh ∧ c = .measureFail ∧ d = 2)
                ∨ (finalClass s r = .marginal ∧ c = .measureFail ∧ d = 3) ∨ (finalClass s r = .overrange ∧ c = .overrange ∧ d = 0) →
              u.window = s.window.map fun f =>
                if f.uid = e.uid then { f with state := .failed, cause := some c, detail := d, result := some g } else f)
      ∧ (finalClass s r = .pass → e.capture = true → r.kind ≠ .cap →
        exec .classificationReturned s = .next { s with unit := { s.unit with step := some { r with
          phase := .handoff
          final := some (finalValue s r, finalClass s r, isOverrange r.kind r.attempt) } } }))
    ∧ (r.phase = .handoff → s.log.busy = false →
      exec .captureHandoff s = .next (sealPort { s with
        unit := { s.unit with step := some { r with phase := .captureWriting } }
        log := { s.log with busy := true }
        port := { s.port with reqs := s.port.reqs
          ++ [⟨.capture, s.settings.capBase + s.log.capFill,
              .write ((r.attempt.samples.map fun v => BitVec.ofInt 32 v).take ((s.settings.capSize - s.log.capFill) / 4)),
              true, s.port.epoch⟩]
          ++ (if r.attempt.samples.length ≤ (s.settings.capSize - s.log.capFill) / 4 then []
              else [⟨.capture, s.settings.capBase,
                .write ((r.attempt.samples.map fun v => BitVec.ofInt 32 v).drop ((s.settings.capSize - s.log.capFill) / 4)),
                true, s.port.epoch⟩]) } }))
    ∧ (∀ (q : Request) (ws : List Word) (s1 : State) (value : Int) (cls : Classification) (ovr : Bool),
      serve .capture s = some (q, ws, s1) → q.live = true → r.phase = .captureWriting → r.final = some (value, cls, ovr) →
      (hasReq .capture s1 = true → exec .captureWriteComplete s = .next (sealPort (settle s1)))
      ∧ (hasReq .capture s1 = false → ∃ u, exec .captureWriteComplete s = .next (sealPort (settle u))
          ∧ u.log = { s.log with
              capFill := (s.log.capFill + 4 * r.attempt.samples.length) % s.settings.capSize, busy := false }
          ∧ u.unit.step = none ∧ u.mem = s1.mem ∧ DeferredTaken s u
          ∧ (∀ old new : Nat, old = s.log.capFill →
            new = (s.log.capFill + 4 * r.attempt.samples.length) % s.settings.capSize →
            s.notice.inForce = true → s.notice.queue.length < 16 → u.notice.queue = s.notice.queue ++
              (if new < old then [⟨.captureWrap, BitVec.ofNat 32 new, 0, s.rc.time, .plain⟩]
               else if old < s.settings.capSize / 2 ∧ s.settings.capSize / 2 ≤ new then
                [⟨.captureHalf, BitVec.ofNat 32 new, 0, s.rc.time, .plain⟩]
               else []))
          ∧ ⟨.captureFill, s.settings.anchorBase + 0x108,
              .write [BitVec.ofNat 32 ((s.log.capFill + 4 * r.attempt.samples.length) % s.settings.capSize)],
              true, s.port.epoch⟩ ∈ u.port.reqs
          ∧ u.unit.sourceOn = false ∧ u.unit.guardOn = false ∧ u.link = s.link ∧ u.rc = s.rc
          ∧ ∀ g : Reading, g = ⟨value, r.range, r.changes, r.rangeLimited, ovr, cls, r.start,
              min 4294967295 (r.elapsed / 100), some (s.log.capFill, r.attempt.samples.length)⟩ →
            (cls = .pass →
              u.window = s.window.map fun f => if f.uid = e.uid then { f with state := .done, result := some g } else f)
            ∧ (∀ f ∈ s.window, f.uid ≠ e.uid → f ∈ u.window)
            ∧ ∃ f ∈ u.window, f.uid = e.uid ∧ f.result = some g))
    ∧ finalClass s r = classify r.kind e.limit r.attempt (finalValue s r)

/-! ## The log, the rings and memory errors -/

/-- R35, R91, R174, R176: the logger takes an offered head when it is free and room exists (HeadTaken: it counts the removal, numbers
and writes a kept record and hands the entry on to the Diversion Unit); without room it makes a read of the release index for the head,
whatever reads of ROOM are in flight, and the head stays; a MARK at the head is removed for its notice.
The model's choices it rests on: log entries 7, 19 (that the failed room test makes a read of its own behind the reads of ROOM in flight
is the model's reading of R11 and R176) and 30 (the field that counts those reads). -/
def Obligations.HeadLeavesWindow : Prop :=
  ∀ (s : State) (e : Entry) (rest : List Entry), s.window = e :: rest → s.rc.run = .running ∨ s.rc.run = .guardHold →
    (e.kind ≠ .mark → unmeasured e = false → s.log.busy = false → s.log.held = false → s.log.waiting = false →
      (1 ≤ (((s.log.release : Int) - s.log.fill - 1) % (s.settings.logSize : Int)) →
        ∃ u, exec .headTaken s = .next (sealPort (settle u)) ∧ HeadTaken e s u)
      ∧ (((s.log.release : Int) - s.log.fill - 1) % (s.settings.logSize : Int) < 1 →
        exec .headTaken s = .next (sealPort (settle { s with
          log := { s.log with waiting := true, ahead := countLive .release s }
          port := { s.port with reqs := s.port.reqs ++
            [⟨.release, s.settings.anchorBase + 0x104, .read 1, true, s.port.epoch⟩] } }))))
    ∧ (e.kind ≠ .mark → unmeasured e = true ∨ s.log.busy = true ∨ s.log.held = true ∨ s.log.waiting = true →
        exec .headTaken s = .next s)
    ∧ (e.kind = .mark → ∃ t, exec .markRemoved s = .next (sealPort (settle (takeRemoval e t))) ∧ t.window = rest
        ∧ t.rc = s.rc ∧ t.log = s.log ∧ t.mem = s.mem ∧ t.link = s.link
        ∧ (s.notice.inForce = true → s.notice.queue.length < 16 → t.notice.queue = s.notice.queue ++ [⟨.mark, e.markValue,
            BitVec.ofNat 32 (e.snap.origin.index % 16777216 + 16777216 * e.board), s.rc.time, .plain⟩]))
    ∧ (∀ n : Nat, satSucc n = if n < 4294967295 then n + 1 else 4294967295)
    ∧ ∀ k : EntryKind, recordKindCode k = 1 ↔ k = .measure ∨ k = .skipped ∨ k = .landingRefused ∨ k = .mark

/-- R172, R173, spec 12.4: the fields of a log record, each at its place, from the entry it stands for: kind and classification by the
entry's kind, state, cause and result; origin, roles, mask, flags, reading and capture reference, absent ones 0.
The model's choices it rests on: log entries 36 (a probe number byte above 7) and 44 (the measurement kind byte of a SERVICE or PARK
record, for which R172 gives no content, is 0). -/
def Obligations.RecordFields : Prop :=
  (∀ (seq : Nat) (now : Word) (e : Entry) (w : List Word), w = recordWords seq now e →
    w.length = 16 ∧ w.getD 0 0 = BitVec.ofNat 32 seq ∧ w.getD 1 0 = BitVec.ofNat 32 (seq / 4294967296)
    ∧ (w.getD 2 0).extractLsb' 0 8 = (match e.kind with
        | .measure | .skipped | .landingRefused | .mark => 1
        | .clean => 2
        | .park => 3
        | .programError => 4)
    ∧ (w.getD 2 0).extractLsb' 8 8 = BitVec.ofNat 8 (classCode (entryClass e))
    ∧ (w.getD 2 0).extractLsb' 16 16 = BitVec.ofNat 16 e.detail
    ∧ (w.getD 3 0).extractLsb' 0 8 = (match e.snap.origin.area with
        | .a => 0
        | .b => 1
        | .recovery => 2)
    ∧ (w.getD 3 0).extractLsb' 8 8 = BitVec.ofNat 8 e.board
    ∧ (w.getD 3 0).extractLsb' 16 8 = (match e.kind with
        | .measure | .skipped | .landingRefused => e.measByte
        | .programError => e.entryByte
        | .mark | .clean | .park => 0)
    ∧ (w.getD 3 0).extractLsb' 24 8 = BitVec.ofNat 8 e.bank
    ∧ w.getD 4 0 = BitVec.ofNat 32 e.snap.origin.list ∧ w.getD 5 0 = BitVec.ofNat 32 e.snap.origin.index
    ∧ (∀ (n : RoleName) (x : RoleSlot), e.slots[roleIndex n]? = some x →
      (w.getD (6 + roleIndex n / 4) 0).extractLsb' (8 * (roleIndex n % 4)) 8 =
        (if x.present = true
            ∧ (e.kind = .skipped ∨ e.kind = .programError
              ∨ ((e.kind = .measure ∨ e.kind = .landingRefused) ∧ ∃ k, measKindOf e.measByte = some k ∧ n ∈ usedSlots k))
         then 0x80 ||| (x.probe &&& 7) else 0))
    ∧ (w.getD 7 0).extractLsb' 8 8 = e.mask ∧ (w.getD 7 0).extractLsb' 16 8 = BitVec.ofNat 8 e.cycles
    ∧ (w.getD 7 0).getLsbD 24 = e.result.isSome ∧ (w.getD 7 0).getLsbD 25 = decide (e.nets ≠ [])
    ∧ (w.getD 7 0).getLsbD 26 = (e.result.bind (·.capture)).isSome
    ∧ ((w.getD 7 0).getLsbD 27 = true ↔ ∃ g, e.result = some g ∧ g.rangeLimited = true)
    ∧ (w.getD 7 0).getLsbD 28 = decide (e.snap.origin.area = .recovery) ∧ (w.getD 7 0).extractLsb' 29 3 = 0
    ∧ (w.getD 8 0).extractLsb' 0 16 = BitVec.ofNat 16 (e.nets.headD 0)
    ∧ (w.getD 11 0).extractLsb' 0 16 = BitVec.ofNat 16 ((e.roles.map (·.retouches)).sum)
    ∧ w.getD 15 0 = 0
    ∧ (e.result = none → (w.getD 8 0).extractLsb' 16 16 = 0 ∧ w.getD 9 0 = 0 ∧ w.getD 10 0 = 0 ∧ w.getD 12 0 = now
        ∧ w.getD 13 0 = 0)
    ∧ (∀ g, e.result = some g → (w.getD 8 0).extractLsb' 16 8 = BitVec.ofNat 8 g.range
        ∧ (w.getD 8 0).extractLsb' 24 8 = BitVec.ofNat 8 g.changes ∧ w.getD 10 0 ++ w.getD 9 0 = BitVec.ofInt 64 g.value
        ∧ w.getD 12 0 = g.start ∧ w.getD 13 0 = BitVec.ofNat 32 g.duration)
    ∧ (∀ o n, e.result.bind (·.capture) = some (o, n) →
        w.getD 14 0 = BitVec.ofNat 32 o ∧ (w.getD 11 0).extractLsb' 16 16 = BitVec.ofNat 16 n)
    ∧ (e.result.bind (·.capture) = none → w.getD 14 0 = 0 ∧ (w.getD 11 0).extractLsb' 16 16 = 0))
  ∧ (∀ e : Entry,
    (e.kind = .skipped → classCode (entryClass e) = 10) ∧ (e.kind = .landingRefused → classCode (entryClass e) = 8)
    ∧ (e.kind = .programError → classCode (entryClass e) = 9)
    ∧ (e.kind = .measure ∨ e.kind = .clean ∨ e.kind = .park →
      (e.state = .done → classCode (entryClass e) = 0)
      ∧ (e.state = .failed → e.cause = some .noContact → classCode (entryClass e) = 5)
      ∧ (e.state = .failed → e.cause = some .motionFault → classCode (entryClass e) = 6)
      ∧ (e.state = .failed → e.cause = some .motionTimeout → classCode (entryClass e) = 7)
      ∧ (∀ g, e.state = .failed → e.cause = some .measureFail ∨ e.cause = some .overrange → e.result = some g →
          entryClass e = g.cls)))
  ∧ classCode .pass = 0 ∧ classCode .failLow = 1 ∧ classCode .failHigh = 2 ∧ classCode .marginal = 3 ∧ classCode .overrange = 4

/-- R175, R176, R177: an acknowledged record advances the fill index, writes its word, requests LOG_HALF or LOG_WRAP and frees the
logger; a release index read is taken modulo L, and the read made for the head, or one made while held, is answered by the room test:
held is set and reported once (the source, LOG_HELD), and room found ends it and takes the head offered; a read of ROOM's ahead of the
head's own gives its value only, and one that ROOM asked to repeat is repeated. The 1 ms read goes on while held, outside GUARD_HOLD.
The model's choices it rests on: log entries 7, 19, 21, 30 and 37. -/
def Obligations.LogAdvancesAndWaits : Prop :=
  (∀ (s s1 : State) (r : Request) (ws : List Word), serve .record s = some (r, ws, s1) → 64 ≤ s.settings.logSize →
    ∃ t, exec .recordWriteComplete s = .next (sealPort t) ∧ t.mem = s1.mem ∧ t.rc = s1.rc
      ∧ t.log = { s1.log with fill := (s.log.fill + 1) % s.settings.logSize, busy := false }
      ∧ ⟨.logFill, s.settings.anchorBase + 0x100, .write [BitVec.ofNat 32 ((s.log.fill + 1) % s.settings.logSize)], true,
          s.port.epoch⟩ ∈ t.port.reqs
      ∧ (s.notice.inForce = true → s.notice.queue.length < 16 →
        t.notice.queue = s.notice.queue ++
          (if (s.log.fill + 1) % s.settings.logSize = s.settings.logSize / 2 then
            [⟨.logHalf, BitVec.ofNat 32 (s.settings.logSize / 2), BitVec.ofNat 32 s.log.writingSeq, s.rc.time, .plain⟩]
           else if (s.log.fill + 1) % s.settings.logSize = 0 then
            [⟨.logWrap, 0, BitVec.ofNat 32 s.log.writingSeq, s.rc.time, .plain⟩]
           else [])))
  ∧ (∀ (s s1 : State) (r : Request) (v : Word), serve .release s = some (r, [v], s1) → r.live = true →
    ∃ u, exec .releaseReadComplete s = .next (sealPort (settle u))
      ∧ ((s.log.waiting = false ∨ 0 < s.log.ahead) → s.log.readAgain = true → u = { s1 with
          log := { s1.log with release := v.toNat % s.settings.logSize, ahead := s.log.ahead - 1, readAgain := false }
          port := { s1.port with reqs := s1.port.reqs ++
            [⟨.release, s.settings.anchorBase + 0x104, .read 1, true, s1.port.epoch⟩] } })
      ∧ (((s.log.waiting = true ∧ 0 < s.log.ahead) ∨ (s.log.waiting = false ∧ s.log.held = false)) →
          s.log.readAgain = false →
          u = { s1 with log := { s1.log with release := v.toNat % s.settings.logSize, ahead := s.log.ahead - 1 } })
      ∧ ((s.log.waiting = true ∧ s.log.ahead = 0)
          ∨ (s.log.waiting = false ∧ s.log.held = true ∧ s.log.readAgain = false) →
        ((((v.toNat % s.settings.logSize : Nat) : Int) - s.log.fill - 1) % (s.settings.logSize : Int) < 1 →
          (s.log.held = false → u.log = { s1.log with
              release := v.toNat % s.settings.logSize, ahead := s.log.ahead - 1, held := true, waiting := false }
            ∧ u.window = s1.window ∧ u.mem = s1.mem ∧ u.rc = s1.rc
            ∧ u.notice.pend = { s.notice.pend with logHeld := true }
            ∧ (s.notice.inForce = true → s.notice.queue.length < 16 → u.notice.queue = s.notice.queue ++
              [⟨.logHeld, BitVec.ofNat 32 s.log.fill, BitVec.ofNat 32 (v.toNat % s.settings.logSize), s.rc.time, .plain⟩]))
          ∧ (s.log.held = true →
            u = { s1 with log := { s1.log with release := v.toNat % s.settings.logSize, ahead := s.log.ahead - 1 } }))
        ∧ (1 ≤ (((v.toNat % s.settings.logSize : Nat) : Int) - s.log.fill - 1) % (s.settings.logSize : Int) →
          ∀ t : State, t = { s1 with log := { s1.log with
              release := v.toNat % s.settings.logSize, ahead := s.log.ahead - 1, held := false, waiting := false } } →
            (offeredHead s = none ∨ s.log.busy = true → u = t)
            ∧ (∀ e, offeredHead s = some e → s.log.busy = false → HeadTaken e t u))))
  ∧ (∀ (s : State) (e : Entry), offeredHead s = some e ↔
    (∃ rest, s.window = e :: rest) ∧ (s.rc.run = .running ∨ s.rc.run = .guardHold) ∧ unmeasured e = false ∧ e.kind ≠ .mark)
  ∧ (∀ s : State,
    (s.log.held = true → s.rc.run ≠ .guardHold → hasLive .release s = false →
      exec .releasePoll s = .next (sealPort { s with port := { s.port with reqs := s.port.reqs ++
        [⟨.release, s.settings.anchorBase + 0x104, .read 1, true, s.port.epoch⟩] } }))
    ∧ (s.log.held = false ∨ s.rc.run = .guardHold → exec .releasePoll s = .next s))

/-- R179, R180, R181, spec 12.4: a request made while the ring is in force is queued, or held behind 16, and the oldest queued request is
written, one at a time: a record of kind code, first parameter, second parameter and time stamp at the ring base plus 16 times the fill
index. An acknowledged record leaves the queue, advances the fill index modulo 128 and, from 127, the wrap count modulo 65,536, writes
the fill word, and makes NOTICE pending where the mask names its kind; held requests then take the free places in the order they were
made, and the next record is written. The codes of the notice kinds.
The model's choices it rests on: log entry 13. -/
def Obligations.NoticeWritten : Prop :=
  (∀ (s s1 : State) (r : Request) (ws : List Word) (n : Notice) (q : List Notice), serve .notice s = some (r, ws, s1) →
    r.live = true → s.notice.queue = n :: q →
    ∃ u, exec .noticeWriteComplete s = .next (sealPort (settle u)) ∧ u.mem = s1.mem
      ∧ u.notice.fill = (s.notice.fill + 1) % 128
      ∧ u.notice.wrap = (if s.notice.fill = 127 then (s.notice.wrap + 1) % 65536 else s.notice.wrap)
      ∧ ⟨.noticeFill, s.settings.anchorBase + 0x10C,
          .write [BitVec.ofNat 32 (u.notice.fill + 65536 * u.notice.wrap)], true, s.port.epoch⟩ ∈ u.port.reqs
      ∧ u.notice.queue = q ++ s.notice.held.take (16 - q.length) ∧ u.notice.held = s.notice.held.drop (16 - q.length)
      ∧ (u.notice.queue = [] ∨ hasLive .notice s1 = true → u.port.reqs = s1.port.reqs ++ [⟨.noticeFill,
          s.settings.anchorBase + 0x10C, .write [BitVec.ofNat 32 (u.notice.fill + 65536 * u.notice.wrap)], true, s.port.epoch⟩])
      ∧ (∀ m rest, u.notice.queue = m :: rest → hasLive .notice s1 = false → u.port.reqs = s1.port.reqs ++
          [⟨.noticeFill, s.settings.anchorBase + 0x10C, .write [BitVec.ofNat 32 (u.notice.fill + 65536 * u.notice.wrap)], true,
              s.port.epoch⟩,
            ⟨.notice, s.notice.base + 16 * u.notice.fill,
              .write [BitVec.ofNat 32 m.kind.code, m.first, m.second, m.time], true, s.port.epoch⟩])
      ∧ u.notice.pend.notice = (s.notice.pend.notice || s.settings.noticeMask.getLsbD n.kind.code)
      ∧ (n.mark = .plain → u.rc = s1.rc ∧ u.link = s1.link ∧ u.window = s1.window))
  ∧ (∀ s : State,
    (hasLive .notice s = true ∨ s.notice.queue = [] → startNotice s = s)
    ∧ ∀ (n : Notice) (q : List Notice), hasLive .notice s = false → s.notice.queue = n :: q →
      startNotice s = { s with port := { s.port with reqs := s.port.reqs ++
        [⟨.notice, s.notice.base + 16 * s.notice.fill, .write [BitVec.ofNat 32 n.kind.code, n.first, n.second, n.time], true,
          s.port.epoch⟩] } })
  ∧ (∀ (kind : NoticeKind) (first second : Word) (mark : NoticeMark) (s : State),
    (s.notice.inForce = false → requestNotice kind first second mark s = s)
    ∧ (s.notice.inForce = true → s.notice.queue.length < 16 → requestNotice kind first second mark s =
        startNotice { s with notice := { s.notice with
          queue := s.notice.queue ++ [⟨kind, first, second, s.rc.time, mark⟩] } })
    ∧ (s.notice.inForce = true → 16 ≤ s.notice.queue.length → requestNotice kind first second mark s =
        { s with notice := { s.notice with held := s.notice.held ++ [⟨kind, first, second, s.rc.time, mark⟩] } }))
  ∧ ([.stepFailed, .logHalf, .logWrap, .logHeld, .captureHalf, .captureWrap, .mark, .paused, .chainWaitEntered, .boardWaitEntered,
      .areaDone, .divertEntered, .divertReturned, .serviceDue, .guardOpened, .guardClosed, .timeWrap, .runEnded] :
      List NoticeKind).map NoticeKind.code = [1, 2, 3, 4, 5, 6, 7, 8, 9, 10, 11, 12, 13, 14, 15, 16, 17, 18]

/-- R4, R13, R14: a request is served whole once every older one has been, where the fill words before it are written in passing, and
where requests that different blocks made in one step go in either order; one that fails at a word leaves the words before it written
and gives its block no data (no table, setting or index is taken from it); each memory error makes MEMORY_ERROR pending and halts the
run with MEMORY_ERROR outside IDLE and HALTED; in IDLE a second read that ROOM asked for follows a failed one. Which requests are fill
words, which block makes each, and what writing and reading words does to the bytes, little-endian.
The model's choices it rests on: log entries 6 and 9; and 19 (that a failed read counts as completed for ROOM's second read). -/
def Obligations.PortServesAndFails : Prop :=
  (∀ (s : State) (r : Request) (rest : List Request), s.port.reqs = r :: rest →
    (r.addr + 4 * r.words ≤ 33554432 → ∃ s1, serve r.kind s = some (r, readData s.mem r, s1)
      ∧ s1 = { s with mem := s1.mem, port := { s.port with reqs := rest } }
      ∧ (∀ n, r.body = .read n → s1.mem = s.mem)
      ∧ (∀ ws, r.body = .write ws → s1.mem = memSetWords s.mem r.addr ws))
    ∧ (33554432 < r.addr + 4 * r.words → serve r.kind s = none)
    ∧ (∀ n : Nat, ∃ s1, serveFailing r.kind n s = some (r, s1)
      ∧ s1 = { s with mem := s1.mem, port := { s.port with reqs := rest } }
      ∧ (∀ k, r.body = .read k → s1.mem = s.mem)
      ∧ (∀ data, r.body = .write data → r.addr + 4 * r.words ≤ 33554432 →
          s1.mem = memSetWords s.mem r.addr (data.take (min n (data.length - 1))))
      ∧ (33554432 < r.addr + 4 * r.words → s1.mem = s.mem)))
  ∧ (∀ (kind : ReqKind) (n : Nat) (s s1 : State) (r : Request), serveFailing kind n s = some (r, s1) →
    ∃ u, exec (.memoryError kind n) s = .next (sealPort (settle u)) ∧ u.notice.pend.memoryError = true ∧ u.mem = s1.mem
      ∧ u.log.fill = s.log.fill ∧ u.log.capFill = s.log.capFill ∧ u.notice.fill = s.notice.fill
      ∧ u.log.release = s.log.release ∧ u.unit.banks = s.unit.banks ∧ u.unit.resNull = s.unit.resNull
      ∧ u.unit.capNull = s.unit.capNull ∧ u.div.table = s.div.table ∧ u.settings = s.settings ∧ u.link = s.link
      ∧ u.corr = s.corr
      ∧ (kind = .release → r.live = true → s.log.readAgain = true → s.rc.run = .idle → u.log.readAgain = false
          ∧ ⟨.release, s.settings.anchorBase + 0x104, .read 1, true, s.port.epoch⟩ ∈ u.port.reqs)
      ∧ (kind = .record → u.log.busy = false)
      ∧ (kind = .notice → r.live = true → s.rc.run = .idle ∨ s.rc.run = .halted → u.notice.queue =
          s.notice.queue.drop 1 ++ s.notice.held.take (16 - (s.notice.queue.drop 1).length))
      ∧ (s.rc.run = .idle ∨ s.rc.run = .halted → u.rc.run = s.rc.run ∧ u.rc.endCode = s.rc.endCode)
      ∧ (s.rc.run ≠ .idle → s.rc.run ≠ .halted →
          u.rc.run = .halted ∧ u.rc.endCode = .memoryError ∧ u.window = [] ∧ u.unit.step = none))
  ∧ (∀ (s : State) (kind : ReqKind) (before after : List Request) (r : Request) (m : List Host.Cell),
    s.port.reqs = before ++ r :: after → r.kind = kind → (∀ q ∈ before, q.kind ≠ kind) → m = performFills s.mem before →
    ((∀ q ∈ before, isFillWord q.kind = true ∨ (q.epoch = r.epoch ∧ reqBlock q.kind ≠ reqBlock r.kind)) →
      (r.addr + 4 * r.words ≤ 33554432 → serve kind s = some (r, readData m r, { s with
        mem := (match r.body with
          | .read _ => m
          | .write ws => memSetWords m r.addr ws)
        port := { s.port with reqs := (before.filter fun q => !isFillWord q.kind) ++ after } }))
      ∧ (33554432 < r.addr + 4 * r.words → serve kind s = none)
      ∧ (∀ n : Nat, serveFailing kind n s = some (r, { s with
        mem := (match r.body with
          | .read _ => m
          | .write ws => if r.addr + 4 * ws.length ≤ 33554432 then memSetWords m r.addr (ws.take (min n (ws.length - 1))) else m)
        port := { s.port with reqs := (before.filter fun q => !isFillWord q.kind) ++ after } })))
    ∧ ((∃ q ∈ before, isFillWord q.kind = false ∧ (q.epoch ≠ r.epoch ∨ reqBlock q.kind = reqBlock r.kind)) →
      serve kind s = none ∧ ∀ n, serveFailing kind n s = none))
  ∧ (∀ (s : State) (kind : ReqKind), (∀ r ∈ s.port.reqs, r.kind ≠ kind) → serve kind s = none ∧ ∀ n, serveFailing kind n s = none)
  ∧ (∀ (m : List Host.Cell) (q : Request) (rest : List Request), performFills m [] = m
    ∧ (isFillWord q.kind = false → performFills m (q :: rest) = performFills m rest)
    ∧ ∀ ws, isFillWord q.kind = true → q.body = .write ws → q.addr + 4 * ws.length ≤ 33554432 →
        performFills m (q :: rest) = performFills (memSetWords m q.addr ws) rest)
  ∧ (∀ kind : ReqKind,
    (isFillWord kind = true ↔ kind = .logFill ∨ kind = .captureFill ∨ kind = .noticeFill)
    ∧ (reqBlock kind = .fetcher ↔ kind = .fetch)
    ∧ (reqBlock kind = .logger ↔
        kind = .record ∨ kind = .release ∨ kind = .capture ∨ kind = .logFill ∨ kind = .captureFill)
    ∧ (reqBlock kind = .noticeUnit ↔ kind = .notice ∨ kind = .noticeFill))
  ∧ (∀ (m : List Host.Cell) (x : Nat) (ws : List Word), Memory.wf m = true →
    (∀ i w, ws[i]? = some w → memWord (memSetWords m x ws) (x + 4 * i) = w)
    ∧ ∀ y, y < x ∨ x + 4 * ws.length ≤ y → memByte (memSetWords m x ws) y = memByte m y)
  ∧ (∀ (m : List Host.Cell) (x : Nat), memWord m x = memByte m (x + 3) ++ memByte m (x + 2) ++ memByte m (x + 1) ++ memByte m x)
  ∧ (∀ (m : List Host.Cell) (r : Request) (n : Nat), r.body = .read n →
    (readData m r).length = n ∧ ∀ i, i < n → (readData m r)[i]? = some (memWord m (r.addr + 4 * i)))
  ∧ (∀ (s : State) (kind : ReqKind),
    (hasReq kind s = true ↔ ∃ r ∈ s.port.reqs, r.kind = kind)
    ∧ (hasLive kind s = true ↔ ∃ r ∈ s.port.reqs, r.kind = kind ∧ r.live = true)
    ∧ countLive kind s = (s.port.reqs.filter fun r => decide (r.kind = kind ∧ r.live = true)).length)
  ∧ (∀ s : State,
    ((∃ r ∈ s.port.reqs, r.epoch = s.port.epoch) → sealPort s = { s with port := { s.port with epoch := s.port.epoch + 1 } })
    ∧ ((∀ r ∈ s.port.reqs, r.epoch ≠ s.port.epoch) → sealPort s = s)
    ∧ ∀ r rest, s.port.reqs = r :: rest → (isFillWord r.kind = false → serveFillWord s = s)
      ∧ ∀ ws, isFillWord r.kind = true → r.body = .write ws → r.addr + 4 * ws.length ≤ 33554432 →
        serveFillWord s = { s with mem := memSetWords s.mem r.addr ws, port := { s.port with reqs := rest } })

/-! ## Diversions -/

/-- R158, R159, R161, R162, R163, R164, R167, R168: what the Diversion Unit does with a removed entry: retry bookkeeping, the decision of
a failure by the table and the retry budget, diversion entry with its DIVERT_ENTERED notice, the halts, and the tip-service test, which
follows a removal that has neither entered a diversion nor halted, a failed one with action CONTINUE among them. Inside a diversion the
removal of an entry that did not fail changes nothing. The codes of the causes and the place of each cause's entry in the table. -/
def Obligations.RemovalsDecided : Prop :=
  (∀ (s : State) (e : Entry), s.div.active = false →
    (e.state ≠ .failed → (∀ p, (probe s p).due = false) →
      takeRemoval e s = { s with div := { s.div with retryCount := 0, retryOrigin := none } })
    ∧ (∀ (c : Cause) (act : DivAction), e.state = .failed → e.cause = some c →
      act = (if s.div.retryOrigin = some e.snap.origin ∧ (tableEntry s c).budget ≤ s.div.retryCount
        then (tableEntry s c).exhausted else (tableEntry s c).action) →
      (act = .continue_ → (∀ p, (probe s p).due = false) → takeRemoval e s = { s with div :=
        (if s.div.retryOrigin = some e.snap.origin then s.div else { s.div with retryCount := 0, retryOrigin := none }) })
      ∧ (act = .divert →
        (takeRemoval e s).div.active = true ∧ (takeRemoval e s).div.returnPoint = some e.snap
        ∧ (takeRemoval e s).div.returnAfter = false ∧ (takeRemoval e s).div.savedBank = e.snap.bank
        ∧ (takeRemoval e s).div.firstCause = some c ∧ (takeRemoval e s).div.secondCause = none
        ∧ (takeRemoval e s).fetch = { s.fetch with
            list := (tableEntry s c).list, index := 0, recovery := true, stack := s.fetch.stack.take e.snap.depth
            bank := (tableEntry s c).bank, held := none, txn := none, stopped := false }
        ∧ (takeRemoval e s).window = [] ∧ (takeRemoval e s).unit.step = none ∧ (takeRemoval e s).rc = s.rc
        ∧ (takeRemoval e s).link = s.link ∧ (takeRemoval e s).mem = s.mem
        ∧ NoticeRequested ⟨.divertEntered, BitVec.ofNat 32 (causeCode c), BitVec.ofNat 32 e.snap.origin.index, s.rc.time, .plain⟩
            s (takeRemoval e s))
      ∧ (act = .halt → s.rc.run ≠ .halted →
        (takeRemoval e s).rc.run = .halted ∧ (takeRemoval e s).rc.endCode = .haltedByTable
        ∧ (takeRemoval e s).rc.endCauses = 0 ∧ (takeRemoval e s).window = [] ∧ (takeRemoval e s).link = s.link)))
  ∧ (∀ (s : State) (e : Entry), s.div.active = true → e.state ≠ .failed → takeRemoval e s = s)
  ∧ (∀ (s : State) (e : Entry) (c c1 : Cause), s.div.active = true → s.div.firstCause = some c1 →
    e.state = .failed → e.cause = some c → s.rc.run ≠ .halted →
    ((tableEntry s c).action = .continue_ → takeRemoval e s = s)
    ∧ ((tableEntry s c).action = .halt →
      (takeRemoval e s).rc.run = .halted ∧ (takeRemoval e s).rc.endCode = .haltedByTable
      ∧ (takeRemoval e s).rc.endCauses = BitVec.ofNat 32 (causeCode c1)
      ∧ (takeRemoval e s).div = { s.div with active := false })
    ∧ ((tableEntry s c).action = .divert →
      (takeRemoval e s).rc.run = .halted ∧ (takeRemoval e s).rc.endCode = .doubleFault
      ∧ (takeRemoval e s).rc.endCauses = BitVec.ofNat 32 (causeCode c1 + 65536 * causeCode c)
      ∧ (takeRemoval e s).div = { s.div with active := false, secondCause := some c }))
  ∧ (∀ (s t : State) (e : Entry), s.div.active = false → s.rc.run ≠ .halted → (∃ p, (probe s p).due = true) →
    (e.state ≠ .failed ∧ t = { s with div := { s.div with retryCount := 0, retryOrigin := none } })
      ∨ (∃ c, e.state = .failed ∧ e.cause = some c
        ∧ (if s.div.retryOrigin = some e.snap.origin ∧ (tableEntry s c).budget ≤ s.div.retryCount
          then (tableEntry s c).exhausted else (tableEntry s c).action) = .continue_
        ∧ t = { s with div :=
          (if s.div.retryOrigin = some e.snap.origin then s.div else { s.div with retryCount := 0, retryOrigin := none }) }) →
    ((tableEntry s .tipService).action = .continue_ → takeRemoval e s = t)
    ∧ ((tableEntry s .tipService).action = .divert →
      (takeRemoval e s).div = { t.div with
        active := true, returnPoint := some e.snap, returnAfter := true, savedBank := e.snap.bank
        firstCause := some .tipService, secondCause := none }
      ∧ (takeRemoval e s).fetch = { s.fetch with
          list := (tableEntry s .tipService).list, index := 0, recovery := true, stack := s.fetch.stack.take e.snap.depth
          bank := (tableEntry s .tipService).bank, held := none, txn := none, stopped := false }
      ∧ (takeRemoval e s).window = [] ∧ (takeRemoval e s).unit.step = none ∧ (takeRemoval e s).rc = s.rc
      ∧ (takeRemoval e s).link = s.link ∧ (takeRemoval e s).mem = s.mem
      ∧ NoticeRequested ⟨.divertEntered, 8, BitVec.ofNat 32 e.snap.origin.index, s.rc.time, .plain⟩ s (takeRemoval e s))
    ∧ ((tableEntry s .tipService).action = .halt →
      (takeRemoval e s).rc.run = .halted ∧ (takeRemoval e s).rc.endCode = .haltedByTable
      ∧ (takeRemoval e s).rc.endCauses = 0 ∧ (takeRemoval e s).div = t.div ∧ (takeRemoval e s).window = []))
  ∧ ([.measureFail, .overrange, .noContact, .motionFault, .motionTimeout, .landingRefused, .programError, .tipService] :
      List Cause).map causeCode = [1, 2, 3, 4, 5, 6, 7, 8]
  ∧ causeCodeOpt none = 0 ∧ (∀ c, causeCodeOpt (some c) = causeCode c)
  ∧ (∀ (s : State) (c : Cause) (p : ProbeNo), causeCode c = p.val + 1 → tableEntry s c = s.div.table.get p)

/-- R59, R166: a released RESUME: RETRY after a failure goes back to the failed entry and counts the retry, RETRY after tip service
and NEXT go on behind it, both restoring the bank and the stack and ending the diversion with its DIVERT_RETURNED notice; HALT halts
with HALTED_BY_TABLE. -/
def Obligations.ResumeLeavesDiversion : Prop :=
  ∀ (s : State) (m : ResumeMode) (pt : Snapshot), s.fetch.held = some (.resume m) → s.window = [] → s.rc.run = .running →
    s.div.returnPoint = some pt →
    ∃ u, exec .resumeReleased s = .next (sealPort (settle u)) ∧ u.mem = s.mem ∧ u.link = s.link
      ∧ (m = .halt → u.rc.run = .halted ∧ u.rc.endCode = .haltedByTable ∧ u.div = { s.div with active := false })
      ∧ (m = .retry ∨ m = .next → u.rc = s.rc ∧ u.div.active = false ∧ u.div.firstCause = s.div.firstCause
          ∧ u.fetch = { s.fetch with
              list := pt.origin.list
              index := if m = .retry ∧ s.div.returnAfter = false then pt.origin.index else pt.origin.index + 1
              recovery := false, stack := s.fetch.stack.take pt.depth, bank := s.div.savedBank
              held := none, txn := none, stopped := false }
          ∧ (m = .retry → s.div.returnAfter = false →
              u.div.retryCount = s.div.retryCount + 1 ∧ u.div.retryOrigin = some pt.origin)
          ∧ (m = .next ∨ s.div.returnAfter = true →
              u.div.retryCount = s.div.retryCount ∧ u.div.retryOrigin = s.div.retryOrigin)
          ∧ NoticeRequested ⟨.divertReturned, if m = .retry then 1 else 2, BitVec.ofNat 32 u.div.retryCount, s.rc.time, .plain⟩ s u)

/-! ## Arithmetic -/

/-- R62, R63, R69, R145, R146: the rounding rules characterised: a quotient goes to the nearest integer and a half away from zero; the
mean goes to the nearest integer and a half to the greater; the transform; the resistance of each range; the spacing test. -/
def Obligations.ExactArithmetic : Prop :=
  (∀ (n : Int) (d : Nat), 0 < d →
    2 * (n - roundHalfAway n d * d).natAbs ≤ d
    ∧ (2 * (n - roundHalfAway n d * d).natAbs = d → n.natAbs < (roundHalfAway n d * d).natAbs))
  ∧ (∀ (k : Nat) (sum : Int), k ≤ 8 →
    2 * ((2 ^ k : Nat) * meanOf (2 ^ k) sum) ≤ 2 * sum + (2 ^ k : Nat)
    ∧ 2 * sum + (2 ^ k : Nat) < 2 * ((2 ^ k : Nat) * meanOf (2 ^ k) sum) + 2 * (2 ^ k : Nat))
  ∧ (∀ (k : Correction) (dx dy x y : Int),
    (-2147483648 ≤ x + dx → x + dx ≤ 2147483647 → -2147483648 ≤ y + dy → y + dy ≤ 2147483647 →
      transform k (dx, dy) x y = some
        (k.ox + roundHalfAway (k.c * (x + dx) - k.s * (y + dy)) 1073741824,
          k.oy + roundHalfAway (k.s * (x + dx) + k.c * (y + dy)) 1073741824))
    ∧ (x + dx < -2147483648 ∨ 2147483647 < x + dx ∨ y + dy < -2147483648 ∨ 2147483647 < y + dy →
      transform k (dx, dy) x y = none))
  ∧ (∀ (i : Nat) (v : Int), 2 ≤ i → i ≤ 6 → resistanceOf i v = v * (10 : Int) ^ (i - 2))
  ∧ (∀ v : Int, resistanceOf 1 v = roundHalfAway v 10 ∧ resistanceOf 0 v = roundHalfAway v 100)
  ∧ (∀ (d : Nat) (a b : Int × Int),
    spacingConflict d a b = true ↔ (a.1 - b.1) ^ 2 + (a.2 - b.2) ^ 2 < (d : Int) ^ 2)
  ∧ (∀ (d : Nat) (a b : Int × Int), (d : Int) ≤ (a.1 - b.1).natAbs ∨ (d : Int) ≤ (a.2 - b.2).natAbs →
    spacingConflict d a b = false)
  ∧ (∀ (d : Nat) (a : Int × Int), spacingConflict d a a = decide (0 < d))

/-- R130, R132, R145, R146, R147, R148, R149: the value of an attempt: four times the mean of its samples in µV for DIODE; for RES2, RES4
and CONT the resistance of the range, less the null for RES2 alone; for CAP the current of the range times the ticks times ten by V_th,
rounded half away from zero, less the null. The final value takes the settings of the step's bank and the null at the row of its
force-hi probe and the column of its force-lo probe. The bounds of the values each kind can form, from samples of the converter, ramps
up to T_max and nulls and banks within their ranges; each lies strictly between −2^55 and 2^55. -/
def Obligations.ReadingValueBounds : Prop :=
  (∀ (range null : Nat) (b : Bank) (t : Attempt) (volts : Int), volts = 4 * meanOf (2 ^ b.k) t.sum →
    attemptValue .res2 range b null t = resistanceOf range volts - null
    ∧ attemptValue .res4 range b null t = resistanceOf range volts
    ∧ attemptValue .cont range b null t = resistanceOf range volts
    ∧ attemptValue .diode range b null t = volts
    ∧ attemptValue .cap range b null t
        = roundHalfAway ((10 ^ (8 - range) * t.ticks * 10 : Nat) : Int) b.vth - null)
  ∧ (∀ (s : State) (r : StepRec),
    (r.kind = .res2 → finalValue s r =
      attemptValue .res2 r.range (bankOf s r.bank) ((s.unit.resNull.get r.hi).get r.lo) r.attempt)
    ∧ (r.kind = .cap → finalValue s r =
      attemptValue .cap r.range (bankOf s r.bank) ((s.unit.capNull.get r.hi).get r.lo) r.attempt)
    ∧ (r.kind ≠ .res2 → r.kind ≠ .cap → finalValue s r = attemptValue r.kind r.range (bankOf s r.bank) 0 r.attempt)
    ∧ ∀ (n : Nat) (b : Bank), s.unit.banks[n]? = some b → bankOf s n = b)
  ∧ ∀ (kind : MeasKind) (range null : Nat) (b : Bank) (t : Attempt),
    b.k ≤ 8 → range ≤ 6 → (kind = .cont → range = 1) → (kind = .res2 → null ≤ 100000) → (kind = .cap → null ≤ 1000000) →
    -524288 * (2 ^ b.k : Nat) ≤ t.sum → t.sum ≤ 524287 * (2 ^ b.k : Nat) →
    1 ≤ t.ticks → t.ticks ≤ 2147483648 → 200 ≤ b.vth → b.vth ≤ 2000 →
    (match kind with
     | .res2 => -20971620000 ≤ attemptValue kind range b null t ∧ attemptValue kind range b null t ≤ 20971480000
     | .res4 => -20971520000 ≤ attemptValue kind range b null t ∧ attemptValue kind range b null t ≤ 20971480000
     | .cont => -209715 ≤ attemptValue kind range b null t ∧ attemptValue kind range b null t ≤ 209715
     | .diode => -2097152 ≤ attemptValue kind range b null t ∧ attemptValue kind range b null t ≤ 2097148
     | .cap => -999999 ≤ attemptValue kind range b null t ∧ attemptValue kind range b null t ≤ 10737418240000000)
    ∧ -36028797018963968 < attemptValue kind range b null t ∧ attemptValue kind range b null t < 36028797018963968

/-- R153, R155, R156, R157: the bounds of a limit copy and the classification of a final attempt, line by line of the table. -/
def Obligations.LimitsAndClassification : Prop :=
  (∀ (nominal : Int) (tl th : Nat), ∃ lo hi, limitBounds (.nomtol nominal tl th) = some (lo, hi) ∧ lo ≤ hi
    ∧ (0 ≤ nominal →
        lo = nominal * (10000 - (min 10000 tl : Nat)) / 10000 ∧ hi = -(-(nominal * (10000 + (th : Nat))) / 10000))
    ∧ (nominal < 0 → ∀ a b, a = nominal * (10000 - (min 10000 tl : Nat)) / 10000 →
        b = -(-(nominal * (10000 + (th : Nat))) / 10000) → lo = min a b ∧ hi = max a b)
    ∧ (nominal = 0 → lo = 0 ∧ hi = 0) ∧ (tl = 0 → th = 0 → lo = nominal ∧ hi = nominal))
  ∧ (∀ lo hi, limitBounds (.abs lo hi) = some (lo, hi))
  ∧ (∀ (kind : MeasKind) (lim : Option LimitRec) (t : Attempt) (v : Int), kind ≠ .cont →
    ((kind ≠ .cap ∧ t.saturated = true) ∨ (kind = .cap ∧ t.crossed = false) → classify kind lim t v = .overrange)
    ∧ ((kind ≠ .cap ∧ t.saturated = false) ∨ (kind = .cap ∧ t.crossed = true) →
      classify kind none t v = .pass
      ∧ ∀ l lo hi, lim = some l → limitBounds l = some (lo, hi) →
        (v < lo → classify kind lim t v = .failLow)
        ∧ (lo ≤ v → hi < v → classify kind lim t v = .failHigh)
        ∧ (lo ≤ v → v ≤ hi → classify kind lim t v = .pass)))
  ∧ (∀ (short openMin : Nat) (isolated : Bool) (t : Attempt) (v : Int),
    (t.saturated = true ∨ ((short : Int) < v ∧ (openMin : Int) ≤ v) →
      classify .cont (some (.cont short openMin isolated)) t v = (if isolated then .pass else .failHigh))
    ∧ (t.saturated = false → v ≤ short →
      classify .cont (some (.cont short openMin isolated)) t v = (if isolated then .failLow else .pass))
    ∧ (t.saturated = false → (short : Int) < v → v < openMin →
      classify .cont (some (.cont short openMin isolated)) t v = .marginal))
  ∧ (∀ (kind : MeasKind) (lim : Option LimitRec) (t : Attempt) (v : Int),
    isOverrange kind t = (match kind with
      | .res2 | .res4 | .diode => t.saturated
      | .cap => !t.crossed
      | .cont => false)
    ∧ (classify kind lim t v = .overrange ↔ isOverrange kind t = true))

/-- R125, R126: the nudge of a pad, and the seven retouch targets, each an offset from the nominal point, a coordinate outside the
signed 32-bit range sent as its nearer end. -/
def Obligations.RetouchTargets : Prop :=
  (∀ pad : Nat, nudge pad = max 5 (min 100 (pad / 4)) ∧ 5 ≤ nudge pad ∧ nudge pad ≤ 100)
  ∧ (∀ (k pad : Nat) (x y dx dy : Int),
    (k, dx, dy) ∈ [(1, 1, 0), (2, -1, 0), (3, 0, 1), (4, 0, -1), (5, 1, 1), (6, -1, -1), (7, 1, -1)] →
    retouchTarget k pad x y = (max (-2147483648) (min 2147483647 (x + dx * (nudge pad : Int))),
      max (-2147483648) (min 2147483647 (y + dy * (nudge pad : Int)))))

/-! ## The whole machine -/

/-- How the consequences of a step are made up in each run state: the move after an area, the end of a BOARD_WAIT, the parking and the
completion of STOPPING, the serving pass and the next transaction (AreaWritesAndMove, BoardWaitEnds, StopEntersStopping, MembersServed
and FetchReadsAct say what each does); what they never change; and that in every run state but RUNNING, BOARD_WAIT and STOPPING there
are none but the interlock of the source (R133), which ends a measurement exactly where the source is on and a role probe of the
measured entry does not stand LANDED and verified; and what such an end does (R140).
The model's choices it rests on: log entries 12 and 27. -/
def Obligations.SettleLeaves : Prop :=
  ∀ s : State,
    (settle s).mem = s.mem ∧ (settle s).regs = s.regs ∧ (settle s).settings = s.settings ∧ (settle s).corr = s.corr
    ∧ (settle s).pending = s.pending ∧ (settle s).free = s.free ∧ (settle s).nextUid = s.nextUid
    ∧ (settle s).link.up = s.link.up ∧ (settle s).link.stop = s.link.stop ∧ (settle s).rc.guardLine = s.rc.guardLine
    ∧ (settle s).rc.boardLine = s.rc.boardLine
    ∧ settle s = interlock (beginTxn (servingPass (stoppingSettle (boardSettle (areaMove s)))))
    ∧ (s.rc.run = .running → s.rc.areaSeq ≠ some .move → settle s = interlock (beginTxn (servingPass s)))
    ∧ (s.rc.run = .running → s.rc.areaSeq = some .move → settle s = interlock (stoppingSettle (boardSettle (areaMove s))))
    ∧ (s.rc.run = .boardWait → settle s = interlock (beginTxn (servingPass (boardSettle s))))
    ∧ (s.rc.run = .stopping → settle s = interlock (stoppingSettle s))
    ∧ (s.rc.run ≠ .running → s.rc.run ≠ .boardWait → s.rc.run ≠ .stopping →
        settle s = interlock s ∧ (InterlockHeld s → settle s = s))
    ∧ (InterlockHeld s → interlock s = s) ∧ (¬InterlockHeld s → interlock s = abortMeasurement s)
    ∧ (s.unit.step = none → abortMeasurement s = s)
    ∧ (s.unit.step ≠ none → DeferredTaken s (abortMeasurement s)
      ∧ abortMeasurement s = { s with
          unit := { s.unit with step := none, sourceOn := false, guardOn := false }
          checks := (abortMeasurement s).checks
          port := { s.port with reqs := s.port.reqs.map fun r => if r.kind = .capture then { r with live := false } else r } })

/-- R10, R11, R12, R61 and the frames of every command: memory changes only where the Memory Port serves or abandons a request, the
registers only by the host's accesses and resets, the settings only at START loading and resets, the correction only there and at the
area switch.
The model's choices it rests on: log entries 4 and 9. -/
def Obligations.OnlyNamedCommandsChange : Prop :=
  ∀ (c : Instr) (s t : State), exec c s = .next t →
    (servesPort c = false → t.mem = s.mem)
    ∧ (reachesRegisters c = false → t.regs = s.regs)
    ∧ (c ≠ .loadingReadComplete → c ≠ .por → c ≠ .pin → c ≠ .softReset → t.settings = s.settings
        ∧ (c ≠ .runWordReadComplete → t.corr = s.corr))

/-- Every invariant below holds in the state after a power-on reset.
The model's choices it rests on: log entry 1. -/
def Obligations.InvariantsAtReset : Prop :=
  MemoryCanonical State.reset ∧ WindowBounded State.reset ∧ StackBounded State.reset ∧ QueueBounded State.reset
  ∧ WearBounded State.reset ∧ EntriesDistinct State.reset ∧ SafeState State.reset
  ∧ InterlockHeld State.reset ∧ SendSequence State.reset

/-- Every step keeps shared memory in its canonical form.
The model's choices it rests on: log entry 3. -/
def Obligations.MemoryCanonicalKept : Prop :=
  ∀ s t : State, MemoryCanonical s → step s = .next t → MemoryCanonical t

/-- R42, R44, R74, R114, R179: every step keeps the window at most 8 entries, the call depth at most 4, the notice queue at most 16,
the wear counts in their ranges, and the entries of the window distinct.
The model's choices it rests on: log entry 30 (the numbers of entries). -/
def Obligations.BoundsKept : Prop :=
  ∀ s t : State, step s = .next t →
    (WindowBounded s → WindowBounded t) ∧ (StackBounded s → StackBounded t) ∧ (QueueBounded s → QueueBounded t)
    ∧ (WearBounded s → WearBounded t) ∧ (EntriesDistinct s → EntriesDistinct t)

/-- R15, R18, R28, R29, R99, R109, R131, R133: every step keeps the machine safe: no per-probe order is outstanding while a STOP is, the
guard reads open or the link is down; no run goes on with the guard open; and the source is on only while the unit measures with the
guard closed, and only while every role probe of the measured entry is LANDED and verified. The send sequence of the link stays that of
the outstanding orders. -/
def Obligations.SafeStateKept : Prop :=
  ∀ s t : State, step s = .next t →
    (SafeState s → SafeState t) ∧ (EntriesDistinct s → InterlockHeld s → InterlockHeld t) ∧ (SendSequence s → SendSequence t)
end

