-- ==== Sys2Proof/Laws/State.lean ====
section
/-! SUPPORT. The fields each update of the state leaves as they were, one lemma per field, so that no later proof unfolds a
record update. -/

namespace Sys2Proof.Machine

open Sys2Proof

@[simp] theorem issue_pending (k : ReqKind) (a : Nat) (b : ReqBody) (s : State) : (issue k a b s).pending = s.pending := rfl
@[simp] theorem issue_mem (k : ReqKind) (a : Nat) (b : ReqBody) (s : State) : (issue k a b s).mem = s.mem := rfl
@[simp] theorem issue_regs (k : ReqKind) (a : Nat) (b : ReqBody) (s : State) : (issue k a b s).regs = s.regs := rfl
@[simp] theorem issue_settings (k : ReqKind) (a : Nat) (b : ReqBody) (s : State) : (issue k a b s).settings = s.settings := rfl
@[simp] theorem issue_corr (k : ReqKind) (a : Nat) (b : ReqBody) (s : State) : (issue k a b s).corr = s.corr := rfl
@[simp] theorem issue_rc (k : ReqKind) (a : Nat) (b : ReqBody) (s : State) : (issue k a b s).rc = s.rc := rfl
@[simp] theorem issue_fetch (k : ReqKind) (a : Nat) (b : ReqBody) (s : State) : (issue k a b s).fetch = s.fetch := rfl
@[simp] theorem issue_window (k : ReqKind) (a : Nat) (b : ReqBody) (s : State) : (issue k a b s).window = s.window := rfl
@[simp] theorem issue_nextUid (k : ReqKind) (a : Nat) (b : ReqBody) (s : State) : (issue k a b s).nextUid = s.nextUid := rfl
@[simp] theorem issue_link (k : ReqKind) (a : Nat) (b : ReqBody) (s : State) : (issue k a b s).link = s.link := rfl
@[simp] theorem issue_checks (k : ReqKind) (a : Nat) (b : ReqBody) (s : State) : (issue k a b s).checks = s.checks := rfl
@[simp] theorem issue_unit (k : ReqKind) (a : Nat) (b : ReqBody) (s : State) : (issue k a b s).unit = s.unit := rfl
@[simp] theorem issue_div (k : ReqKind) (a : Nat) (b : ReqBody) (s : State) : (issue k a b s).div = s.div := rfl
@[simp] theorem issue_log (k : ReqKind) (a : Nat) (b : ReqBody) (s : State) : (issue k a b s).log = s.log := rfl
@[simp] theorem issue_notice (k : ReqKind) (a : Nat) (b : ReqBody) (s : State) : (issue k a b s).notice = s.notice := rfl
@[simp] theorem issue_free (k : ReqKind) (a : Nat) (b : ReqBody) (s : State) : (issue k a b s).free = s.free := rfl
@[simp] theorem dropReqs_pending (k : ReqKind) (s : State) : (dropReqs k s).pending = s.pending := rfl
@[simp] theorem dropReqs_mem (k : ReqKind) (s : State) : (dropReqs k s).mem = s.mem := rfl
@[simp] theorem dropReqs_regs (k : ReqKind) (s : State) : (dropReqs k s).regs = s.regs := rfl
@[simp] theorem dropReqs_settings (k : ReqKind) (s : State) : (dropReqs k s).settings = s.settings := rfl
@[simp] theorem dropReqs_corr (k : ReqKind) (s : State) : (dropReqs k s).corr = s.corr := rfl
@[simp] theorem dropReqs_rc (k : ReqKind) (s : State) : (dropReqs k s).rc = s.rc := rfl
@[simp] theorem dropReqs_fetch (k : ReqKind) (s : State) : (dropReqs k s).fetch = s.fetch := rfl
@[simp] theorem dropReqs_window (k : ReqKind) (s : State) : (dropReqs k s).window = s.window := rfl
@[simp] theorem dropReqs_nextUid (k : ReqKind) (s : State) : (dropReqs k s).nextUid = s.nextUid := rfl
@[simp] theorem dropReqs_link (k : ReqKind) (s : State) : (dropReqs k s).link = s.link := rfl
@[simp] theorem dropReqs_checks (k : ReqKind) (s : State) : (dropReqs k s).checks = s.checks := rfl
@[simp] theorem dropReqs_unit (k : ReqKind) (s : State) : (dropReqs k s).unit = s.unit := rfl
@[simp] theorem dropReqs_div (k : ReqKind) (s : State) : (dropReqs k s).div = s.div := rfl
@[simp] theorem dropReqs_log (k : ReqKind) (s : State) : (dropReqs k s).log = s.log := rfl
@[simp] theorem dropReqs_notice (k : ReqKind) (s : State) : (dropReqs k s).notice = s.notice := rfl
@[simp] theorem dropReqs_free (k : ReqKind) (s : State) : (dropReqs k s).free = s.free := rfl
@[simp] theorem pendMemoryError_pending (s : State) : (pendMemoryError s).pending = s.pending := rfl
@[simp] theorem pendMemoryError_mem (s : State) : (pendMemoryError s).mem = s.mem := rfl
@[simp] theorem pendMemoryError_regs (s : State) : (pendMemoryError s).regs = s.regs := rfl
@[simp] theorem pendMemoryError_settings (s : State) : (pendMemoryError s).settings = s.settings := rfl
@[simp] theorem pendMemoryError_corr (s : State) : (pendMemoryError s).corr = s.corr := rfl
@[simp] theorem pendMemoryError_port (s : State) : (pendMemoryError s).port = s.port := rfl
@[simp] theorem pendMemoryError_rc (s : State) : (pendMemoryError s).rc = s.rc := rfl
@[simp] theorem pendMemoryError_fetch (s : State) : (pendMemoryError s).fetch = s.fetch := rfl
@[simp] theorem pendMemoryError_window (s : State) : (pendMemoryError s).window = s.window := rfl
@[simp] theorem pendMemoryError_nextUid (s : State) : (pendMemoryError s).nextUid = s.nextUid := rfl
@[simp] theorem pendMemoryError_link (s : State) : (pendMemoryError s).link = s.link := rfl
@[simp] theorem pendMemoryError_checks (s : State) : (pendMemoryError s).checks = s.checks := rfl
@[simp] theorem pendMemoryError_unit (s : State) : (pendMemoryError s).unit = s.unit := rfl
@[simp] theorem pendMemoryError_div (s : State) : (pendMemoryError s).div = s.div := rfl
@[simp] theorem pendMemoryError_log (s : State) : (pendMemoryError s).log = s.log := rfl
@[simp] theorem pendMemoryError_free (s : State) : (pendMemoryError s).free = s.free := rfl
@[simp] theorem pendGuard_pending (s : State) : (pendGuard s).pending = s.pending := rfl
@[simp] theorem pendGuard_mem (s : State) : (pendGuard s).mem = s.mem := rfl
@[simp] theorem pendGuard_regs (s : State) : (pendGuard s).regs = s.regs := rfl
@[simp] theorem pendGuard_settings (s : State) : (pendGuard s).settings = s.settings := rfl
@[simp] theorem pendGuard_corr (s : State) : (pendGuard s).corr = s.corr := rfl
@[simp] theorem pendGuard_port (s : State) : (pendGuard s).port = s.port := rfl
@[simp] theorem pendGuard_rc (s : State) : (pendGuard s).rc = s.rc := rfl
@[simp] theorem pendGuard_fetch (s : State) : (pendGuard s).fetch = s.fetch := rfl
@[simp] theorem pendGuard_window (s : State) : (pendGuard s).window = s.window := rfl
@[simp] theorem pendGuard_nextUid (s : State) : (pendGuard s).nextUid = s.nextUid := rfl
@[simp] theorem pendGuard_link (s : State) : (pendGuard s).link = s.link := rfl
@[simp] theorem pendGuard_checks (s : State) : (pendGuard s).checks = s.checks := rfl
@[simp] theorem pendGuard_unit (s : State) : (pendGuard s).unit = s.unit := rfl
@[simp] theorem pendGuard_div (s : State) : (pendGuard s).div = s.div := rfl
@[simp] theorem pendGuard_log (s : State) : (pendGuard s).log = s.log := rfl
@[simp] theorem pendGuard_free (s : State) : (pendGuard s).free = s.free := rfl
@[simp] theorem pendRunEnd_pending (s : State) : (pendRunEnd s).pending = s.pending := rfl
@[simp] theorem pendRunEnd_mem (s : State) : (pendRunEnd s).mem = s.mem := rfl
@[simp] theorem pendRunEnd_regs (s : State) : (pendRunEnd s).regs = s.regs := rfl
@[simp] theorem pendRunEnd_settings (s : State) : (pendRunEnd s).settings = s.settings := rfl
@[simp] theorem pendRunEnd_corr (s : State) : (pendRunEnd s).corr = s.corr := rfl
@[simp] theorem pendRunEnd_port (s : State) : (pendRunEnd s).port = s.port := rfl
@[simp] theorem pendRunEnd_rc (s : State) : (pendRunEnd s).rc = s.rc := rfl
@[simp] theorem pendRunEnd_fetch (s : State) : (pendRunEnd s).fetch = s.fetch := rfl
@[simp] theorem pendRunEnd_window (s : State) : (pendRunEnd s).window = s.window := rfl
@[simp] theorem pendRunEnd_nextUid (s : State) : (pendRunEnd s).nextUid = s.nextUid := rfl
@[simp] theorem pendRunEnd_link (s : State) : (pendRunEnd s).link = s.link := rfl
@[simp] theorem pendRunEnd_checks (s : State) : (pendRunEnd s).checks = s.checks := rfl
@[simp] theorem pendRunEnd_unit (s : State) : (pendRunEnd s).unit = s.unit := rfl
@[simp] theorem pendRunEnd_div (s : State) : (pendRunEnd s).div = s.div := rfl
@[simp] theorem pendRunEnd_log (s : State) : (pendRunEnd s).log = s.log := rfl
@[simp] theorem pendRunEnd_free (s : State) : (pendRunEnd s).free = s.free := rfl
@[simp] theorem pendLogHeld_pending (s : State) : (pendLogHeld s).pending = s.pending := rfl
@[simp] theorem pendLogHeld_mem (s : State) : (pendLogHeld s).mem = s.mem := rfl
@[simp] theorem pendLogHeld_regs (s : State) : (pendLogHeld s).regs = s.regs := rfl
@[simp] theorem pendLogHeld_settings (s : State) : (pendLogHeld s).settings = s.settings := rfl
@[simp] theorem pendLogHeld_corr (s : State) : (pendLogHeld s).corr = s.corr := rfl
@[simp] theorem pendLogHeld_port (s : State) : (pendLogHeld s).port = s.port := rfl
@[simp] theorem pendLogHeld_rc (s : State) : (pendLogHeld s).rc = s.rc := rfl
@[simp] theorem pendLogHeld_fetch (s : State) : (pendLogHeld s).fetch = s.fetch := rfl
@[simp] theorem pendLogHeld_window (s : State) : (pendLogHeld s).window = s.window := rfl
@[simp] theorem pendLogHeld_nextUid (s : State) : (pendLogHeld s).nextUid = s.nextUid := rfl
@[simp] theorem pendLogHeld_link (s : State) : (pendLogHeld s).link = s.link := rfl
@[simp] theorem pendLogHeld_checks (s : State) : (pendLogHeld s).checks = s.checks := rfl
@[simp] theorem pendLogHeld_unit (s : State) : (pendLogHeld s).unit = s.unit := rfl
@[simp] theorem pendLogHeld_div (s : State) : (pendLogHeld s).div = s.div := rfl
@[simp] theorem pendLogHeld_log (s : State) : (pendLogHeld s).log = s.log := rfl
@[simp] theorem pendLogHeld_free (s : State) : (pendLogHeld s).free = s.free := rfl
@[simp] theorem pendNotice_pending (s : State) : (pendNotice s).pending = s.pending := rfl
@[simp] theorem pendNotice_mem (s : State) : (pendNotice s).mem = s.mem := rfl
@[simp] theorem pendNotice_regs (s : State) : (pendNotice s).regs = s.regs := rfl
@[simp] theorem pendNotice_settings (s : State) : (pendNotice s).settings = s.settings := rfl
@[simp] theorem pendNotice_corr (s : State) : (pendNotice s).corr = s.corr := rfl
@[simp] theorem pendNotice_port (s : State) : (pendNotice s).port = s.port := rfl
@[simp] theorem pendNotice_rc (s : State) : (pendNotice s).rc = s.rc := rfl
@[simp] theorem pendNotice_fetch (s : State) : (pendNotice s).fetch = s.fetch := rfl
@[simp] theorem pendNotice_window (s : State) : (pendNotice s).window = s.window := rfl
@[simp] theorem pendNotice_nextUid (s : State) : (pendNotice s).nextUid = s.nextUid := rfl
@[simp] theorem pendNotice_link (s : State) : (pendNotice s).link = s.link := rfl
@[simp] theorem pendNotice_checks (s : State) : (pendNotice s).checks = s.checks := rfl
@[simp] theorem pendNotice_unit (s : State) : (pendNotice s).unit = s.unit := rfl
@[simp] theorem pendNotice_div (s : State) : (pendNotice s).div = s.div := rfl
@[simp] theorem pendNotice_log (s : State) : (pendNotice s).log = s.log := rfl
@[simp] theorem pendNotice_free (s : State) : (pendNotice s).free = s.free := rfl
@[simp] theorem setRefused_pending (s : State) : (setRefused s).pending = s.pending := rfl
@[simp] theorem setRefused_mem (s : State) : (setRefused s).mem = s.mem := rfl
@[simp] theorem setRefused_settings (s : State) : (setRefused s).settings = s.settings := rfl
@[simp] theorem setRefused_corr (s : State) : (setRefused s).corr = s.corr := rfl
@[simp] theorem setRefused_port (s : State) : (setRefused s).port = s.port := rfl
@[simp] theorem setRefused_rc (s : State) : (setRefused s).rc = s.rc := rfl
@[simp] theorem setRefused_fetch (s : State) : (setRefused s).fetch = s.fetch := rfl
@[simp] theorem setRefused_window (s : State) : (setRefused s).window = s.window := rfl
@[simp] theorem setRefused_nextUid (s : State) : (setRefused s).nextUid = s.nextUid := rfl
@[simp] theorem setRefused_link (s : State) : (setRefused s).link = s.link := rfl
@[simp] theorem setRefused_checks (s : State) : (setRefused s).checks = s.checks := rfl
@[simp] theorem setRefused_unit (s : State) : (setRefused s).unit = s.unit := rfl
@[simp] theorem setRefused_div (s : State) : (setRefused s).div = s.div := rfl
@[simp] theorem setRefused_log (s : State) : (setRefused s).log = s.log := rfl
@[simp] theorem setRefused_notice (s : State) : (setRefused s).notice = s.notice := rfl
@[simp] theorem setRefused_free (s : State) : (setRefused s).free = s.free := rfl
@[simp] theorem countStale_pending (s : State) : (countStale s).pending = s.pending := rfl
@[simp] theorem countStale_mem (s : State) : (countStale s).mem = s.mem := rfl
@[simp] theorem countStale_regs (s : State) : (countStale s).regs = s.regs := rfl
@[simp] theorem countStale_settings (s : State) : (countStale s).settings = s.settings := rfl
@[simp] theorem countStale_corr (s : State) : (countStale s).corr = s.corr := rfl
@[simp] theorem countStale_port (s : State) : (countStale s).port = s.port := rfl
@[simp] theorem countStale_fetch (s : State) : (countStale s).fetch = s.fetch := rfl
@[simp] theorem countStale_window (s : State) : (countStale s).window = s.window := rfl
@[simp] theorem countStale_nextUid (s : State) : (countStale s).nextUid = s.nextUid := rfl
@[simp] theorem countStale_link (s : State) : (countStale s).link = s.link := rfl
@[simp] theorem countStale_checks (s : State) : (countStale s).checks = s.checks := rfl
@[simp] theorem countStale_unit (s : State) : (countStale s).unit = s.unit := rfl
@[simp] theorem countStale_div (s : State) : (countStale s).div = s.div := rfl
@[simp] theorem countStale_log (s : State) : (countStale s).log = s.log := rfl
@[simp] theorem countStale_notice (s : State) : (countStale s).notice = s.notice := rfl
@[simp] theorem countStale_free (s : State) : (countStale s).free = s.free := rfl
@[simp] theorem refillNotices_pending (s : State) : (refillNotices s).pending = s.pending := rfl
@[simp] theorem refillNotices_mem (s : State) : (refillNotices s).mem = s.mem := rfl
@[simp] theorem refillNotices_regs (s : State) : (refillNotices s).regs = s.regs := rfl
@[simp] theorem refillNotices_settings (s : State) : (refillNotices s).settings = s.settings := rfl
@[simp] theorem refillNotices_corr (s : State) : (refillNotices s).corr = s.corr := rfl
@[simp] theorem refillNotices_port (s : State) : (refillNotices s).port = s.port := rfl
@[simp] theorem refillNotices_rc (s : State) : (refillNotices s).rc = s.rc := rfl
@[simp] theorem refillNotices_fetch (s : State) : (refillNotices s).fetch = s.fetch := rfl
@[simp] theorem refillNotices_window (s : State) : (refillNotices s).window = s.window := rfl
@[simp] theorem refillNotices_nextUid (s : State) : (refillNotices s).nextUid = s.nextUid := rfl
@[simp] theorem refillNotices_link (s : State) : (refillNotices s).link = s.link := rfl
@[simp] theorem refillNotices_checks (s : State) : (refillNotices s).checks = s.checks := rfl
@[simp] theorem refillNotices_unit (s : State) : (refillNotices s).unit = s.unit := rfl
@[simp] theorem refillNotices_div (s : State) : (refillNotices s).div = s.div := rfl
@[simp] theorem refillNotices_log (s : State) : (refillNotices s).log = s.log := rfl
@[simp] theorem refillNotices_free (s : State) : (refillNotices s).free = s.free := rfl
@[simp] theorem clearNoticeMarks_pending (s : State) : (clearNoticeMarks s).pending = s.pending := rfl
@[simp] theorem clearNoticeMarks_mem (s : State) : (clearNoticeMarks s).mem = s.mem := rfl
@[simp] theorem clearNoticeMarks_regs (s : State) : (clearNoticeMarks s).regs = s.regs := rfl
@[simp] theorem clearNoticeMarks_settings (s : State) : (clearNoticeMarks s).settings = s.settings := rfl
@[simp] theorem clearNoticeMarks_corr (s : State) : (clearNoticeMarks s).corr = s.corr := rfl
@[simp] theorem clearNoticeMarks_port (s : State) : (clearNoticeMarks s).port = s.port := rfl
@[simp] theorem clearNoticeMarks_rc (s : State) : (clearNoticeMarks s).rc = s.rc := rfl
@[simp] theorem clearNoticeMarks_fetch (s : State) : (clearNoticeMarks s).fetch = s.fetch := rfl
@[simp] theorem clearNoticeMarks_window (s : State) : (clearNoticeMarks s).window = s.window := rfl
@[simp] theorem clearNoticeMarks_nextUid (s : State) : (clearNoticeMarks s).nextUid = s.nextUid := rfl
@[simp] theorem clearNoticeMarks_link (s : State) : (clearNoticeMarks s).link = s.link := rfl
@[simp] theorem clearNoticeMarks_checks (s : State) : (clearNoticeMarks s).checks = s.checks := rfl
@[simp] theorem clearNoticeMarks_unit (s : State) : (clearNoticeMarks s).unit = s.unit := rfl
@[simp] theorem clearNoticeMarks_div (s : State) : (clearNoticeMarks s).div = s.div := rfl
@[simp] theorem clearNoticeMarks_log (s : State) : (clearNoticeMarks s).log = s.log := rfl
@[simp] theorem clearNoticeMarks_free (s : State) : (clearNoticeMarks s).free = s.free := rfl
@[simp] theorem ringOutOfForce_pending (s : State) : (ringOutOfForce s).pending = s.pending := rfl
@[simp] theorem ringOutOfForce_mem (s : State) : (ringOutOfForce s).mem = s.mem := rfl
@[simp] theorem ringOutOfForce_regs (s : State) : (ringOutOfForce s).regs = s.regs := rfl
@[simp] theorem ringOutOfForce_settings (s : State) : (ringOutOfForce s).settings = s.settings := rfl
@[simp] theorem ringOutOfForce_corr (s : State) : (ringOutOfForce s).corr = s.corr := rfl
@[simp] theorem ringOutOfForce_rc (s : State) : (ringOutOfForce s).rc = s.rc := rfl
@[simp] theorem ringOutOfForce_fetch (s : State) : (ringOutOfForce s).fetch = s.fetch := rfl
@[simp] theorem ringOutOfForce_window (s : State) : (ringOutOfForce s).window = s.window := rfl
@[simp] theorem ringOutOfForce_nextUid (s : State) : (ringOutOfForce s).nextUid = s.nextUid := rfl
@[simp] theorem ringOutOfForce_link (s : State) : (ringOutOfForce s).link = s.link := rfl
@[simp] theorem ringOutOfForce_checks (s : State) : (ringOutOfForce s).checks = s.checks := rfl
@[simp] theorem ringOutOfForce_unit (s : State) : (ringOutOfForce s).unit = s.unit := rfl
@[simp] theorem ringOutOfForce_div (s : State) : (ringOutOfForce s).div = s.div := rfl
@[simp] theorem ringOutOfForce_log (s : State) : (ringOutOfForce s).log = s.log := rfl
@[simp] theorem ringOutOfForce_free (s : State) : (ringOutOfForce s).free = s.free := rfl
@[simp] theorem setProbe_pending (p : ProbeNo) (r : Probe) (s : State) : (setProbe p r s).pending = s.pending := rfl
@[simp] theorem setProbe_mem (p : ProbeNo) (r : Probe) (s : State) : (setProbe p r s).mem = s.mem := rfl
@[simp] theorem setProbe_regs (p : ProbeNo) (r : Probe) (s : State) : (setProbe p r s).regs = s.regs := rfl
@[simp] theorem setProbe_settings (p : ProbeNo) (r : Probe) (s : State) : (setProbe p r s).settings = s.settings := rfl
@[simp] theorem setProbe_corr (p : ProbeNo) (r : Probe) (s : State) : (setProbe p r s).corr = s.corr := rfl
@[simp] theorem setProbe_port (p : ProbeNo) (r : Probe) (s : State) : (setProbe p r s).port = s.port := rfl
@[simp] theorem setProbe_rc (p : ProbeNo) (r : Probe) (s : State) : (setProbe p r s).rc = s.rc := rfl
@[simp] theorem setProbe_fetch (p : ProbeNo) (r : Probe) (s : State) : (setProbe p r s).fetch = s.fetch := rfl
@[simp] theorem setProbe_window (p : ProbeNo) (r : Probe) (s : State) : (setProbe p r s).window = s.window := rfl
@[simp] theorem setProbe_nextUid (p : ProbeNo) (r : Probe) (s : State) : (setProbe p r s).nextUid = s.nextUid := rfl
@[simp] theorem setProbe_checks (p : ProbeNo) (r : Probe) (s : State) : (setProbe p r s).checks = s.checks := rfl
@[simp] theorem setProbe_unit (p : ProbeNo) (r : Probe) (s : State) : (setProbe p r s).unit = s.unit := rfl
@[simp] theorem setProbe_div (p : ProbeNo) (r : Probe) (s : State) : (setProbe p r s).div = s.div := rfl
@[simp] theorem setProbe_log (p : ProbeNo) (r : Probe) (s : State) : (setProbe p r s).log = s.log := rfl
@[simp] theorem setProbe_notice (p : ProbeNo) (r : Probe) (s : State) : (setProbe p r s).notice = s.notice := rfl
@[simp] theorem setProbe_free (p : ProbeNo) (r : Probe) (s : State) : (setProbe p r s).free = s.free := rfl
@[simp] theorem mapProbes_pending (f : Probe → Probe) (s : State) : (mapProbes f s).pending = s.pending := rfl
@[simp] theorem mapProbes_mem (f : Probe → Probe) (s : State) : (mapProbes f s).mem = s.mem := rfl
@[simp] theorem mapProbes_regs (f : Probe → Probe) (s : State) : (mapProbes f s).regs = s.regs := rfl
@[simp] theorem mapProbes_settings (f : Probe → Probe) (s : State) : (mapProbes f s).settings = s.settings := rfl
@[simp] theorem mapProbes_corr (f : Probe → Probe) (s : State) : (mapProbes f s).corr = s.corr := rfl
@[simp] theorem mapProbes_port (f : Probe → Probe) (s : State) : (mapProbes f s).port = s.port := rfl
@[simp] theorem mapProbes_rc (f : Probe → Probe) (s : State) : (mapProbes f s).rc = s.rc := rfl
@[simp] theorem mapProbes_fetch (f : Probe → Probe) (s : State) : (mapProbes f s).fetch = s.fetch := rfl
@[simp] theorem mapProbes_window (f : Probe → Probe) (s : State) : (mapProbes f s).window = s.window := rfl
@[simp] theorem mapProbes_nextUid (f : Probe → Probe) (s : State) : (mapProbes f s).nextUid = s.nextUid := rfl
@[simp] theorem mapProbes_checks (f : Probe → Probe) (s : State) : (mapProbes f s).checks = s.checks := rfl
@[simp] theorem mapProbes_unit (f : Probe → Probe) (s : State) : (mapProbes f s).unit = s.unit := rfl
@[simp] theorem mapProbes_div (f : Probe → Probe) (s : State) : (mapProbes f s).div = s.div := rfl
@[simp] theorem mapProbes_log (f : Probe → Probe) (s : State) : (mapProbes f s).log = s.log := rfl
@[simp] theorem mapProbes_notice (f : Probe → Probe) (s : State) : (mapProbes f s).notice = s.notice := rfl
@[simp] theorem mapProbes_free (f : Probe → Probe) (s : State) : (mapProbes f s).free = s.free := rfl
@[simp] theorem voidOrders_pending (s : State) : (voidOrders s).pending = s.pending := rfl
@[simp] theorem voidOrders_mem (s : State) : (voidOrders s).mem = s.mem := rfl
@[simp] theorem voidOrders_regs (s : State) : (voidOrders s).regs = s.regs := rfl
@[simp] theorem voidOrders_settings (s : State) : (voidOrders s).settings = s.settings := rfl
@[simp] theorem voidOrders_corr (s : State) : (voidOrders s).corr = s.corr := rfl
@[simp] theorem voidOrders_port (s : State) : (voidOrders s).port = s.port := rfl
@[simp] theorem voidOrders_rc (s : State) : (voidOrders s).rc = s.rc := rfl
@[simp] theorem voidOrders_fetch (s : State) : (voidOrders s).fetch = s.fetch := rfl
@[simp] theorem voidOrders_window (s : State) : (voidOrders s).window = s.window := rfl
@[simp] theorem voidOrders_nextUid (s : State) : (voidOrders s).nextUid = s.nextUid := rfl
@[simp] theorem voidOrders_checks (s : State) : (voidOrders s).checks = s.checks := rfl
@[simp] theorem voidOrders_unit (s : State) : (voidOrders s).unit = s.unit := rfl
@[simp] theorem voidOrders_div (s : State) : (voidOrders s).div = s.div := rfl
@[simp] theorem voidOrders_log (s : State) : (voidOrders s).log = s.log := rfl
@[simp] theorem voidOrders_notice (s : State) : (voidOrders s).notice = s.notice := rfl
@[simp] theorem voidOrders_free (s : State) : (voidOrders s).free = s.free := rfl
@[simp] theorem allUnknown_pending (s : State) : (allUnknown s).pending = s.pending := rfl
@[simp] theorem allUnknown_mem (s : State) : (allUnknown s).mem = s.mem := rfl
@[simp] theorem allUnknown_regs (s : State) : (allUnknown s).regs = s.regs := rfl
@[simp] theorem allUnknown_settings (s : State) : (allUnknown s).settings = s.settings := rfl
@[simp] theorem allUnknown_corr (s : State) : (allUnknown s).corr = s.corr := rfl
@[simp] theorem allUnknown_port (s : State) : (allUnknown s).port = s.port := rfl
@[simp] theorem allUnknown_rc (s : State) : (allUnknown s).rc = s.rc := rfl
@[simp] theorem allUnknown_fetch (s : State) : (allUnknown s).fetch = s.fetch := rfl
@[simp] theorem allUnknown_window (s : State) : (allUnknown s).window = s.window := rfl
@[simp] theorem allUnknown_nextUid (s : State) : (allUnknown s).nextUid = s.nextUid := rfl
@[simp] theorem allUnknown_checks (s : State) : (allUnknown s).checks = s.checks := rfl
@[simp] theorem allUnknown_unit (s : State) : (allUnknown s).unit = s.unit := rfl
@[simp] theorem allUnknown_div (s : State) : (allUnknown s).div = s.div := rfl
@[simp] theorem allUnknown_log (s : State) : (allUnknown s).log = s.log := rfl
@[simp] theorem allUnknown_notice (s : State) : (allUnknown s).notice = s.notice := rfl
@[simp] theorem allUnknown_free (s : State) : (allUnknown s).free = s.free := rfl
@[simp] theorem takeOrder_pending (p : ProbeNo) (o : Order) (s : State) : (takeOrder p o s).pending = s.pending := rfl
@[simp] theorem takeOrder_mem (p : ProbeNo) (o : Order) (s : State) : (takeOrder p o s).mem = s.mem := rfl
@[simp] theorem takeOrder_regs (p : ProbeNo) (o : Order) (s : State) : (takeOrder p o s).regs = s.regs := rfl
@[simp] theorem takeOrder_settings (p : ProbeNo) (o : Order) (s : State) : (takeOrder p o s).settings = s.settings := rfl
@[simp] theorem takeOrder_corr (p : ProbeNo) (o : Order) (s : State) : (takeOrder p o s).corr = s.corr := rfl
@[simp] theorem takeOrder_port (p : ProbeNo) (o : Order) (s : State) : (takeOrder p o s).port = s.port := rfl
@[simp] theorem takeOrder_rc (p : ProbeNo) (o : Order) (s : State) : (takeOrder p o s).rc = s.rc := rfl
@[simp] theorem takeOrder_fetch (p : ProbeNo) (o : Order) (s : State) : (takeOrder p o s).fetch = s.fetch := rfl
@[simp] theorem takeOrder_window (p : ProbeNo) (o : Order) (s : State) : (takeOrder p o s).window = s.window := rfl
@[simp] theorem takeOrder_nextUid (p : ProbeNo) (o : Order) (s : State) : (takeOrder p o s).nextUid = s.nextUid := rfl
@[simp] theorem takeOrder_checks (p : ProbeNo) (o : Order) (s : State) : (takeOrder p o s).checks = s.checks := rfl
@[simp] theorem takeOrder_unit (p : ProbeNo) (o : Order) (s : State) : (takeOrder p o s).unit = s.unit := rfl
@[simp] theorem takeOrder_div (p : ProbeNo) (o : Order) (s : State) : (takeOrder p o s).div = s.div := rfl
@[simp] theorem takeOrder_log (p : ProbeNo) (o : Order) (s : State) : (takeOrder p o s).log = s.log := rfl
@[simp] theorem takeOrder_notice (p : ProbeNo) (o : Order) (s : State) : (takeOrder p o s).notice = s.notice := rfl
@[simp] theorem takeOrder_free (p : ProbeNo) (o : Order) (s : State) : (takeOrder p o s).free = s.free := rfl
@[simp] theorem endOrder_pending (p : ProbeNo) (r : Probe) (s : State) : (endOrder p r s).pending = s.pending := rfl
@[simp] theorem endOrder_mem (p : ProbeNo) (r : Probe) (s : State) : (endOrder p r s).mem = s.mem := rfl
@[simp] theorem endOrder_regs (p : ProbeNo) (r : Probe) (s : State) : (endOrder p r s).regs = s.regs := rfl
@[simp] theorem endOrder_settings (p : ProbeNo) (r : Probe) (s : State) : (endOrder p r s).settings = s.settings := rfl
@[simp] theorem endOrder_corr (p : ProbeNo) (r : Probe) (s : State) : (endOrder p r s).corr = s.corr := rfl
@[simp] theorem endOrder_port (p : ProbeNo) (r : Probe) (s : State) : (endOrder p r s).port = s.port := rfl
@[simp] theorem endOrder_rc (p : ProbeNo) (r : Probe) (s : State) : (endOrder p r s).rc = s.rc := rfl
@[simp] theorem endOrder_fetch (p : ProbeNo) (r : Probe) (s : State) : (endOrder p r s).fetch = s.fetch := rfl
@[simp] theorem endOrder_window (p : ProbeNo) (r : Probe) (s : State) : (endOrder p r s).window = s.window := rfl
@[simp] theorem endOrder_nextUid (p : ProbeNo) (r : Probe) (s : State) : (endOrder p r s).nextUid = s.nextUid := rfl
@[simp] theorem endOrder_checks (p : ProbeNo) (r : Probe) (s : State) : (endOrder p r s).checks = s.checks := rfl
@[simp] theorem endOrder_unit (p : ProbeNo) (r : Probe) (s : State) : (endOrder p r s).unit = s.unit := rfl
@[simp] theorem endOrder_div (p : ProbeNo) (r : Probe) (s : State) : (endOrder p r s).div = s.div := rfl
@[simp] theorem endOrder_log (p : ProbeNo) (r : Probe) (s : State) : (endOrder p r s).log = s.log := rfl
@[simp] theorem endOrder_notice (p : ProbeNo) (r : Probe) (s : State) : (endOrder p r s).notice = s.notice := rfl
@[simp] theorem endOrder_free (p : ProbeNo) (r : Probe) (s : State) : (endOrder p r s).free = s.free := rfl
@[simp] theorem loadWear_pending (ws : List Word) (s : State) : (loadWear ws s).pending = s.pending := rfl
@[simp] theorem loadWear_mem (ws : List Word) (s : State) : (loadWear ws s).mem = s.mem := rfl
@[simp] theorem loadWear_regs (ws : List Word) (s : State) : (loadWear ws s).regs = s.regs := rfl
@[simp] theorem loadWear_settings (ws : List Word) (s : State) : (loadWear ws s).settings = s.settings := rfl
@[simp] theorem loadWear_corr (ws : List Word) (s : State) : (loadWear ws s).corr = s.corr := rfl
@[simp] theorem loadWear_port (ws : List Word) (s : State) : (loadWear ws s).port = s.port := rfl
@[simp] theorem loadWear_rc (ws : List Word) (s : State) : (loadWear ws s).rc = s.rc := rfl
@[simp] theorem loadWear_fetch (ws : List Word) (s : State) : (loadWear ws s).fetch = s.fetch := rfl
@[simp] theorem loadWear_window (ws : List Word) (s : State) : (loadWear ws s).window = s.window := rfl
@[simp] theorem loadWear_nextUid (ws : List Word) (s : State) : (loadWear ws s).nextUid = s.nextUid := rfl
@[simp] theorem loadWear_checks (ws : List Word) (s : State) : (loadWear ws s).checks = s.checks := rfl
@[simp] theorem loadWear_unit (ws : List Word) (s : State) : (loadWear ws s).unit = s.unit := rfl
@[simp] theorem loadWear_div (ws : List Word) (s : State) : (loadWear ws s).div = s.div := rfl
@[simp] theorem loadWear_log (ws : List Word) (s : State) : (loadWear ws s).log = s.log := rfl
@[simp] theorem loadWear_notice (ws : List Word) (s : State) : (loadWear ws s).notice = s.notice := rfl
@[simp] theorem loadWear_free (ws : List Word) (s : State) : (loadWear ws s).free = s.free := rfl
@[simp] theorem updateEntry_pending (u : Nat) (f : Entry → Entry) (s : State) : (updateEntry u f s).pending = s.pending := rfl
@[simp] theorem updateEntry_mem (u : Nat) (f : Entry → Entry) (s : State) : (updateEntry u f s).mem = s.mem := rfl
@[simp] theorem updateEntry_regs (u : Nat) (f : Entry → Entry) (s : State) : (updateEntry u f s).regs = s.regs := rfl
@[simp] theorem updateEntry_settings (u : Nat) (f : Entry → Entry) (s : State) : (updateEntry u f s).settings = s.settings := rfl
@[simp] theorem updateEntry_corr (u : Nat) (f : Entry → Entry) (s : State) : (updateEntry u f s).corr = s.corr := rfl
@[simp] theorem updateEntry_port (u : Nat) (f : Entry → Entry) (s : State) : (updateEntry u f s).port = s.port := rfl
@[simp] theorem updateEntry_rc (u : Nat) (f : Entry → Entry) (s : State) : (updateEntry u f s).rc = s.rc := rfl
@[simp] theorem updateEntry_fetch (u : Nat) (f : Entry → Entry) (s : State) : (updateEntry u f s).fetch = s.fetch := rfl
@[simp] theorem updateEntry_nextUid (u : Nat) (f : Entry → Entry) (s : State) : (updateEntry u f s).nextUid = s.nextUid := rfl
@[simp] theorem updateEntry_link (u : Nat) (f : Entry → Entry) (s : State) : (updateEntry u f s).link = s.link := rfl
@[simp] theorem updateEntry_checks (u : Nat) (f : Entry → Entry) (s : State) : (updateEntry u f s).checks = s.checks := rfl
@[simp] theorem updateEntry_unit (u : Nat) (f : Entry → Entry) (s : State) : (updateEntry u f s).unit = s.unit := rfl
@[simp] theorem updateEntry_div (u : Nat) (f : Entry → Entry) (s : State) : (updateEntry u f s).div = s.div := rfl
@[simp] theorem updateEntry_log (u : Nat) (f : Entry → Entry) (s : State) : (updateEntry u f s).log = s.log := rfl
@[simp] theorem updateEntry_notice (u : Nat) (f : Entry → Entry) (s : State) : (updateEntry u f s).notice = s.notice := rfl
@[simp] theorem updateEntry_free (u : Nat) (f : Entry → Entry) (s : State) : (updateEntry u f s).free = s.free := rfl
@[simp] theorem takeBack_pending (s : State) : (takeBack s).pending = s.pending := rfl
@[simp] theorem takeBack_mem (s : State) : (takeBack s).mem = s.mem := rfl
@[simp] theorem takeBack_regs (s : State) : (takeBack s).regs = s.regs := rfl
@[simp] theorem takeBack_settings (s : State) : (takeBack s).settings = s.settings := rfl
@[simp] theorem takeBack_corr (s : State) : (takeBack s).corr = s.corr := rfl
@[simp] theorem takeBack_port (s : State) : (takeBack s).port = s.port := rfl
@[simp] theorem takeBack_rc (s : State) : (takeBack s).rc = s.rc := rfl
@[simp] theorem takeBack_fetch (s : State) : (takeBack s).fetch = s.fetch := rfl
@[simp] theorem takeBack_nextUid (s : State) : (takeBack s).nextUid = s.nextUid := rfl
@[simp] theorem takeBack_link (s : State) : (takeBack s).link = s.link := rfl
@[simp] theorem takeBack_checks (s : State) : (takeBack s).checks = s.checks := rfl
@[simp] theorem takeBack_unit (s : State) : (takeBack s).unit = s.unit := rfl
@[simp] theorem takeBack_div (s : State) : (takeBack s).div = s.div := rfl
@[simp] theorem takeBack_log (s : State) : (takeBack s).log = s.log := rfl
@[simp] theorem takeBack_notice (s : State) : (takeBack s).notice = s.notice := rfl
@[simp] theorem takeBack_free (s : State) : (takeBack s).free = s.free := rfl
@[simp] theorem startDeferred_pending (s : State) : (startDeferred s).pending = s.pending := rfl
@[simp] theorem startDeferred_mem (s : State) : (startDeferred s).mem = s.mem := rfl
@[simp] theorem startDeferred_regs (s : State) : (startDeferred s).regs = s.regs := rfl
@[simp] theorem startDeferred_settings (s : State) : (startDeferred s).settings = s.settings := rfl
@[simp] theorem startDeferred_corr (s : State) : (startDeferred s).corr = s.corr := rfl
@[simp] theorem startDeferred_port (s : State) : (startDeferred s).port = s.port := rfl
@[simp] theorem startDeferred_rc (s : State) : (startDeferred s).rc = s.rc := rfl
@[simp] theorem startDeferred_fetch (s : State) : (startDeferred s).fetch = s.fetch := rfl
@[simp] theorem startDeferred_window (s : State) : (startDeferred s).window = s.window := rfl
@[simp] theorem startDeferred_nextUid (s : State) : (startDeferred s).nextUid = s.nextUid := rfl
@[simp] theorem startDeferred_link (s : State) : (startDeferred s).link = s.link := rfl
@[simp] theorem startDeferred_unit (s : State) : (startDeferred s).unit = s.unit := rfl
@[simp] theorem startDeferred_div (s : State) : (startDeferred s).div = s.div := rfl
@[simp] theorem startDeferred_log (s : State) : (startDeferred s).log = s.log := rfl
@[simp] theorem startDeferred_notice (s : State) : (startDeferred s).notice = s.notice := rfl
@[simp] theorem startDeferred_free (s : State) : (startDeferred s).free = s.free := rfl
@[simp] theorem requestCheck_pending (p : ProbeNo) (c : CheckRec) (s : State) : (requestCheck p c s).pending = s.pending := rfl
@[simp] theorem requestCheck_mem (p : ProbeNo) (c : CheckRec) (s : State) : (requestCheck p c s).mem = s.mem := rfl
@[simp] theorem requestCheck_regs (p : ProbeNo) (c : CheckRec) (s : State) : (requestCheck p c s).regs = s.regs := rfl
@[simp] theorem requestCheck_settings (p : ProbeNo) (c : CheckRec) (s : State) : (requestCheck p c s).settings = s.settings := rfl
@[simp] theorem requestCheck_corr (p : ProbeNo) (c : CheckRec) (s : State) : (requestCheck p c s).corr = s.corr := rfl
@[simp] theorem requestCheck_port (p : ProbeNo) (c : CheckRec) (s : State) : (requestCheck p c s).port = s.port := rfl
@[simp] theorem requestCheck_rc (p : ProbeNo) (c : CheckRec) (s : State) : (requestCheck p c s).rc = s.rc := rfl
@[simp] theorem requestCheck_fetch (p : ProbeNo) (c : CheckRec) (s : State) : (requestCheck p c s).fetch = s.fetch := rfl
@[simp] theorem requestCheck_window (p : ProbeNo) (c : CheckRec) (s : State) : (requestCheck p c s).window = s.window := rfl
@[simp] theorem requestCheck_nextUid (p : ProbeNo) (c : CheckRec) (s : State) : (requestCheck p c s).nextUid = s.nextUid := rfl
@[simp] theorem requestCheck_link (p : ProbeNo) (c : CheckRec) (s : State) : (requestCheck p c s).link = s.link := rfl
@[simp] theorem requestCheck_unit (p : ProbeNo) (c : CheckRec) (s : State) : (requestCheck p c s).unit = s.unit := rfl
@[simp] theorem requestCheck_div (p : ProbeNo) (c : CheckRec) (s : State) : (requestCheck p c s).div = s.div := rfl
@[simp] theorem requestCheck_log (p : ProbeNo) (c : CheckRec) (s : State) : (requestCheck p c s).log = s.log := rfl
@[simp] theorem requestCheck_notice (p : ProbeNo) (c : CheckRec) (s : State) : (requestCheck p c s).notice = s.notice := rfl
@[simp] theorem requestCheck_free (p : ProbeNo) (c : CheckRec) (s : State) : (requestCheck p c s).free = s.free := rfl
@[simp] theorem discardTxn_pending (s : State) : (discardTxn s).pending = s.pending := rfl
@[simp] theorem discardTxn_mem (s : State) : (discardTxn s).mem = s.mem := rfl
@[simp] theorem discardTxn_regs (s : State) : (discardTxn s).regs = s.regs := rfl
@[simp] theorem discardTxn_settings (s : State) : (discardTxn s).settings = s.settings := rfl
@[simp] theorem discardTxn_corr (s : State) : (discardTxn s).corr = s.corr := rfl
@[simp] theorem discardTxn_rc (s : State) : (discardTxn s).rc = s.rc := rfl
@[simp] theorem discardTxn_window (s : State) : (discardTxn s).window = s.window := rfl
@[simp] theorem discardTxn_nextUid (s : State) : (discardTxn s).nextUid = s.nextUid := rfl
@[simp] theorem discardTxn_link (s : State) : (discardTxn s).link = s.link := rfl
@[simp] theorem discardTxn_checks (s : State) : (discardTxn s).checks = s.checks := rfl
@[simp] theorem discardTxn_unit (s : State) : (discardTxn s).unit = s.unit := rfl
@[simp] theorem discardTxn_div (s : State) : (discardTxn s).div = s.div := rfl
@[simp] theorem discardTxn_log (s : State) : (discardTxn s).log = s.log := rfl
@[simp] theorem discardTxn_notice (s : State) : (discardTxn s).notice = s.notice := rfl
@[simp] theorem discardTxn_free (s : State) : (discardTxn s).free = s.free := rfl
@[simp] theorem stopFetcher_pending (s : State) : (stopFetcher s).pending = s.pending := rfl
@[simp] theorem stopFetcher_mem (s : State) : (stopFetcher s).mem = s.mem := rfl
@[simp] theorem stopFetcher_regs (s : State) : (stopFetcher s).regs = s.regs := rfl
@[simp] theorem stopFetcher_settings (s : State) : (stopFetcher s).settings = s.settings := rfl
@[simp] theorem stopFetcher_corr (s : State) : (stopFetcher s).corr = s.corr := rfl
@[simp] theorem stopFetcher_rc (s : State) : (stopFetcher s).rc = s.rc := rfl
@[simp] theorem stopFetcher_window (s : State) : (stopFetcher s).window = s.window := rfl
@[simp] theorem stopFetcher_nextUid (s : State) : (stopFetcher s).nextUid = s.nextUid := rfl
@[simp] theorem stopFetcher_link (s : State) : (stopFetcher s).link = s.link := rfl
@[simp] theorem stopFetcher_checks (s : State) : (stopFetcher s).checks = s.checks := rfl
@[simp] theorem stopFetcher_unit (s : State) : (stopFetcher s).unit = s.unit := rfl
@[simp] theorem stopFetcher_div (s : State) : (stopFetcher s).div = s.div := rfl
@[simp] theorem stopFetcher_log (s : State) : (stopFetcher s).log = s.log := rfl
@[simp] theorem stopFetcher_notice (s : State) : (stopFetcher s).notice = s.notice := rfl
@[simp] theorem stopFetcher_free (s : State) : (stopFetcher s).free = s.free := rfl
@[simp] theorem startList_pending (off : Nat) (s : State) : (startList off s).pending = s.pending := rfl
@[simp] theorem startList_mem (off : Nat) (s : State) : (startList off s).mem = s.mem := rfl
@[simp] theorem startList_regs (off : Nat) (s : State) : (startList off s).regs = s.regs := rfl
@[simp] theorem startList_settings (off : Nat) (s : State) : (startList off s).settings = s.settings := rfl
@[simp] theorem startList_corr (off : Nat) (s : State) : (startList off s).corr = s.corr := rfl
@[simp] theorem startList_rc (off : Nat) (s : State) : (startList off s).rc = s.rc := rfl
@[simp] theorem startList_window (off : Nat) (s : State) : (startList off s).window = s.window := rfl
@[simp] theorem startList_nextUid (off : Nat) (s : State) : (startList off s).nextUid = s.nextUid := rfl
@[simp] theorem startList_link (off : Nat) (s : State) : (startList off s).link = s.link := rfl
@[simp] theorem startList_checks (off : Nat) (s : State) : (startList off s).checks = s.checks := rfl
@[simp] theorem startList_unit (off : Nat) (s : State) : (startList off s).unit = s.unit := rfl
@[simp] theorem startList_div (off : Nat) (s : State) : (startList off s).div = s.div := rfl
@[simp] theorem startList_log (off : Nat) (s : State) : (startList off s).log = s.log := rfl
@[simp] theorem startList_notice (off : Nat) (s : State) : (startList off s).notice = s.notice := rfl
@[simp] theorem startList_free (off : Nat) (s : State) : (startList off s).free = s.free := rfl
@[simp] theorem nextIndex_pending (s : State) : (nextIndex s).pending = s.pending := rfl
@[simp] theorem nextIndex_mem (s : State) : (nextIndex s).mem = s.mem := rfl
@[simp] theorem nextIndex_regs (s : State) : (nextIndex s).regs = s.regs := rfl
@[simp] theorem nextIndex_settings (s : State) : (nextIndex s).settings = s.settings := rfl
@[simp] theorem nextIndex_corr (s : State) : (nextIndex s).corr = s.corr := rfl
@[simp] theorem nextIndex_port (s : State) : (nextIndex s).port = s.port := rfl
@[simp] theorem nextIndex_rc (s : State) : (nextIndex s).rc = s.rc := rfl
@[simp] theorem nextIndex_window (s : State) : (nextIndex s).window = s.window := rfl
@[simp] theorem nextIndex_nextUid (s : State) : (nextIndex s).nextUid = s.nextUid := rfl
@[simp] theorem nextIndex_link (s : State) : (nextIndex s).link = s.link := rfl
@[simp] theorem nextIndex_checks (s : State) : (nextIndex s).checks = s.checks := rfl
@[simp] theorem nextIndex_unit (s : State) : (nextIndex s).unit = s.unit := rfl
@[simp] theorem nextIndex_div (s : State) : (nextIndex s).div = s.div := rfl
@[simp] theorem nextIndex_log (s : State) : (nextIndex s).log = s.log := rfl
@[simp] theorem nextIndex_notice (s : State) : (nextIndex s).notice = s.notice := rfl
@[simp] theorem nextIndex_free (s : State) : (nextIndex s).free = s.free := rfl
@[simp] theorem placeEntry_pending (e : Entry) (s : State) : (placeEntry e s).pending = s.pending := rfl
@[simp] theorem placeEntry_mem (e : Entry) (s : State) : (placeEntry e s).mem = s.mem := rfl
@[simp] theorem placeEntry_regs (e : Entry) (s : State) : (placeEntry e s).regs = s.regs := rfl
@[simp] theorem placeEntry_settings (e : Entry) (s : State) : (placeEntry e s).settings = s.settings := rfl
@[simp] theorem placeEntry_corr (e : Entry) (s : State) : (placeEntry e s).corr = s.corr := rfl
@[simp] theorem placeEntry_port (e : Entry) (s : State) : (placeEntry e s).port = s.port := rfl
@[simp] theorem placeEntry_rc (e : Entry) (s : State) : (placeEntry e s).rc = s.rc := rfl
@[simp] theorem placeEntry_link (e : Entry) (s : State) : (placeEntry e s).link = s.link := rfl
@[simp] theorem placeEntry_checks (e : Entry) (s : State) : (placeEntry e s).checks = s.checks := rfl
@[simp] theorem placeEntry_unit (e : Entry) (s : State) : (placeEntry e s).unit = s.unit := rfl
@[simp] theorem placeEntry_div (e : Entry) (s : State) : (placeEntry e s).div = s.div := rfl
@[simp] theorem placeEntry_log (e : Entry) (s : State) : (placeEntry e s).log = s.log := rfl
@[simp] theorem placeEntry_notice (e : Entry) (s : State) : (placeEntry e s).notice = s.notice := rfl
@[simp] theorem placeEntry_free (e : Entry) (s : State) : (placeEntry e s).free = s.free := rfl
@[simp] theorem hold_pending (h : HeldEntry) (s : State) : (hold h s).pending = s.pending := rfl
@[simp] theorem hold_mem (h : HeldEntry) (s : State) : (hold h s).mem = s.mem := rfl
@[simp] theorem hold_regs (h : HeldEntry) (s : State) : (hold h s).regs = s.regs := rfl
@[simp] theorem hold_settings (h : HeldEntry) (s : State) : (hold h s).settings = s.settings := rfl
@[simp] theorem hold_corr (h : HeldEntry) (s : State) : (hold h s).corr = s.corr := rfl
@[simp] theorem hold_port (h : HeldEntry) (s : State) : (hold h s).port = s.port := rfl
@[simp] theorem hold_rc (h : HeldEntry) (s : State) : (hold h s).rc = s.rc := rfl
@[simp] theorem hold_window (h : HeldEntry) (s : State) : (hold h s).window = s.window := rfl
@[simp] theorem hold_nextUid (h : HeldEntry) (s : State) : (hold h s).nextUid = s.nextUid := rfl
@[simp] theorem hold_link (h : HeldEntry) (s : State) : (hold h s).link = s.link := rfl
@[simp] theorem hold_checks (h : HeldEntry) (s : State) : (hold h s).checks = s.checks := rfl
@[simp] theorem hold_unit (h : HeldEntry) (s : State) : (hold h s).unit = s.unit := rfl
@[simp] theorem hold_div (h : HeldEntry) (s : State) : (hold h s).div = s.div := rfl
@[simp] theorem hold_log (h : HeldEntry) (s : State) : (hold h s).log = s.log := rfl
@[simp] theorem hold_notice (h : HeldEntry) (s : State) : (hold h s).notice = s.notice := rfl
@[simp] theorem hold_free (h : HeldEntry) (s : State) : (hold h s).free = s.free := rfl
@[simp] theorem rewindRecovery_pending (l b : Nat) (p : Snapshot) (s : State) : (rewindRecovery l b p s).pending = s.pending := rfl
@[simp] theorem rewindRecovery_mem (l b : Nat) (p : Snapshot) (s : State) : (rewindRecovery l b p s).mem = s.mem := rfl
@[simp] theorem rewindRecovery_regs (l b : Nat) (p : Snapshot) (s : State) : (rewindRecovery l b p s).regs = s.regs := rfl
@[simp] theorem rewindRecovery_settings (l b : Nat) (p : Snapshot) (s : State) : (rewindRecovery l b p s).settings = s.settings := rfl
@[simp] theorem rewindRecovery_corr (l b : Nat) (p : Snapshot) (s : State) : (rewindRecovery l b p s).corr = s.corr := rfl
@[simp] theorem rewindRecovery_rc (l b : Nat) (p : Snapshot) (s : State) : (rewindRecovery l b p s).rc = s.rc := rfl
@[simp] theorem rewindRecovery_window (l b : Nat) (p : Snapshot) (s : State) : (rewindRecovery l b p s).window = s.window := rfl
@[simp] theorem rewindRecovery_nextUid (l b : Nat) (p : Snapshot) (s : State) : (rewindRecovery l b p s).nextUid = s.nextUid := rfl
@[simp] theorem rewindRecovery_link (l b : Nat) (p : Snapshot) (s : State) : (rewindRecovery l b p s).link = s.link := rfl
@[simp] theorem rewindRecovery_checks (l b : Nat) (p : Snapshot) (s : State) : (rewindRecovery l b p s).checks = s.checks := rfl
@[simp] theorem rewindRecovery_unit (l b : Nat) (p : Snapshot) (s : State) : (rewindRecovery l b p s).unit = s.unit := rfl
@[simp] theorem rewindRecovery_div (l b : Nat) (p : Snapshot) (s : State) : (rewindRecovery l b p s).div = s.div := rfl
@[simp] theorem rewindRecovery_log (l b : Nat) (p : Snapshot) (s : State) : (rewindRecovery l b p s).log = s.log := rfl
@[simp] theorem rewindRecovery_notice (l b : Nat) (p : Snapshot) (s : State) : (rewindRecovery l b p s).notice = s.notice := rfl
@[simp] theorem rewindRecovery_free (l b : Nat) (p : Snapshot) (s : State) : (rewindRecovery l b p s).free = s.free := rfl
@[simp] theorem rewindReturn_pending (a : Bool) (b : Nat) (p : Snapshot) (s : State) : (rewindReturn a b p s).pending = s.pending := rfl
@[simp] theorem rewindReturn_mem (a : Bool) (b : Nat) (p : Snapshot) (s : State) : (rewindReturn a b p s).mem = s.mem := rfl
@[simp] theorem rewindReturn_regs (a : Bool) (b : Nat) (p : Snapshot) (s : State) : (rewindReturn a b p s).regs = s.regs := rfl
@[simp] theorem rewindReturn_settings (a : Bool) (b : Nat) (p : Snapshot) (s : State) : (rewindReturn a b p s).settings = s.settings := rfl
@[simp] theorem rewindReturn_corr (a : Bool) (b : Nat) (p : Snapshot) (s : State) : (rewindReturn a b p s).corr = s.corr := rfl
@[simp] theorem rewindReturn_rc (a : Bool) (b : Nat) (p : Snapshot) (s : State) : (rewindReturn a b p s).rc = s.rc := rfl
@[simp] theorem rewindReturn_window (a : Bool) (b : Nat) (p : Snapshot) (s : State) : (rewindReturn a b p s).window = s.window := rfl
@[simp] theorem rewindReturn_nextUid (a : Bool) (b : Nat) (p : Snapshot) (s : State) : (rewindReturn a b p s).nextUid = s.nextUid := rfl
@[simp] theorem rewindReturn_link (a : Bool) (b : Nat) (p : Snapshot) (s : State) : (rewindReturn a b p s).link = s.link := rfl
@[simp] theorem rewindReturn_checks (a : Bool) (b : Nat) (p : Snapshot) (s : State) : (rewindReturn a b p s).checks = s.checks := rfl
@[simp] theorem rewindReturn_unit (a : Bool) (b : Nat) (p : Snapshot) (s : State) : (rewindReturn a b p s).unit = s.unit := rfl
@[simp] theorem rewindReturn_div (a : Bool) (b : Nat) (p : Snapshot) (s : State) : (rewindReturn a b p s).div = s.div := rfl
@[simp] theorem rewindReturn_log (a : Bool) (b : Nat) (p : Snapshot) (s : State) : (rewindReturn a b p s).log = s.log := rfl
@[simp] theorem rewindReturn_notice (a : Bool) (b : Nat) (p : Snapshot) (s : State) : (rewindReturn a b p s).notice = s.notice := rfl
@[simp] theorem rewindReturn_free (a : Bool) (b : Nat) (p : Snapshot) (s : State) : (rewindReturn a b p s).free = s.free := rfl
@[simp] theorem endHold_pending (s : State) : (endHold s).pending = s.pending := rfl
@[simp] theorem endHold_mem (s : State) : (endHold s).mem = s.mem := rfl
@[simp] theorem endHold_regs (s : State) : (endHold s).regs = s.regs := rfl
@[simp] theorem endHold_settings (s : State) : (endHold s).settings = s.settings := rfl
@[simp] theorem endHold_corr (s : State) : (endHold s).corr = s.corr := rfl
@[simp] theorem endHold_port (s : State) : (endHold s).port = s.port := rfl
@[simp] theorem endHold_rc (s : State) : (endHold s).rc = s.rc := rfl
@[simp] theorem endHold_fetch (s : State) : (endHold s).fetch = s.fetch := rfl
@[simp] theorem endHold_window (s : State) : (endHold s).window = s.window := rfl
@[simp] theorem endHold_nextUid (s : State) : (endHold s).nextUid = s.nextUid := rfl
@[simp] theorem endHold_link (s : State) : (endHold s).link = s.link := rfl
@[simp] theorem endHold_checks (s : State) : (endHold s).checks = s.checks := rfl
@[simp] theorem endHold_unit (s : State) : (endHold s).unit = s.unit := rfl
@[simp] theorem endHold_div (s : State) : (endHold s).div = s.div := rfl
@[simp] theorem endHold_notice (s : State) : (endHold s).notice = s.notice := rfl
@[simp] theorem endHold_free (s : State) : (endHold s).free = s.free := rfl
@[simp] theorem dropRunReqs_pending (s : State) : (dropRunReqs s).pending = s.pending := rfl
@[simp] theorem dropRunReqs_mem (s : State) : (dropRunReqs s).mem = s.mem := rfl
@[simp] theorem dropRunReqs_regs (s : State) : (dropRunReqs s).regs = s.regs := rfl
@[simp] theorem dropRunReqs_settings (s : State) : (dropRunReqs s).settings = s.settings := rfl
@[simp] theorem dropRunReqs_corr (s : State) : (dropRunReqs s).corr = s.corr := rfl
@[simp] theorem dropRunReqs_rc (s : State) : (dropRunReqs s).rc = s.rc := rfl
@[simp] theorem dropRunReqs_fetch (s : State) : (dropRunReqs s).fetch = s.fetch := rfl
@[simp] theorem dropRunReqs_window (s : State) : (dropRunReqs s).window = s.window := rfl
@[simp] theorem dropRunReqs_nextUid (s : State) : (dropRunReqs s).nextUid = s.nextUid := rfl
@[simp] theorem dropRunReqs_link (s : State) : (dropRunReqs s).link = s.link := rfl
@[simp] theorem dropRunReqs_checks (s : State) : (dropRunReqs s).checks = s.checks := rfl
@[simp] theorem dropRunReqs_unit (s : State) : (dropRunReqs s).unit = s.unit := rfl
@[simp] theorem dropRunReqs_div (s : State) : (dropRunReqs s).div = s.div := rfl
@[simp] theorem dropRunReqs_log (s : State) : (dropRunReqs s).log = s.log := rfl
@[simp] theorem dropRunReqs_notice (s : State) : (dropRunReqs s).notice = s.notice := rfl
@[simp] theorem dropRunReqs_free (s : State) : (dropRunReqs s).free = s.free := rfl
@[simp] theorem setParkMark_pending (p : ProbeNo) (m : ParkMark) (s : State) : (setParkMark p m s).pending = s.pending := rfl
@[simp] theorem setParkMark_mem (p : ProbeNo) (m : ParkMark) (s : State) : (setParkMark p m s).mem = s.mem := rfl
@[simp] theorem setParkMark_regs (p : ProbeNo) (m : ParkMark) (s : State) : (setParkMark p m s).regs = s.regs := rfl
@[simp] theorem setParkMark_settings (p : ProbeNo) (m : ParkMark) (s : State) : (setParkMark p m s).settings = s.settings := rfl
@[simp] theorem setParkMark_corr (p : ProbeNo) (m : ParkMark) (s : State) : (setParkMark p m s).corr = s.corr := rfl
@[simp] theorem setParkMark_port (p : ProbeNo) (m : ParkMark) (s : State) : (setParkMark p m s).port = s.port := rfl
@[simp] theorem setParkMark_fetch (p : ProbeNo) (m : ParkMark) (s : State) : (setParkMark p m s).fetch = s.fetch := rfl
@[simp] theorem setParkMark_window (p : ProbeNo) (m : ParkMark) (s : State) : (setParkMark p m s).window = s.window := rfl
@[simp] theorem setParkMark_nextUid (p : ProbeNo) (m : ParkMark) (s : State) : (setParkMark p m s).nextUid = s.nextUid := rfl
@[simp] theorem setParkMark_link (p : ProbeNo) (m : ParkMark) (s : State) : (setParkMark p m s).link = s.link := rfl
@[simp] theorem setParkMark_checks (p : ProbeNo) (m : ParkMark) (s : State) : (setParkMark p m s).checks = s.checks := rfl
@[simp] theorem setParkMark_unit (p : ProbeNo) (m : ParkMark) (s : State) : (setParkMark p m s).unit = s.unit := rfl
@[simp] theorem setParkMark_div (p : ProbeNo) (m : ParkMark) (s : State) : (setParkMark p m s).div = s.div := rfl
@[simp] theorem setParkMark_log (p : ProbeNo) (m : ParkMark) (s : State) : (setParkMark p m s).log = s.log := rfl
@[simp] theorem setParkMark_notice (p : ProbeNo) (m : ParkMark) (s : State) : (setParkMark p m s).notice = s.notice := rfl
@[simp] theorem setParkMark_free (p : ProbeNo) (m : ParkMark) (s : State) : (setParkMark p m s).free = s.free := rfl
@[simp] theorem readRelease_pending (s : State) : (readRelease s).pending = s.pending := rfl
@[simp] theorem readRelease_mem (s : State) : (readRelease s).mem = s.mem := rfl
@[simp] theorem readRelease_regs (s : State) : (readRelease s).regs = s.regs := rfl
@[simp] theorem readRelease_settings (s : State) : (readRelease s).settings = s.settings := rfl
@[simp] theorem readRelease_corr (s : State) : (readRelease s).corr = s.corr := rfl
@[simp] theorem readRelease_rc (s : State) : (readRelease s).rc = s.rc := rfl
@[simp] theorem readRelease_fetch (s : State) : (readRelease s).fetch = s.fetch := rfl
@[simp] theorem readRelease_window (s : State) : (readRelease s).window = s.window := rfl
@[simp] theorem readRelease_nextUid (s : State) : (readRelease s).nextUid = s.nextUid := rfl
@[simp] theorem readRelease_link (s : State) : (readRelease s).link = s.link := rfl
@[simp] theorem readRelease_checks (s : State) : (readRelease s).checks = s.checks := rfl
@[simp] theorem readRelease_unit (s : State) : (readRelease s).unit = s.unit := rfl
@[simp] theorem readRelease_div (s : State) : (readRelease s).div = s.div := rfl
@[simp] theorem readRelease_log (s : State) : (readRelease s).log = s.log := rfl
@[simp] theorem readRelease_notice (s : State) : (readRelease s).notice = s.notice := rfl
@[simp] theorem readRelease_free (s : State) : (readRelease s).free = s.free := rfl
@[simp] theorem readReleaseAgain_pending (s : State) : (readReleaseAgain s).pending = s.pending := rfl
@[simp] theorem readReleaseAgain_mem (s : State) : (readReleaseAgain s).mem = s.mem := rfl
@[simp] theorem readReleaseAgain_regs (s : State) : (readReleaseAgain s).regs = s.regs := rfl
@[simp] theorem readReleaseAgain_settings (s : State) : (readReleaseAgain s).settings = s.settings := rfl
@[simp] theorem readReleaseAgain_corr (s : State) : (readReleaseAgain s).corr = s.corr := rfl
@[simp] theorem readReleaseAgain_rc (s : State) : (readReleaseAgain s).rc = s.rc := rfl
@[simp] theorem readReleaseAgain_fetch (s : State) : (readReleaseAgain s).fetch = s.fetch := rfl
@[simp] theorem readReleaseAgain_window (s : State) : (readReleaseAgain s).window = s.window := rfl
@[simp] theorem readReleaseAgain_nextUid (s : State) : (readReleaseAgain s).nextUid = s.nextUid := rfl
@[simp] theorem readReleaseAgain_link (s : State) : (readReleaseAgain s).link = s.link := rfl
@[simp] theorem readReleaseAgain_checks (s : State) : (readReleaseAgain s).checks = s.checks := rfl
@[simp] theorem readReleaseAgain_unit (s : State) : (readReleaseAgain s).unit = s.unit := rfl
@[simp] theorem readReleaseAgain_div (s : State) : (readReleaseAgain s).div = s.div := rfl
@[simp] theorem readReleaseAgain_log (s : State) : (readReleaseAgain s).log = { s.log with readAgain := false } := rfl
@[simp] theorem readReleaseAgain_notice (s : State) : (readReleaseAgain s).notice = s.notice := rfl
@[simp] theorem readReleaseAgain_free (s : State) : (readReleaseAgain s).free = s.free := rfl
@[simp] theorem waitForRoom_pending (s : State) : (waitForRoom s).pending = s.pending := rfl
@[simp] theorem waitForRoom_mem (s : State) : (waitForRoom s).mem = s.mem := rfl
@[simp] theorem waitForRoom_regs (s : State) : (waitForRoom s).regs = s.regs := rfl
@[simp] theorem waitForRoom_settings (s : State) : (waitForRoom s).settings = s.settings := rfl
@[simp] theorem waitForRoom_corr (s : State) : (waitForRoom s).corr = s.corr := rfl
@[simp] theorem waitForRoom_rc (s : State) : (waitForRoom s).rc = s.rc := rfl
@[simp] theorem waitForRoom_fetch (s : State) : (waitForRoom s).fetch = s.fetch := rfl
@[simp] theorem waitForRoom_window (s : State) : (waitForRoom s).window = s.window := rfl
@[simp] theorem waitForRoom_nextUid (s : State) : (waitForRoom s).nextUid = s.nextUid := rfl
@[simp] theorem waitForRoom_link (s : State) : (waitForRoom s).link = s.link := rfl
@[simp] theorem waitForRoom_checks (s : State) : (waitForRoom s).checks = s.checks := rfl
@[simp] theorem waitForRoom_unit (s : State) : (waitForRoom s).unit = s.unit := rfl
@[simp] theorem waitForRoom_div (s : State) : (waitForRoom s).div = s.div := rfl
@[simp] theorem waitForRoom_notice (s : State) : (waitForRoom s).notice = s.notice := rfl
@[simp] theorem waitForRoom_free (s : State) : (waitForRoom s).free = s.free := rfl
@[simp] theorem setStep_pending (r : StepRec) (s : State) : (setStep r s).pending = s.pending := rfl
@[simp] theorem setStep_mem (r : StepRec) (s : State) : (setStep r s).mem = s.mem := rfl
@[simp] theorem setStep_regs (r : StepRec) (s : State) : (setStep r s).regs = s.regs := rfl
@[simp] theorem setStep_settings (r : StepRec) (s : State) : (setStep r s).settings = s.settings := rfl
@[simp] theorem setStep_corr (r : StepRec) (s : State) : (setStep r s).corr = s.corr := rfl
@[simp] theorem setStep_port (r : StepRec) (s : State) : (setStep r s).port = s.port := rfl
@[simp] theorem setStep_rc (r : StepRec) (s : State) : (setStep r s).rc = s.rc := rfl
@[simp] theorem setStep_fetch (r : StepRec) (s : State) : (setStep r s).fetch = s.fetch := rfl
@[simp] theorem setStep_window (r : StepRec) (s : State) : (setStep r s).window = s.window := rfl
@[simp] theorem setStep_nextUid (r : StepRec) (s : State) : (setStep r s).nextUid = s.nextUid := rfl
@[simp] theorem setStep_link (r : StepRec) (s : State) : (setStep r s).link = s.link := rfl
@[simp] theorem setStep_checks (r : StepRec) (s : State) : (setStep r s).checks = s.checks := rfl
@[simp] theorem setStep_div (r : StepRec) (s : State) : (setStep r s).div = s.div := rfl
@[simp] theorem setStep_log (r : StepRec) (s : State) : (setStep r s).log = s.log := rfl
@[simp] theorem setStep_notice (r : StepRec) (s : State) : (setStep r s).notice = s.notice := rfl
@[simp] theorem setStep_free (r : StepRec) (s : State) : (setStep r s).free = s.free := rfl

end Sys2Proof.Machine
end

