-- ==== Sys2Proof/Laws/Frames.lean ====
section
/-! SUPPORT. The fields each shared operation with branches leaves as they were, one lemma per field. -/

namespace Sys2Proof.Machine

open Sys2Proof

@[simp] theorem sealPort_pending (s : State) : (sealPort s).pending = s.pending := by dsimp only [sealPort]; (repeat' split) <;> simp
@[simp] theorem sealPort_mem (s : State) : (sealPort s).mem = s.mem := by dsimp only [sealPort]; (repeat' split) <;> simp
@[simp] theorem sealPort_regs (s : State) : (sealPort s).regs = s.regs := by dsimp only [sealPort]; (repeat' split) <;> simp
@[simp] theorem sealPort_settings (s : State) : (sealPort s).settings = s.settings := by dsimp only [sealPort]; (repeat' split) <;> simp
@[simp] theorem sealPort_corr (s : State) : (sealPort s).corr = s.corr := by dsimp only [sealPort]; (repeat' split) <;> simp
@[simp] theorem sealPort_rc (s : State) : (sealPort s).rc = s.rc := by dsimp only [sealPort]; (repeat' split) <;> simp
@[simp] theorem sealPort_fetch (s : State) : (sealPort s).fetch = s.fetch := by dsimp only [sealPort]; (repeat' split) <;> simp
@[simp] theorem sealPort_window (s : State) : (sealPort s).window = s.window := by dsimp only [sealPort]; (repeat' split) <;> simp
@[simp] theorem sealPort_nextUid (s : State) : (sealPort s).nextUid = s.nextUid := by dsimp only [sealPort]; (repeat' split) <;> simp
@[simp] theorem sealPort_link (s : State) : (sealPort s).link = s.link := by dsimp only [sealPort]; (repeat' split) <;> simp
@[simp] theorem sealPort_checks (s : State) : (sealPort s).checks = s.checks := by dsimp only [sealPort]; (repeat' split) <;> simp
@[simp] theorem sealPort_unit (s : State) : (sealPort s).unit = s.unit := by dsimp only [sealPort]; (repeat' split) <;> simp
@[simp] theorem sealPort_div (s : State) : (sealPort s).div = s.div := by dsimp only [sealPort]; (repeat' split) <;> simp
@[simp] theorem sealPort_log (s : State) : (sealPort s).log = s.log := by dsimp only [sealPort]; (repeat' split) <;> simp
@[simp] theorem sealPort_notice (s : State) : (sealPort s).notice = s.notice := by dsimp only [sealPort]; (repeat' split) <;> simp
@[simp] theorem sealPort_free (s : State) : (sealPort s).free = s.free := by dsimp only [sealPort]; (repeat' split) <;> simp
@[simp] theorem startNotice_pending (s : State) : (startNotice s).pending = s.pending := by dsimp only [startNotice]; (repeat' split) <;> simp
@[simp] theorem startNotice_mem (s : State) : (startNotice s).mem = s.mem := by dsimp only [startNotice]; (repeat' split) <;> simp
@[simp] theorem startNotice_regs (s : State) : (startNotice s).regs = s.regs := by dsimp only [startNotice]; (repeat' split) <;> simp
@[simp] theorem startNotice_settings (s : State) : (startNotice s).settings = s.settings := by dsimp only [startNotice]; (repeat' split) <;> simp
@[simp] theorem startNotice_corr (s : State) : (startNotice s).corr = s.corr := by dsimp only [startNotice]; (repeat' split) <;> simp
@[simp] theorem startNotice_rc (s : State) : (startNotice s).rc = s.rc := by dsimp only [startNotice]; (repeat' split) <;> simp
@[simp] theorem startNotice_fetch (s : State) : (startNotice s).fetch = s.fetch := by dsimp only [startNotice]; (repeat' split) <;> simp
@[simp] theorem startNotice_window (s : State) : (startNotice s).window = s.window := by dsimp only [startNotice]; (repeat' split) <;> simp
@[simp] theorem startNotice_nextUid (s : State) : (startNotice s).nextUid = s.nextUid := by dsimp only [startNotice]; (repeat' split) <;> simp
@[simp] theorem startNotice_link (s : State) : (startNotice s).link = s.link := by dsimp only [startNotice]; (repeat' split) <;> simp
@[simp] theorem startNotice_checks (s : State) : (startNotice s).checks = s.checks := by dsimp only [startNotice]; (repeat' split) <;> simp
@[simp] theorem startNotice_unit (s : State) : (startNotice s).unit = s.unit := by dsimp only [startNotice]; (repeat' split) <;> simp
@[simp] theorem startNotice_div (s : State) : (startNotice s).div = s.div := by dsimp only [startNotice]; (repeat' split) <;> simp
@[simp] theorem startNotice_log (s : State) : (startNotice s).log = s.log := by dsimp only [startNotice]; (repeat' split) <;> simp
@[simp] theorem startNotice_notice (s : State) : (startNotice s).notice = s.notice := by dsimp only [startNotice]; (repeat' split) <;> simp
@[simp] theorem startNotice_free (s : State) : (startNotice s).free = s.free := by dsimp only [startNotice]; (repeat' split) <;> simp
@[simp] theorem requestNotice_pending (k : NoticeKind) (a b : Word) (m : NoticeMark) (s : State) : (requestNotice k a b m s).pending = s.pending := by dsimp only [requestNotice]; (repeat' split) <;> simp
@[simp] theorem requestNotice_mem (k : NoticeKind) (a b : Word) (m : NoticeMark) (s : State) : (requestNotice k a b m s).mem = s.mem := by dsimp only [requestNotice]; (repeat' split) <;> simp
@[simp] theorem requestNotice_regs (k : NoticeKind) (a b : Word) (m : NoticeMark) (s : State) : (requestNotice k a b m s).regs = s.regs := by dsimp only [requestNotice]; (repeat' split) <;> simp
@[simp] theorem requestNotice_settings (k : NoticeKind) (a b : Word) (m : NoticeMark) (s : State) : (requestNotice k a b m s).settings = s.settings := by dsimp only [requestNotice]; (repeat' split) <;> simp
@[simp] theorem requestNotice_corr (k : NoticeKind) (a b : Word) (m : NoticeMark) (s : State) : (requestNotice k a b m s).corr = s.corr := by dsimp only [requestNotice]; (repeat' split) <;> simp
@[simp] theorem requestNotice_rc (k : NoticeKind) (a b : Word) (m : NoticeMark) (s : State) : (requestNotice k a b m s).rc = s.rc := by dsimp only [requestNotice]; (repeat' split) <;> simp
@[simp] theorem requestNotice_fetch (k : NoticeKind) (a b : Word) (m : NoticeMark) (s : State) : (requestNotice k a b m s).fetch = s.fetch := by dsimp only [requestNotice]; (repeat' split) <;> simp
@[simp] theorem requestNotice_window (k : NoticeKind) (a b : Word) (m : NoticeMark) (s : State) : (requestNotice k a b m s).window = s.window := by dsimp only [requestNotice]; (repeat' split) <;> simp
@[simp] theorem requestNotice_nextUid (k : NoticeKind) (a b : Word) (m : NoticeMark) (s : State) : (requestNotice k a b m s).nextUid = s.nextUid := by dsimp only [requestNotice]; (repeat' split) <;> simp
@[simp] theorem requestNotice_link (k : NoticeKind) (a b : Word) (m : NoticeMark) (s : State) : (requestNotice k a b m s).link = s.link := by dsimp only [requestNotice]; (repeat' split) <;> simp
@[simp] theorem requestNotice_checks (k : NoticeKind) (a b : Word) (m : NoticeMark) (s : State) : (requestNotice k a b m s).checks = s.checks := by dsimp only [requestNotice]; (repeat' split) <;> simp
@[simp] theorem requestNotice_unit (k : NoticeKind) (a b : Word) (m : NoticeMark) (s : State) : (requestNotice k a b m s).unit = s.unit := by dsimp only [requestNotice]; (repeat' split) <;> simp
@[simp] theorem requestNotice_div (k : NoticeKind) (a b : Word) (m : NoticeMark) (s : State) : (requestNotice k a b m s).div = s.div := by dsimp only [requestNotice]; (repeat' split) <;> simp
@[simp] theorem requestNotice_log (k : NoticeKind) (a b : Word) (m : NoticeMark) (s : State) : (requestNotice k a b m s).log = s.log := by dsimp only [requestNotice]; (repeat' split) <;> simp
@[simp] theorem requestNotice_free (k : NoticeKind) (a b : Word) (m : NoticeMark) (s : State) : (requestNotice k a b m s).free = s.free := by dsimp only [requestNotice]; (repeat' split) <;> simp
@[simp] theorem ringIntoForce_pending (s : State) : (ringIntoForce s).pending = s.pending := by dsimp only [ringIntoForce]; simp
@[simp] theorem ringIntoForce_mem (s : State) : (ringIntoForce s).mem = s.mem := by dsimp only [ringIntoForce]; simp
@[simp] theorem ringIntoForce_regs (s : State) : (ringIntoForce s).regs = s.regs := by dsimp only [ringIntoForce]; simp
@[simp] theorem ringIntoForce_settings (s : State) : (ringIntoForce s).settings = s.settings := by dsimp only [ringIntoForce]; simp
@[simp] theorem ringIntoForce_corr (s : State) : (ringIntoForce s).corr = s.corr := by dsimp only [ringIntoForce]; simp
@[simp] theorem ringIntoForce_rc (s : State) : (ringIntoForce s).rc = s.rc := by dsimp only [ringIntoForce]; simp
@[simp] theorem ringIntoForce_fetch (s : State) : (ringIntoForce s).fetch = s.fetch := by dsimp only [ringIntoForce]; simp
@[simp] theorem ringIntoForce_window (s : State) : (ringIntoForce s).window = s.window := by dsimp only [ringIntoForce]; simp
@[simp] theorem ringIntoForce_nextUid (s : State) : (ringIntoForce s).nextUid = s.nextUid := by dsimp only [ringIntoForce]; simp
@[simp] theorem ringIntoForce_link (s : State) : (ringIntoForce s).link = s.link := by dsimp only [ringIntoForce]; simp
@[simp] theorem ringIntoForce_checks (s : State) : (ringIntoForce s).checks = s.checks := by dsimp only [ringIntoForce]; simp
@[simp] theorem ringIntoForce_unit (s : State) : (ringIntoForce s).unit = s.unit := by dsimp only [ringIntoForce]; simp
@[simp] theorem ringIntoForce_div (s : State) : (ringIntoForce s).div = s.div := by dsimp only [ringIntoForce]; simp
@[simp] theorem ringIntoForce_log (s : State) : (ringIntoForce s).log = s.log := by dsimp only [ringIntoForce]; simp
@[simp] theorem ringIntoForce_free (s : State) : (ringIntoForce s).free = s.free := by dsimp only [ringIntoForce]; simp
@[simp] theorem serveFillWord_pending (s : State) : (serveFillWord s).pending = s.pending := by dsimp only [serveFillWord]; (repeat' split) <;> simp
@[simp] theorem serveFillWord_regs (s : State) : (serveFillWord s).regs = s.regs := by dsimp only [serveFillWord]; (repeat' split) <;> simp
@[simp] theorem serveFillWord_settings (s : State) : (serveFillWord s).settings = s.settings := by dsimp only [serveFillWord]; (repeat' split) <;> simp
@[simp] theorem serveFillWord_corr (s : State) : (serveFillWord s).corr = s.corr := by dsimp only [serveFillWord]; (repeat' split) <;> simp
@[simp] theorem serveFillWord_rc (s : State) : (serveFillWord s).rc = s.rc := by dsimp only [serveFillWord]; (repeat' split) <;> simp
@[simp] theorem serveFillWord_fetch (s : State) : (serveFillWord s).fetch = s.fetch := by dsimp only [serveFillWord]; (repeat' split) <;> simp
@[simp] theorem serveFillWord_window (s : State) : (serveFillWord s).window = s.window := by dsimp only [serveFillWord]; (repeat' split) <;> simp
@[simp] theorem serveFillWord_nextUid (s : State) : (serveFillWord s).nextUid = s.nextUid := by dsimp only [serveFillWord]; (repeat' split) <;> simp
@[simp] theorem serveFillWord_link (s : State) : (serveFillWord s).link = s.link := by dsimp only [serveFillWord]; (repeat' split) <;> simp
@[simp] theorem serveFillWord_checks (s : State) : (serveFillWord s).checks = s.checks := by dsimp only [serveFillWord]; (repeat' split) <;> simp
@[simp] theorem serveFillWord_unit (s : State) : (serveFillWord s).unit = s.unit := by dsimp only [serveFillWord]; (repeat' split) <;> simp
@[simp] theorem serveFillWord_div (s : State) : (serveFillWord s).div = s.div := by dsimp only [serveFillWord]; (repeat' split) <;> simp
@[simp] theorem serveFillWord_log (s : State) : (serveFillWord s).log = s.log := by dsimp only [serveFillWord]; (repeat' split) <;> simp
@[simp] theorem serveFillWord_notice (s : State) : (serveFillWord s).notice = s.notice := by dsimp only [serveFillWord]; (repeat' split) <;> simp
@[simp] theorem serveFillWord_free (s : State) : (serveFillWord s).free = s.free := by dsimp only [serveFillWord]; (repeat' split) <;> simp
@[simp] theorem sendStop_pending (s : State) : (sendStop s).pending = s.pending := by dsimp only [sendStop]; (repeat' split) <;> simp
@[simp] theorem sendStop_mem (s : State) : (sendStop s).mem = s.mem := by dsimp only [sendStop]; (repeat' split) <;> simp
@[simp] theorem sendStop_regs (s : State) : (sendStop s).regs = s.regs := by dsimp only [sendStop]; (repeat' split) <;> simp
@[simp] theorem sendStop_settings (s : State) : (sendStop s).settings = s.settings := by dsimp only [sendStop]; (repeat' split) <;> simp
@[simp] theorem sendStop_corr (s : State) : (sendStop s).corr = s.corr := by dsimp only [sendStop]; (repeat' split) <;> simp
@[simp] theorem sendStop_port (s : State) : (sendStop s).port = s.port := by dsimp only [sendStop]; (repeat' split) <;> simp
@[simp] theorem sendStop_rc (s : State) : (sendStop s).rc = s.rc := by dsimp only [sendStop]; (repeat' split) <;> simp
@[simp] theorem sendStop_fetch (s : State) : (sendStop s).fetch = s.fetch := by dsimp only [sendStop]; (repeat' split) <;> simp
@[simp] theorem sendStop_window (s : State) : (sendStop s).window = s.window := by dsimp only [sendStop]; (repeat' split) <;> simp
@[simp] theorem sendStop_nextUid (s : State) : (sendStop s).nextUid = s.nextUid := by dsimp only [sendStop]; (repeat' split) <;> simp
@[simp] theorem sendStop_checks (s : State) : (sendStop s).checks = s.checks := by dsimp only [sendStop]; (repeat' split) <;> simp
@[simp] theorem sendStop_unit (s : State) : (sendStop s).unit = s.unit := by dsimp only [sendStop]; (repeat' split) <;> simp
@[simp] theorem sendStop_div (s : State) : (sendStop s).div = s.div := by dsimp only [sendStop]; (repeat' split) <;> simp
@[simp] theorem sendStop_log (s : State) : (sendStop s).log = s.log := by dsimp only [sendStop]; (repeat' split) <;> simp
@[simp] theorem sendStop_notice (s : State) : (sendStop s).notice = s.notice := by dsimp only [sendStop]; (repeat' split) <;> simp
@[simp] theorem sendStop_free (s : State) : (sendStop s).free = s.free := by dsimp only [sendStop]; (repeat' split) <;> simp
@[simp] theorem changeCounts_pending (p : ProbeNo) (t m : Nat) (s : State) : (changeCounts p t m s).pending = s.pending := by dsimp only [changeCounts]; (repeat' split) <;> simp
@[simp] theorem changeCounts_mem (p : ProbeNo) (t m : Nat) (s : State) : (changeCounts p t m s).mem = s.mem := by dsimp only [changeCounts]; (repeat' split) <;> simp
@[simp] theorem changeCounts_regs (p : ProbeNo) (t m : Nat) (s : State) : (changeCounts p t m s).regs = s.regs := by dsimp only [changeCounts]; (repeat' split) <;> simp
@[simp] theorem changeCounts_settings (p : ProbeNo) (t m : Nat) (s : State) : (changeCounts p t m s).settings = s.settings := by dsimp only [changeCounts]; (repeat' split) <;> simp
@[simp] theorem changeCounts_corr (p : ProbeNo) (t m : Nat) (s : State) : (changeCounts p t m s).corr = s.corr := by dsimp only [changeCounts]; (repeat' split) <;> simp
@[simp] theorem changeCounts_rc (p : ProbeNo) (t m : Nat) (s : State) : (changeCounts p t m s).rc = s.rc := by dsimp only [changeCounts]; (repeat' split) <;> simp
@[simp] theorem changeCounts_fetch (p : ProbeNo) (t m : Nat) (s : State) : (changeCounts p t m s).fetch = s.fetch := by dsimp only [changeCounts]; (repeat' split) <;> simp
@[simp] theorem changeCounts_window (p : ProbeNo) (t m : Nat) (s : State) : (changeCounts p t m s).window = s.window := by dsimp only [changeCounts]; (repeat' split) <;> simp
@[simp] theorem changeCounts_nextUid (p : ProbeNo) (t m : Nat) (s : State) : (changeCounts p t m s).nextUid = s.nextUid := by dsimp only [changeCounts]; (repeat' split) <;> simp
@[simp] theorem changeCounts_checks (p : ProbeNo) (t m : Nat) (s : State) : (changeCounts p t m s).checks = s.checks := by dsimp only [changeCounts]; (repeat' split) <;> simp
@[simp] theorem changeCounts_unit (p : ProbeNo) (t m : Nat) (s : State) : (changeCounts p t m s).unit = s.unit := by dsimp only [changeCounts]; (repeat' split) <;> simp
@[simp] theorem changeCounts_div (p : ProbeNo) (t m : Nat) (s : State) : (changeCounts p t m s).div = s.div := by dsimp only [changeCounts]; (repeat' split) <;> simp
@[simp] theorem changeCounts_log (p : ProbeNo) (t m : Nat) (s : State) : (changeCounts p t m s).log = s.log := by dsimp only [changeCounts]; (repeat' split) <;> simp
@[simp] theorem changeCounts_free (p : ProbeNo) (t m : Nat) (s : State) : (changeCounts p t m s).free = s.free := by dsimp only [changeCounts]; (repeat' split) <;> simp
@[simp] theorem addTouch_pending (p : ProbeNo) (s : State) : (addTouch p s).pending = s.pending := by dsimp only [addTouch]; simp
@[simp] theorem addTouch_mem (p : ProbeNo) (s : State) : (addTouch p s).mem = s.mem := by dsimp only [addTouch]; simp
@[simp] theorem addTouch_regs (p : ProbeNo) (s : State) : (addTouch p s).regs = s.regs := by dsimp only [addTouch]; simp
@[simp] theorem addTouch_settings (p : ProbeNo) (s : State) : (addTouch p s).settings = s.settings := by dsimp only [addTouch]; simp
@[simp] theorem addTouch_corr (p : ProbeNo) (s : State) : (addTouch p s).corr = s.corr := by dsimp only [addTouch]; simp
@[simp] theorem addTouch_rc (p : ProbeNo) (s : State) : (addTouch p s).rc = s.rc := by dsimp only [addTouch]; simp
@[simp] theorem addTouch_fetch (p : ProbeNo) (s : State) : (addTouch p s).fetch = s.fetch := by dsimp only [addTouch]; simp
@[simp] theorem addTouch_window (p : ProbeNo) (s : State) : (addTouch p s).window = s.window := by dsimp only [addTouch]; simp
@[simp] theorem addTouch_nextUid (p : ProbeNo) (s : State) : (addTouch p s).nextUid = s.nextUid := by dsimp only [addTouch]; simp
@[simp] theorem addTouch_checks (p : ProbeNo) (s : State) : (addTouch p s).checks = s.checks := by dsimp only [addTouch]; simp
@[simp] theorem addTouch_unit (p : ProbeNo) (s : State) : (addTouch p s).unit = s.unit := by dsimp only [addTouch]; simp
@[simp] theorem addTouch_div (p : ProbeNo) (s : State) : (addTouch p s).div = s.div := by dsimp only [addTouch]; simp
@[simp] theorem addTouch_log (p : ProbeNo) (s : State) : (addTouch p s).log = s.log := by dsimp only [addTouch]; simp
@[simp] theorem addTouch_free (p : ProbeNo) (s : State) : (addTouch p s).free = s.free := by dsimp only [addTouch]; simp
@[simp] theorem countFirstTouch_pending (p : ProbeNo) (b : Bool) (s : State) : (countFirstTouch p b s).pending = s.pending := by dsimp only [countFirstTouch]; (repeat' split) <;> simp
@[simp] theorem countFirstTouch_mem (p : ProbeNo) (b : Bool) (s : State) : (countFirstTouch p b s).mem = s.mem := by dsimp only [countFirstTouch]; (repeat' split) <;> simp
@[simp] theorem countFirstTouch_regs (p : ProbeNo) (b : Bool) (s : State) : (countFirstTouch p b s).regs = s.regs := by dsimp only [countFirstTouch]; (repeat' split) <;> simp
@[simp] theorem countFirstTouch_settings (p : ProbeNo) (b : Bool) (s : State) : (countFirstTouch p b s).settings = s.settings := by dsimp only [countFirstTouch]; (repeat' split) <;> simp
@[simp] theorem countFirstTouch_corr (p : ProbeNo) (b : Bool) (s : State) : (countFirstTouch p b s).corr = s.corr := by dsimp only [countFirstTouch]; (repeat' split) <;> simp
@[simp] theorem countFirstTouch_rc (p : ProbeNo) (b : Bool) (s : State) : (countFirstTouch p b s).rc = s.rc := by dsimp only [countFirstTouch]; (repeat' split) <;> simp
@[simp] theorem countFirstTouch_fetch (p : ProbeNo) (b : Bool) (s : State) : (countFirstTouch p b s).fetch = s.fetch := by dsimp only [countFirstTouch]; (repeat' split) <;> simp
@[simp] theorem countFirstTouch_window (p : ProbeNo) (b : Bool) (s : State) : (countFirstTouch p b s).window = s.window := by dsimp only [countFirstTouch]; (repeat' split) <;> simp
@[simp] theorem countFirstTouch_nextUid (p : ProbeNo) (b : Bool) (s : State) : (countFirstTouch p b s).nextUid = s.nextUid := by dsimp only [countFirstTouch]; (repeat' split) <;> simp
@[simp] theorem countFirstTouch_checks (p : ProbeNo) (b : Bool) (s : State) : (countFirstTouch p b s).checks = s.checks := by dsimp only [countFirstTouch]; (repeat' split) <;> simp
@[simp] theorem countFirstTouch_unit (p : ProbeNo) (b : Bool) (s : State) : (countFirstTouch p b s).unit = s.unit := by dsimp only [countFirstTouch]; (repeat' split) <;> simp
@[simp] theorem countFirstTouch_div (p : ProbeNo) (b : Bool) (s : State) : (countFirstTouch p b s).div = s.div := by dsimp only [countFirstTouch]; (repeat' split) <;> simp
@[simp] theorem countFirstTouch_log (p : ProbeNo) (b : Bool) (s : State) : (countFirstTouch p b s).log = s.log := by dsimp only [countFirstTouch]; (repeat' split) <;> simp
@[simp] theorem countFirstTouch_free (p : ProbeNo) (b : Bool) (s : State) : (countFirstTouch p b s).free = s.free := by dsimp only [countFirstTouch]; (repeat' split) <;> simp
@[simp] theorem abortMeasurement_pending (s : State) : (abortMeasurement s).pending = s.pending := by dsimp only [abortMeasurement]; (repeat' split) <;> simp
@[simp] theorem abortMeasurement_mem (s : State) : (abortMeasurement s).mem = s.mem := by dsimp only [abortMeasurement]; (repeat' split) <;> simp
@[simp] theorem abortMeasurement_regs (s : State) : (abortMeasurement s).regs = s.regs := by dsimp only [abortMeasurement]; (repeat' split) <;> simp
@[simp] theorem abortMeasurement_settings (s : State) : (abortMeasurement s).settings = s.settings := by dsimp only [abortMeasurement]; (repeat' split) <;> simp
@[simp] theorem abortMeasurement_corr (s : State) : (abortMeasurement s).corr = s.corr := by dsimp only [abortMeasurement]; (repeat' split) <;> simp
@[simp] theorem abortMeasurement_rc (s : State) : (abortMeasurement s).rc = s.rc := by dsimp only [abortMeasurement]; (repeat' split) <;> simp
@[simp] theorem abortMeasurement_fetch (s : State) : (abortMeasurement s).fetch = s.fetch := by dsimp only [abortMeasurement]; (repeat' split) <;> simp
@[simp] theorem abortMeasurement_window (s : State) : (abortMeasurement s).window = s.window := by dsimp only [abortMeasurement]; (repeat' split) <;> simp
@[simp] theorem abortMeasurement_nextUid (s : State) : (abortMeasurement s).nextUid = s.nextUid := by dsimp only [abortMeasurement]; (repeat' split) <;> simp
@[simp] theorem abortMeasurement_link (s : State) : (abortMeasurement s).link = s.link := by dsimp only [abortMeasurement]; (repeat' split) <;> simp
@[simp] theorem abortMeasurement_div (s : State) : (abortMeasurement s).div = s.div := by dsimp only [abortMeasurement]; (repeat' split) <;> simp
@[simp] theorem abortMeasurement_log (s : State) : (abortMeasurement s).log = s.log := by dsimp only [abortMeasurement]; (repeat' split) <;> simp
@[simp] theorem abortMeasurement_notice (s : State) : (abortMeasurement s).notice = s.notice := by dsimp only [abortMeasurement]; (repeat' split) <;> simp
@[simp] theorem abortMeasurement_free (s : State) : (abortMeasurement s).free = s.free := by dsimp only [abortMeasurement]; (repeat' split) <;> simp
@[simp] theorem interlock_pending (s : State) : (interlock s).pending = s.pending := by dsimp only [interlock]; split <;> simp
@[simp] theorem interlock_mem (s : State) : (interlock s).mem = s.mem := by dsimp only [interlock]; split <;> simp
@[simp] theorem interlock_regs (s : State) : (interlock s).regs = s.regs := by dsimp only [interlock]; split <;> simp
@[simp] theorem interlock_settings (s : State) : (interlock s).settings = s.settings := by dsimp only [interlock]; split <;> simp
@[simp] theorem interlock_corr (s : State) : (interlock s).corr = s.corr := by dsimp only [interlock]; split <;> simp
@[simp] theorem interlock_rc (s : State) : (interlock s).rc = s.rc := by dsimp only [interlock]; split <;> simp
@[simp] theorem interlock_fetch (s : State) : (interlock s).fetch = s.fetch := by dsimp only [interlock]; split <;> simp
@[simp] theorem interlock_window (s : State) : (interlock s).window = s.window := by dsimp only [interlock]; split <;> simp
@[simp] theorem interlock_nextUid (s : State) : (interlock s).nextUid = s.nextUid := by dsimp only [interlock]; split <;> simp
@[simp] theorem interlock_link (s : State) : (interlock s).link = s.link := by dsimp only [interlock]; split <;> simp
@[simp] theorem interlock_div (s : State) : (interlock s).div = s.div := by dsimp only [interlock]; split <;> simp
@[simp] theorem interlock_log (s : State) : (interlock s).log = s.log := by dsimp only [interlock]; split <;> simp
@[simp] theorem interlock_notice (s : State) : (interlock s).notice = s.notice := by dsimp only [interlock]; split <;> simp
@[simp] theorem interlock_free (s : State) : (interlock s).free = s.free := by dsimp only [interlock]; split <;> simp
@[simp] theorem clearWindow_pending (s : State) : (clearWindow s).pending = s.pending := by dsimp only [clearWindow]; simp
@[simp] theorem clearWindow_mem (s : State) : (clearWindow s).mem = s.mem := by dsimp only [clearWindow]; simp
@[simp] theorem clearWindow_regs (s : State) : (clearWindow s).regs = s.regs := by dsimp only [clearWindow]; simp
@[simp] theorem clearWindow_settings (s : State) : (clearWindow s).settings = s.settings := by dsimp only [clearWindow]; simp
@[simp] theorem clearWindow_corr (s : State) : (clearWindow s).corr = s.corr := by dsimp only [clearWindow]; simp
@[simp] theorem clearWindow_rc (s : State) : (clearWindow s).rc = s.rc := by dsimp only [clearWindow]; simp
@[simp] theorem clearWindow_fetch (s : State) : (clearWindow s).fetch = s.fetch := by dsimp only [clearWindow]; simp
@[simp] theorem clearWindow_nextUid (s : State) : (clearWindow s).nextUid = s.nextUid := by dsimp only [clearWindow]; simp
@[simp] theorem clearWindow_link (s : State) : (clearWindow s).link = s.link := by dsimp only [clearWindow]; simp
@[simp] theorem clearWindow_div (s : State) : (clearWindow s).div = s.div := by dsimp only [clearWindow]; simp
@[simp] theorem clearWindow_log (s : State) : (clearWindow s).log = s.log := by dsimp only [clearWindow]; simp
@[simp] theorem clearWindow_notice (s : State) : (clearWindow s).notice = s.notice := by dsimp only [clearWindow]; simp
@[simp] theorem clearWindow_free (s : State) : (clearWindow s).free = s.free := by dsimp only [clearWindow]; simp
@[simp] theorem failEntry_pending (u : Nat) (c : Cause) (d : Nat) (s : State) : (failEntry u c d s).pending = s.pending := by dsimp only [failEntry]; (repeat' split) <;> simp
@[simp] theorem failEntry_mem (u : Nat) (c : Cause) (d : Nat) (s : State) : (failEntry u c d s).mem = s.mem := by dsimp only [failEntry]; (repeat' split) <;> simp
@[simp] theorem failEntry_regs (u : Nat) (c : Cause) (d : Nat) (s : State) : (failEntry u c d s).regs = s.regs := by dsimp only [failEntry]; (repeat' split) <;> simp
@[simp] theorem failEntry_settings (u : Nat) (c : Cause) (d : Nat) (s : State) : (failEntry u c d s).settings = s.settings := by dsimp only [failEntry]; (repeat' split) <;> simp
@[simp] theorem failEntry_corr (u : Nat) (c : Cause) (d : Nat) (s : State) : (failEntry u c d s).corr = s.corr := by dsimp only [failEntry]; (repeat' split) <;> simp
@[simp] theorem failEntry_rc (u : Nat) (c : Cause) (d : Nat) (s : State) : (failEntry u c d s).rc = s.rc := by dsimp only [failEntry]; (repeat' split) <;> simp
@[simp] theorem failEntry_fetch (u : Nat) (c : Cause) (d : Nat) (s : State) : (failEntry u c d s).fetch = s.fetch := by dsimp only [failEntry]; (repeat' split) <;> simp
@[simp] theorem failEntry_nextUid (u : Nat) (c : Cause) (d : Nat) (s : State) : (failEntry u c d s).nextUid = s.nextUid := by dsimp only [failEntry]; (repeat' split) <;> simp
@[simp] theorem failEntry_link (u : Nat) (c : Cause) (d : Nat) (s : State) : (failEntry u c d s).link = s.link := by dsimp only [failEntry]; (repeat' split) <;> simp
@[simp] theorem failEntry_div (u : Nat) (c : Cause) (d : Nat) (s : State) : (failEntry u c d s).div = s.div := by dsimp only [failEntry]; (repeat' split) <;> simp
@[simp] theorem failEntry_log (u : Nat) (c : Cause) (d : Nat) (s : State) : (failEntry u c d s).log = s.log := by dsimp only [failEntry]; (repeat' split) <;> simp
@[simp] theorem failEntry_notice (u : Nat) (c : Cause) (d : Nat) (s : State) : (failEntry u c d s).notice = s.notice := by dsimp only [failEntry]; (repeat' split) <;> simp
@[simp] theorem failEntry_free (u : Nat) (c : Cause) (d : Nat) (s : State) : (failEntry u c d s).free = s.free := by dsimp only [failEntry]; (repeat' split) <;> simp
@[simp] theorem chargeProbe_pending (p : ProbeNo) (c : Cause) (d : Nat) (s : State) : (chargeProbe p c d s).pending = s.pending := by dsimp only [chargeProbe]; (repeat' split) <;> simp
@[simp] theorem chargeProbe_mem (p : ProbeNo) (c : Cause) (d : Nat) (s : State) : (chargeProbe p c d s).mem = s.mem := by dsimp only [chargeProbe]; (repeat' split) <;> simp
@[simp] theorem chargeProbe_regs (p : ProbeNo) (c : Cause) (d : Nat) (s : State) : (chargeProbe p c d s).regs = s.regs := by dsimp only [chargeProbe]; (repeat' split) <;> simp
@[simp] theorem chargeProbe_settings (p : ProbeNo) (c : Cause) (d : Nat) (s : State) : (chargeProbe p c d s).settings = s.settings := by dsimp only [chargeProbe]; (repeat' split) <;> simp
@[simp] theorem chargeProbe_corr (p : ProbeNo) (c : Cause) (d : Nat) (s : State) : (chargeProbe p c d s).corr = s.corr := by dsimp only [chargeProbe]; (repeat' split) <;> simp
@[simp] theorem chargeProbe_rc (p : ProbeNo) (c : Cause) (d : Nat) (s : State) : (chargeProbe p c d s).rc = s.rc := by dsimp only [chargeProbe]; (repeat' split) <;> simp
@[simp] theorem chargeProbe_fetch (p : ProbeNo) (c : Cause) (d : Nat) (s : State) : (chargeProbe p c d s).fetch = s.fetch := by dsimp only [chargeProbe]; (repeat' split) <;> simp
@[simp] theorem chargeProbe_nextUid (p : ProbeNo) (c : Cause) (d : Nat) (s : State) : (chargeProbe p c d s).nextUid = s.nextUid := by dsimp only [chargeProbe]; (repeat' split) <;> simp
@[simp] theorem chargeProbe_link (p : ProbeNo) (c : Cause) (d : Nat) (s : State) : (chargeProbe p c d s).link = s.link := by dsimp only [chargeProbe]; (repeat' split) <;> simp
@[simp] theorem chargeProbe_div (p : ProbeNo) (c : Cause) (d : Nat) (s : State) : (chargeProbe p c d s).div = s.div := by dsimp only [chargeProbe]; (repeat' split) <;> simp
@[simp] theorem chargeProbe_log (p : ProbeNo) (c : Cause) (d : Nat) (s : State) : (chargeProbe p c d s).log = s.log := by dsimp only [chargeProbe]; (repeat' split) <;> simp
@[simp] theorem chargeProbe_notice (p : ProbeNo) (c : Cause) (d : Nat) (s : State) : (chargeProbe p c d s).notice = s.notice := by dsimp only [chargeProbe]; (repeat' split) <;> simp
@[simp] theorem chargeProbe_free (p : ProbeNo) (c : Cause) (d : Nat) (s : State) : (chargeProbe p c d s).free = s.free := by dsimp only [chargeProbe]; (repeat' split) <;> simp
@[simp] theorem roleLanded_pending (p : ProbeNo) (b : Bool) (s : State) : (roleLanded p b s).pending = s.pending := by dsimp only [roleLanded]; (repeat' split) <;> simp
@[simp] theorem roleLanded_mem (p : ProbeNo) (b : Bool) (s : State) : (roleLanded p b s).mem = s.mem := by dsimp only [roleLanded]; (repeat' split) <;> simp
@[simp] theorem roleLanded_regs (p : ProbeNo) (b : Bool) (s : State) : (roleLanded p b s).regs = s.regs := by dsimp only [roleLanded]; (repeat' split) <;> simp
@[simp] theorem roleLanded_settings (p : ProbeNo) (b : Bool) (s : State) : (roleLanded p b s).settings = s.settings := by dsimp only [roleLanded]; (repeat' split) <;> simp
@[simp] theorem roleLanded_corr (p : ProbeNo) (b : Bool) (s : State) : (roleLanded p b s).corr = s.corr := by dsimp only [roleLanded]; (repeat' split) <;> simp
@[simp] theorem roleLanded_port (p : ProbeNo) (b : Bool) (s : State) : (roleLanded p b s).port = s.port := by dsimp only [roleLanded]; (repeat' split) <;> simp
@[simp] theorem roleLanded_rc (p : ProbeNo) (b : Bool) (s : State) : (roleLanded p b s).rc = s.rc := by dsimp only [roleLanded]; (repeat' split) <;> simp
@[simp] theorem roleLanded_fetch (p : ProbeNo) (b : Bool) (s : State) : (roleLanded p b s).fetch = s.fetch := by dsimp only [roleLanded]; (repeat' split) <;> simp
@[simp] theorem roleLanded_nextUid (p : ProbeNo) (b : Bool) (s : State) : (roleLanded p b s).nextUid = s.nextUid := by dsimp only [roleLanded]; (repeat' split) <;> simp
@[simp] theorem roleLanded_link (p : ProbeNo) (b : Bool) (s : State) : (roleLanded p b s).link = s.link := by dsimp only [roleLanded]; (repeat' split) <;> simp
@[simp] theorem roleLanded_unit (p : ProbeNo) (b : Bool) (s : State) : (roleLanded p b s).unit = s.unit := by dsimp only [roleLanded]; (repeat' split) <;> simp
@[simp] theorem roleLanded_div (p : ProbeNo) (b : Bool) (s : State) : (roleLanded p b s).div = s.div := by dsimp only [roleLanded]; (repeat' split) <;> simp
@[simp] theorem roleLanded_log (p : ProbeNo) (b : Bool) (s : State) : (roleLanded p b s).log = s.log := by dsimp only [roleLanded]; (repeat' split) <;> simp
@[simp] theorem roleLanded_notice (p : ProbeNo) (b : Bool) (s : State) : (roleLanded p b s).notice = s.notice := by dsimp only [roleLanded]; (repeat' split) <;> simp
@[simp] theorem roleLanded_free (p : ProbeNo) (b : Bool) (s : State) : (roleLanded p b s).free = s.free := by dsimp only [roleLanded]; (repeat' split) <;> simp
@[simp] theorem memberCompleted_pending (p : ProbeNo) (k : EntryKind) (s : State) : (memberCompleted p k s).pending = s.pending := by dsimp only [memberCompleted]; (repeat' split) <;> simp
@[simp] theorem memberCompleted_mem (p : ProbeNo) (k : EntryKind) (s : State) : (memberCompleted p k s).mem = s.mem := by dsimp only [memberCompleted]; (repeat' split) <;> simp
@[simp] theorem memberCompleted_regs (p : ProbeNo) (k : EntryKind) (s : State) : (memberCompleted p k s).regs = s.regs := by dsimp only [memberCompleted]; (repeat' split) <;> simp
@[simp] theorem memberCompleted_settings (p : ProbeNo) (k : EntryKind) (s : State) : (memberCompleted p k s).settings = s.settings := by dsimp only [memberCompleted]; (repeat' split) <;> simp
@[simp] theorem memberCompleted_corr (p : ProbeNo) (k : EntryKind) (s : State) : (memberCompleted p k s).corr = s.corr := by dsimp only [memberCompleted]; (repeat' split) <;> simp
@[simp] theorem memberCompleted_port (p : ProbeNo) (k : EntryKind) (s : State) : (memberCompleted p k s).port = s.port := by dsimp only [memberCompleted]; (repeat' split) <;> simp
@[simp] theorem memberCompleted_rc (p : ProbeNo) (k : EntryKind) (s : State) : (memberCompleted p k s).rc = s.rc := by dsimp only [memberCompleted]; (repeat' split) <;> simp
@[simp] theorem memberCompleted_fetch (p : ProbeNo) (k : EntryKind) (s : State) : (memberCompleted p k s).fetch = s.fetch := by dsimp only [memberCompleted]; (repeat' split) <;> simp
@[simp] theorem memberCompleted_nextUid (p : ProbeNo) (k : EntryKind) (s : State) : (memberCompleted p k s).nextUid = s.nextUid := by dsimp only [memberCompleted]; (repeat' split) <;> simp
@[simp] theorem memberCompleted_link (p : ProbeNo) (k : EntryKind) (s : State) : (memberCompleted p k s).link = s.link := by dsimp only [memberCompleted]; (repeat' split) <;> simp
@[simp] theorem memberCompleted_checks (p : ProbeNo) (k : EntryKind) (s : State) : (memberCompleted p k s).checks = s.checks := by dsimp only [memberCompleted]; (repeat' split) <;> simp
@[simp] theorem memberCompleted_unit (p : ProbeNo) (k : EntryKind) (s : State) : (memberCompleted p k s).unit = s.unit := by dsimp only [memberCompleted]; (repeat' split) <;> simp
@[simp] theorem memberCompleted_div (p : ProbeNo) (k : EntryKind) (s : State) : (memberCompleted p k s).div = s.div := by dsimp only [memberCompleted]; (repeat' split) <;> simp
@[simp] theorem memberCompleted_log (p : ProbeNo) (k : EntryKind) (s : State) : (memberCompleted p k s).log = s.log := by dsimp only [memberCompleted]; (repeat' split) <;> simp
@[simp] theorem memberCompleted_notice (p : ProbeNo) (k : EntryKind) (s : State) : (memberCompleted p k s).notice = s.notice := by dsimp only [memberCompleted]; (repeat' split) <;> simp
@[simp] theorem memberCompleted_free (p : ProbeNo) (k : EntryKind) (s : State) : (memberCompleted p k s).free = s.free := by dsimp only [memberCompleted]; (repeat' split) <;> simp
@[simp] theorem tableResult_pending (p : ProbeNo) (c : CheckRec) (b : Bool) (s : State) : (tableResult p c b s).pending = s.pending := by dsimp only [tableResult]; (repeat' split) <;> simp
@[simp] theorem tableResult_mem (p : ProbeNo) (c : CheckRec) (b : Bool) (s : State) : (tableResult p c b s).mem = s.mem := by dsimp only [tableResult]; (repeat' split) <;> simp
@[simp] theorem tableResult_regs (p : ProbeNo) (c : CheckRec) (b : Bool) (s : State) : (tableResult p c b s).regs = s.regs := by dsimp only [tableResult]; (repeat' split) <;> simp
@[simp] theorem tableResult_settings (p : ProbeNo) (c : CheckRec) (b : Bool) (s : State) : (tableResult p c b s).settings = s.settings := by dsimp only [tableResult]; (repeat' split) <;> simp
@[simp] theorem tableResult_corr (p : ProbeNo) (c : CheckRec) (b : Bool) (s : State) : (tableResult p c b s).corr = s.corr := by dsimp only [tableResult]; (repeat' split) <;> simp
@[simp] theorem tableResult_rc (p : ProbeNo) (c : CheckRec) (b : Bool) (s : State) : (tableResult p c b s).rc = s.rc := by dsimp only [tableResult]; (repeat' split) <;> simp
@[simp] theorem tableResult_fetch (p : ProbeNo) (c : CheckRec) (b : Bool) (s : State) : (tableResult p c b s).fetch = s.fetch := by dsimp only [tableResult]; (repeat' split) <;> simp
@[simp] theorem tableResult_window (p : ProbeNo) (c : CheckRec) (b : Bool) (s : State) : (tableResult p c b s).window = s.window := by dsimp only [tableResult]; (repeat' split) <;> simp
@[simp] theorem tableResult_nextUid (p : ProbeNo) (c : CheckRec) (b : Bool) (s : State) : (tableResult p c b s).nextUid = s.nextUid := by dsimp only [tableResult]; (repeat' split) <;> simp
@[simp] theorem tableResult_checks (p : ProbeNo) (c : CheckRec) (b : Bool) (s : State) : (tableResult p c b s).checks = s.checks := by dsimp only [tableResult]; (repeat' split) <;> simp
@[simp] theorem tableResult_unit (p : ProbeNo) (c : CheckRec) (b : Bool) (s : State) : (tableResult p c b s).unit = s.unit := by dsimp only [tableResult]; (repeat' split) <;> simp
@[simp] theorem tableResult_div (p : ProbeNo) (c : CheckRec) (b : Bool) (s : State) : (tableResult p c b s).div = s.div := by dsimp only [tableResult]; (repeat' split) <;> simp
@[simp] theorem tableResult_log (p : ProbeNo) (c : CheckRec) (b : Bool) (s : State) : (tableResult p c b s).log = s.log := by dsimp only [tableResult]; (repeat' split) <;> simp
@[simp] theorem tableResult_free (p : ProbeNo) (c : CheckRec) (b : Bool) (s : State) : (tableResult p c b s).free = s.free := by dsimp only [tableResult]; (repeat' split) <;> simp
@[simp] theorem popFrame_pending (s : State) : (popFrame s).pending = s.pending := by dsimp only [popFrame]; (repeat' split) <;> simp
@[simp] theorem popFrame_mem (s : State) : (popFrame s).mem = s.mem := by dsimp only [popFrame]; (repeat' split) <;> simp
@[simp] theorem popFrame_regs (s : State) : (popFrame s).regs = s.regs := by dsimp only [popFrame]; (repeat' split) <;> simp
@[simp] theorem popFrame_settings (s : State) : (popFrame s).settings = s.settings := by dsimp only [popFrame]; (repeat' split) <;> simp
@[simp] theorem popFrame_corr (s : State) : (popFrame s).corr = s.corr := by dsimp only [popFrame]; (repeat' split) <;> simp
@[simp] theorem popFrame_port (s : State) : (popFrame s).port = s.port := by dsimp only [popFrame]; (repeat' split) <;> simp
@[simp] theorem popFrame_rc (s : State) : (popFrame s).rc = s.rc := by dsimp only [popFrame]; (repeat' split) <;> simp
@[simp] theorem popFrame_window (s : State) : (popFrame s).window = s.window := by dsimp only [popFrame]; (repeat' split) <;> simp
@[simp] theorem popFrame_nextUid (s : State) : (popFrame s).nextUid = s.nextUid := by dsimp only [popFrame]; (repeat' split) <;> simp
@[simp] theorem popFrame_link (s : State) : (popFrame s).link = s.link := by dsimp only [popFrame]; (repeat' split) <;> simp
@[simp] theorem popFrame_checks (s : State) : (popFrame s).checks = s.checks := by dsimp only [popFrame]; (repeat' split) <;> simp
@[simp] theorem popFrame_unit (s : State) : (popFrame s).unit = s.unit := by dsimp only [popFrame]; (repeat' split) <;> simp
@[simp] theorem popFrame_div (s : State) : (popFrame s).div = s.div := by dsimp only [popFrame]; (repeat' split) <;> simp
@[simp] theorem popFrame_log (s : State) : (popFrame s).log = s.log := by dsimp only [popFrame]; (repeat' split) <;> simp
@[simp] theorem popFrame_notice (s : State) : (popFrame s).notice = s.notice := by dsimp only [popFrame]; (repeat' split) <;> simp
@[simp] theorem popFrame_free (s : State) : (popFrame s).free = s.free := by dsimp only [popFrame]; (repeat' split) <;> simp
@[simp] theorem beginTxn_pending (s : State) : (beginTxn s).pending = s.pending := by dsimp only [beginTxn]; (repeat' split) <;> simp
@[simp] theorem beginTxn_mem (s : State) : (beginTxn s).mem = s.mem := by dsimp only [beginTxn]; (repeat' split) <;> simp
@[simp] theorem beginTxn_regs (s : State) : (beginTxn s).regs = s.regs := by dsimp only [beginTxn]; (repeat' split) <;> simp
@[simp] theorem beginTxn_settings (s : State) : (beginTxn s).settings = s.settings := by dsimp only [beginTxn]; (repeat' split) <;> simp
@[simp] theorem beginTxn_corr (s : State) : (beginTxn s).corr = s.corr := by dsimp only [beginTxn]; (repeat' split) <;> simp
@[simp] theorem beginTxn_rc (s : State) : (beginTxn s).rc = s.rc := by dsimp only [beginTxn]; (repeat' split) <;> simp
@[simp] theorem beginTxn_window (s : State) : (beginTxn s).window = s.window := by dsimp only [beginTxn]; (repeat' split) <;> simp
@[simp] theorem beginTxn_nextUid (s : State) : (beginTxn s).nextUid = s.nextUid := by dsimp only [beginTxn]; (repeat' split) <;> simp
@[simp] theorem beginTxn_link (s : State) : (beginTxn s).link = s.link := by dsimp only [beginTxn]; (repeat' split) <;> simp
@[simp] theorem beginTxn_checks (s : State) : (beginTxn s).checks = s.checks := by dsimp only [beginTxn]; (repeat' split) <;> simp
@[simp] theorem beginTxn_unit (s : State) : (beginTxn s).unit = s.unit := by dsimp only [beginTxn]; (repeat' split) <;> simp
@[simp] theorem beginTxn_div (s : State) : (beginTxn s).div = s.div := by dsimp only [beginTxn]; (repeat' split) <;> simp
@[simp] theorem beginTxn_log (s : State) : (beginTxn s).log = s.log := by dsimp only [beginTxn]; (repeat' split) <;> simp
@[simp] theorem beginTxn_notice (s : State) : (beginTxn s).notice = s.notice := by dsimp only [beginTxn]; (repeat' split) <;> simp
@[simp] theorem beginTxn_free (s : State) : (beginTxn s).free = s.free := by dsimp only [beginTxn]; (repeat' split) <;> simp
@[simp] theorem markParkFailed_pending (p : ProbeNo) (o : Option Order) (s : State) : (markParkFailed p o s).pending = s.pending := by dsimp only [markParkFailed]; (repeat' split) <;> simp
@[simp] theorem markParkFailed_mem (p : ProbeNo) (o : Option Order) (s : State) : (markParkFailed p o s).mem = s.mem := by dsimp only [markParkFailed]; (repeat' split) <;> simp
@[simp] theorem markParkFailed_regs (p : ProbeNo) (o : Option Order) (s : State) : (markParkFailed p o s).regs = s.regs := by dsimp only [markParkFailed]; (repeat' split) <;> simp
@[simp] theorem markParkFailed_settings (p : ProbeNo) (o : Option Order) (s : State) : (markParkFailed p o s).settings = s.settings := by dsimp only [markParkFailed]; (repeat' split) <;> simp
@[simp] theorem markParkFailed_corr (p : ProbeNo) (o : Option Order) (s : State) : (markParkFailed p o s).corr = s.corr := by dsimp only [markParkFailed]; (repeat' split) <;> simp
@[simp] theorem markParkFailed_port (p : ProbeNo) (o : Option Order) (s : State) : (markParkFailed p o s).port = s.port := by dsimp only [markParkFailed]; (repeat' split) <;> simp
@[simp] theorem markParkFailed_fetch (p : ProbeNo) (o : Option Order) (s : State) : (markParkFailed p o s).fetch = s.fetch := by dsimp only [markParkFailed]; (repeat' split) <;> simp
@[simp] theorem markParkFailed_window (p : ProbeNo) (o : Option Order) (s : State) : (markParkFailed p o s).window = s.window := by dsimp only [markParkFailed]; (repeat' split) <;> simp
@[simp] theorem markParkFailed_nextUid (p : ProbeNo) (o : Option Order) (s : State) : (markParkFailed p o s).nextUid = s.nextUid := by dsimp only [markParkFailed]; (repeat' split) <;> simp
@[simp] theorem markParkFailed_link (p : ProbeNo) (o : Option Order) (s : State) : (markParkFailed p o s).link = s.link := by dsimp only [markParkFailed]; (repeat' split) <;> simp
@[simp] theorem markParkFailed_checks (p : ProbeNo) (o : Option Order) (s : State) : (markParkFailed p o s).checks = s.checks := by dsimp only [markParkFailed]; (repeat' split) <;> simp
@[simp] theorem markParkFailed_unit (p : ProbeNo) (o : Option Order) (s : State) : (markParkFailed p o s).unit = s.unit := by dsimp only [markParkFailed]; (repeat' split) <;> simp
@[simp] theorem markParkFailed_div (p : ProbeNo) (o : Option Order) (s : State) : (markParkFailed p o s).div = s.div := by dsimp only [markParkFailed]; (repeat' split) <;> simp
@[simp] theorem markParkFailed_log (p : ProbeNo) (o : Option Order) (s : State) : (markParkFailed p o s).log = s.log := by dsimp only [markParkFailed]; (repeat' split) <;> simp
@[simp] theorem markParkFailed_notice (p : ProbeNo) (o : Option Order) (s : State) : (markParkFailed p o s).notice = s.notice := by dsimp only [markParkFailed]; (repeat' split) <;> simp
@[simp] theorem markParkFailed_free (p : ProbeNo) (o : Option Order) (s : State) : (markParkFailed p o s).free = s.free := by dsimp only [markParkFailed]; (repeat' split) <;> simp

end Sys2Proof.Machine
end

