-- ==== Sys2Proof/Laws/Flow.lean ====
section
/-! SUPPORT. The fields the composite operations of the blocks leave as they were, one lemma per field. -/

namespace Sys2Proof.Machine

open Sys2Proof

/-- A fold of updates that keep something keeps it. -/
theorem foldl_same {α β : Type} (g : State → β) (f : State → α → State) (h : ∀ s x, g (f s x) = g s) (l : List α) (s : State) :
    g (l.foldl f s) = g s := by
  induction l generalizing s with
  | nil => rfl
  | cons x l ih => exact (ih (f s x)).trans (h s x)

/-- A request for an order that is taken: the conditions held, and the order was taken (R99, R100). -/
theorem requestOrder_some {p : ProbeNo} {o : Order} {s t : State} (h : requestOrder p o s = some t) :
    mayOrder p o s = true ∧ takeOrder p o s = t := by
  unfold requestOrder at h
  split at h
  · exact ⟨‹_›, Option.some.inj h⟩
  · cases h

@[simp] theorem liftProbe_pending (q : ProbeNo) (s : State) : (liftProbe q s).pending = s.pending := by
  unfold liftProbe
  cases h : requestOrder q .lift s with
  | none => rfl
  | some t => obtain ⟨-, rfl⟩ := requestOrder_some h; rfl
@[simp] theorem liftProbe_mem (q : ProbeNo) (s : State) : (liftProbe q s).mem = s.mem := by
  unfold liftProbe
  cases h : requestOrder q .lift s with
  | none => rfl
  | some t => obtain ⟨-, rfl⟩ := requestOrder_some h; rfl
@[simp] theorem liftProbe_regs (q : ProbeNo) (s : State) : (liftProbe q s).regs = s.regs := by
  unfold liftProbe
  cases h : requestOrder q .lift s with
  | none => rfl
  | some t => obtain ⟨-, rfl⟩ := requestOrder_some h; rfl
@[simp] theorem liftProbe_settings (q : ProbeNo) (s : State) : (liftProbe q s).settings = s.settings := by
  unfold liftProbe
  cases h : requestOrder q .lift s with
  | none => rfl
  | some t => obtain ⟨-, rfl⟩ := requestOrder_some h; rfl
@[simp] theorem liftProbe_corr (q : ProbeNo) (s : State) : (liftProbe q s).corr = s.corr := by
  unfold liftProbe
  cases h : requestOrder q .lift s with
  | none => rfl
  | some t => obtain ⟨-, rfl⟩ := requestOrder_some h; rfl
@[simp] theorem liftProbe_port (q : ProbeNo) (s : State) : (liftProbe q s).port = s.port := by
  unfold liftProbe
  cases h : requestOrder q .lift s with
  | none => rfl
  | some t => obtain ⟨-, rfl⟩ := requestOrder_some h; rfl
@[simp] theorem liftProbe_rc (q : ProbeNo) (s : State) : (liftProbe q s).rc = s.rc := by
  unfold liftProbe
  cases h : requestOrder q .lift s with
  | none => rfl
  | some t => obtain ⟨-, rfl⟩ := requestOrder_some h; rfl
@[simp] theorem liftProbe_fetch (q : ProbeNo) (s : State) : (liftProbe q s).fetch = s.fetch := by
  unfold liftProbe
  cases h : requestOrder q .lift s with
  | none => rfl
  | some t => obtain ⟨-, rfl⟩ := requestOrder_some h; rfl
@[simp] theorem liftProbe_window (q : ProbeNo) (s : State) : (liftProbe q s).window = s.window := by
  unfold liftProbe
  cases h : requestOrder q .lift s with
  | none => rfl
  | some t => obtain ⟨-, rfl⟩ := requestOrder_some h; rfl
@[simp] theorem liftProbe_nextUid (q : ProbeNo) (s : State) : (liftProbe q s).nextUid = s.nextUid := by
  unfold liftProbe
  cases h : requestOrder q .lift s with
  | none => rfl
  | some t => obtain ⟨-, rfl⟩ := requestOrder_some h; rfl
@[simp] theorem liftProbe_checks (q : ProbeNo) (s : State) : (liftProbe q s).checks = s.checks := by
  unfold liftProbe
  cases h : requestOrder q .lift s with
  | none => rfl
  | some t => obtain ⟨-, rfl⟩ := requestOrder_some h; rfl
@[simp] theorem liftProbe_unit (q : ProbeNo) (s : State) : (liftProbe q s).unit = s.unit := by
  unfold liftProbe
  cases h : requestOrder q .lift s with
  | none => rfl
  | some t => obtain ⟨-, rfl⟩ := requestOrder_some h; rfl
@[simp] theorem liftProbe_div (q : ProbeNo) (s : State) : (liftProbe q s).div = s.div := by
  unfold liftProbe
  cases h : requestOrder q .lift s with
  | none => rfl
  | some t => obtain ⟨-, rfl⟩ := requestOrder_some h; rfl
@[simp] theorem liftProbe_log (q : ProbeNo) (s : State) : (liftProbe q s).log = s.log := by
  unfold liftProbe
  cases h : requestOrder q .lift s with
  | none => rfl
  | some t => obtain ⟨-, rfl⟩ := requestOrder_some h; rfl
@[simp] theorem liftProbe_notice (q : ProbeNo) (s : State) : (liftProbe q s).notice = s.notice := by
  unfold liftProbe
  cases h : requestOrder q .lift s with
  | none => rfl
  | some t => obtain ⟨-, rfl⟩ := requestOrder_some h; rfl
@[simp] theorem liftProbe_free (q : ProbeNo) (s : State) : (liftProbe q s).free = s.free := by
  unfold liftProbe
  cases h : requestOrder q .lift s with
  | none => rfl
  | some t => obtain ⟨-, rfl⟩ := requestOrder_some h; rfl
@[simp] theorem resolveConflict_pending (e : Entry) (q : ProbeNo) (s : State) : (resolveConflict e q s).pending = s.pending := by dsimp only [resolveConflict]; (repeat' split) <;> (try (rename_i h; obtain ⟨-, rfl⟩ := requestOrder_some h)) <;> simp
@[simp] theorem resolveConflict_mem (e : Entry) (q : ProbeNo) (s : State) : (resolveConflict e q s).mem = s.mem := by dsimp only [resolveConflict]; (repeat' split) <;> (try (rename_i h; obtain ⟨-, rfl⟩ := requestOrder_some h)) <;> simp
@[simp] theorem resolveConflict_regs (e : Entry) (q : ProbeNo) (s : State) : (resolveConflict e q s).regs = s.regs := by dsimp only [resolveConflict]; (repeat' split) <;> (try (rename_i h; obtain ⟨-, rfl⟩ := requestOrder_some h)) <;> simp
@[simp] theorem resolveConflict_settings (e : Entry) (q : ProbeNo) (s : State) : (resolveConflict e q s).settings = s.settings := by dsimp only [resolveConflict]; (repeat' split) <;> (try (rename_i h; obtain ⟨-, rfl⟩ := requestOrder_some h)) <;> simp
@[simp] theorem resolveConflict_corr (e : Entry) (q : ProbeNo) (s : State) : (resolveConflict e q s).corr = s.corr := by dsimp only [resolveConflict]; (repeat' split) <;> (try (rename_i h; obtain ⟨-, rfl⟩ := requestOrder_some h)) <;> simp
@[simp] theorem resolveConflict_port (e : Entry) (q : ProbeNo) (s : State) : (resolveConflict e q s).port = s.port := by dsimp only [resolveConflict]; (repeat' split) <;> (try (rename_i h; obtain ⟨-, rfl⟩ := requestOrder_some h)) <;> simp
@[simp] theorem resolveConflict_rc (e : Entry) (q : ProbeNo) (s : State) : (resolveConflict e q s).rc = s.rc := by dsimp only [resolveConflict]; (repeat' split) <;> (try (rename_i h; obtain ⟨-, rfl⟩ := requestOrder_some h)) <;> simp
@[simp] theorem resolveConflict_fetch (e : Entry) (q : ProbeNo) (s : State) : (resolveConflict e q s).fetch = s.fetch := by dsimp only [resolveConflict]; (repeat' split) <;> (try (rename_i h; obtain ⟨-, rfl⟩ := requestOrder_some h)) <;> simp
@[simp] theorem resolveConflict_nextUid (e : Entry) (q : ProbeNo) (s : State) : (resolveConflict e q s).nextUid = s.nextUid := by dsimp only [resolveConflict]; (repeat' split) <;> (try (rename_i h; obtain ⟨-, rfl⟩ := requestOrder_some h)) <;> simp
@[simp] theorem resolveConflict_checks (e : Entry) (q : ProbeNo) (s : State) : (resolveConflict e q s).checks = s.checks := by dsimp only [resolveConflict]; (repeat' split) <;> (try (rename_i h; obtain ⟨-, rfl⟩ := requestOrder_some h)) <;> simp
@[simp] theorem resolveConflict_unit (e : Entry) (q : ProbeNo) (s : State) : (resolveConflict e q s).unit = s.unit := by dsimp only [resolveConflict]; (repeat' split) <;> (try (rename_i h; obtain ⟨-, rfl⟩ := requestOrder_some h)) <;> simp
@[simp] theorem resolveConflict_div (e : Entry) (q : ProbeNo) (s : State) : (resolveConflict e q s).div = s.div := by dsimp only [resolveConflict]; (repeat' split) <;> (try (rename_i h; obtain ⟨-, rfl⟩ := requestOrder_some h)) <;> simp
@[simp] theorem resolveConflict_log (e : Entry) (q : ProbeNo) (s : State) : (resolveConflict e q s).log = s.log := by dsimp only [resolveConflict]; (repeat' split) <;> (try (rename_i h; obtain ⟨-, rfl⟩ := requestOrder_some h)) <;> simp
@[simp] theorem resolveConflict_notice (e : Entry) (q : ProbeNo) (s : State) : (resolveConflict e q s).notice = s.notice := by dsimp only [resolveConflict]; (repeat' split) <;> (try (rename_i h; obtain ⟨-, rfl⟩ := requestOrder_some h)) <;> simp
@[simp] theorem resolveConflict_free (e : Entry) (q : ProbeNo) (s : State) : (resolveConflict e q s).free = s.free := by dsimp only [resolveConflict]; (repeat' split) <;> (try (rename_i h; obtain ⟨-, rfl⟩ := requestOrder_some h)) <;> simp
@[simp] theorem serveRole_pending (u i : Nat) (s : State) : (serveRole u i s).pending = s.pending := by
  dsimp only [serveRole]
  (repeat' split) <;> (try (rename_i h; obtain ⟨-, rfl⟩ := requestOrder_some h)) <;>
    simp [foldl_same (fun s : State => s.pending)]
@[simp] theorem serveRole_mem (u i : Nat) (s : State) : (serveRole u i s).mem = s.mem := by
  dsimp only [serveRole]
  (repeat' split) <;> (try (rename_i h; obtain ⟨-, rfl⟩ := requestOrder_some h)) <;>
    simp [foldl_same (fun s : State => s.mem)]
@[simp] theorem serveRole_regs (u i : Nat) (s : State) : (serveRole u i s).regs = s.regs := by
  dsimp only [serveRole]
  (repeat' split) <;> (try (rename_i h; obtain ⟨-, rfl⟩ := requestOrder_some h)) <;>
    simp [foldl_same (fun s : State => s.regs)]
@[simp] theorem serveRole_settings (u i : Nat) (s : State) : (serveRole u i s).settings = s.settings := by
  dsimp only [serveRole]
  (repeat' split) <;> (try (rename_i h; obtain ⟨-, rfl⟩ := requestOrder_some h)) <;>
    simp [foldl_same (fun s : State => s.settings)]
@[simp] theorem serveRole_corr (u i : Nat) (s : State) : (serveRole u i s).corr = s.corr := by
  dsimp only [serveRole]
  (repeat' split) <;> (try (rename_i h; obtain ⟨-, rfl⟩ := requestOrder_some h)) <;>
    simp [foldl_same (fun s : State => s.corr)]
@[simp] theorem serveRole_rc (u i : Nat) (s : State) : (serveRole u i s).rc = s.rc := by
  dsimp only [serveRole]
  (repeat' split) <;> (try (rename_i h; obtain ⟨-, rfl⟩ := requestOrder_some h)) <;>
    simp [foldl_same (fun s : State => s.rc)]
@[simp] theorem serveRole_fetch (u i : Nat) (s : State) : (serveRole u i s).fetch = s.fetch := by
  dsimp only [serveRole]
  (repeat' split) <;> (try (rename_i h; obtain ⟨-, rfl⟩ := requestOrder_some h)) <;>
    simp [foldl_same (fun s : State => s.fetch)]
@[simp] theorem serveRole_nextUid (u i : Nat) (s : State) : (serveRole u i s).nextUid = s.nextUid := by
  dsimp only [serveRole]
  (repeat' split) <;> (try (rename_i h; obtain ⟨-, rfl⟩ := requestOrder_some h)) <;>
    simp [foldl_same (fun s : State => s.nextUid)]
@[simp] theorem serveRole_div (u i : Nat) (s : State) : (serveRole u i s).div = s.div := by
  dsimp only [serveRole]
  (repeat' split) <;> (try (rename_i h; obtain ⟨-, rfl⟩ := requestOrder_some h)) <;>
    simp [foldl_same (fun s : State => s.div)]
@[simp] theorem serveRole_log (u i : Nat) (s : State) : (serveRole u i s).log = s.log := by
  dsimp only [serveRole]
  (repeat' split) <;> (try (rename_i h; obtain ⟨-, rfl⟩ := requestOrder_some h)) <;>
    simp [foldl_same (fun s : State => s.log)]
@[simp] theorem serveRole_notice (u i : Nat) (s : State) : (serveRole u i s).notice = s.notice := by
  dsimp only [serveRole]
  (repeat' split) <;> (try (rename_i h; obtain ⟨-, rfl⟩ := requestOrder_some h)) <;>
    simp [foldl_same (fun s : State => s.notice)]
@[simp] theorem serveRole_free (u i : Nat) (s : State) : (serveRole u i s).free = s.free := by
  dsimp only [serveRole]
  (repeat' split) <;> (try (rename_i h; obtain ⟨-, rfl⟩ := requestOrder_some h)) <;>
    simp [foldl_same (fun s : State => s.free)]
@[simp] theorem serveMember_pending (u i : Nat) (s : State) : (serveMember u i s).pending = s.pending := by dsimp only [serveMember]; (repeat' split) <;> (try (rename_i h; obtain ⟨-, rfl⟩ := requestOrder_some h)) <;> simp
@[simp] theorem serveMember_mem (u i : Nat) (s : State) : (serveMember u i s).mem = s.mem := by dsimp only [serveMember]; (repeat' split) <;> (try (rename_i h; obtain ⟨-, rfl⟩ := requestOrder_some h)) <;> simp
@[simp] theorem serveMember_regs (u i : Nat) (s : State) : (serveMember u i s).regs = s.regs := by dsimp only [serveMember]; (repeat' split) <;> (try (rename_i h; obtain ⟨-, rfl⟩ := requestOrder_some h)) <;> simp
@[simp] theorem serveMember_settings (u i : Nat) (s : State) : (serveMember u i s).settings = s.settings := by dsimp only [serveMember]; (repeat' split) <;> (try (rename_i h; obtain ⟨-, rfl⟩ := requestOrder_some h)) <;> simp
@[simp] theorem serveMember_corr (u i : Nat) (s : State) : (serveMember u i s).corr = s.corr := by dsimp only [serveMember]; (repeat' split) <;> (try (rename_i h; obtain ⟨-, rfl⟩ := requestOrder_some h)) <;> simp
@[simp] theorem serveMember_rc (u i : Nat) (s : State) : (serveMember u i s).rc = s.rc := by dsimp only [serveMember]; (repeat' split) <;> (try (rename_i h; obtain ⟨-, rfl⟩ := requestOrder_some h)) <;> simp
@[simp] theorem serveMember_fetch (u i : Nat) (s : State) : (serveMember u i s).fetch = s.fetch := by dsimp only [serveMember]; (repeat' split) <;> (try (rename_i h; obtain ⟨-, rfl⟩ := requestOrder_some h)) <;> simp
@[simp] theorem serveMember_nextUid (u i : Nat) (s : State) : (serveMember u i s).nextUid = s.nextUid := by dsimp only [serveMember]; (repeat' split) <;> (try (rename_i h; obtain ⟨-, rfl⟩ := requestOrder_some h)) <;> simp
@[simp] theorem serveMember_div (u i : Nat) (s : State) : (serveMember u i s).div = s.div := by dsimp only [serveMember]; (repeat' split) <;> (try (rename_i h; obtain ⟨-, rfl⟩ := requestOrder_some h)) <;> simp
@[simp] theorem serveMember_log (u i : Nat) (s : State) : (serveMember u i s).log = s.log := by dsimp only [serveMember]; (repeat' split) <;> (try (rename_i h; obtain ⟨-, rfl⟩ := requestOrder_some h)) <;> simp
@[simp] theorem serveMember_notice (u i : Nat) (s : State) : (serveMember u i s).notice = s.notice := by dsimp only [serveMember]; (repeat' split) <;> (try (rename_i h; obtain ⟨-, rfl⟩ := requestOrder_some h)) <;> simp
@[simp] theorem serveMember_free (u i : Nat) (s : State) : (serveMember u i s).free = s.free := by dsimp only [serveMember]; (repeat' split) <;> (try (rename_i h; obtain ⟨-, rfl⟩ := requestOrder_some h)) <;> simp
@[simp] theorem sweepFaulted_pending (u : Nat) (s : State) : (sweepFaulted u s).pending = s.pending := by dsimp only [sweepFaulted]; (repeat' split) <;> simp
@[simp] theorem sweepFaulted_mem (u : Nat) (s : State) : (sweepFaulted u s).mem = s.mem := by dsimp only [sweepFaulted]; (repeat' split) <;> simp
@[simp] theorem sweepFaulted_regs (u : Nat) (s : State) : (sweepFaulted u s).regs = s.regs := by dsimp only [sweepFaulted]; (repeat' split) <;> simp
@[simp] theorem sweepFaulted_settings (u : Nat) (s : State) : (sweepFaulted u s).settings = s.settings := by dsimp only [sweepFaulted]; (repeat' split) <;> simp
@[simp] theorem sweepFaulted_corr (u : Nat) (s : State) : (sweepFaulted u s).corr = s.corr := by dsimp only [sweepFaulted]; (repeat' split) <;> simp
@[simp] theorem sweepFaulted_rc (u : Nat) (s : State) : (sweepFaulted u s).rc = s.rc := by dsimp only [sweepFaulted]; (repeat' split) <;> simp
@[simp] theorem sweepFaulted_fetch (u : Nat) (s : State) : (sweepFaulted u s).fetch = s.fetch := by dsimp only [sweepFaulted]; (repeat' split) <;> simp
@[simp] theorem sweepFaulted_nextUid (u : Nat) (s : State) : (sweepFaulted u s).nextUid = s.nextUid := by dsimp only [sweepFaulted]; (repeat' split) <;> simp
@[simp] theorem sweepFaulted_div (u : Nat) (s : State) : (sweepFaulted u s).div = s.div := by dsimp only [sweepFaulted]; (repeat' split) <;> simp
@[simp] theorem sweepFaulted_log (u : Nat) (s : State) : (sweepFaulted u s).log = s.log := by dsimp only [sweepFaulted]; (repeat' split) <;> simp
@[simp] theorem sweepFaulted_notice (u : Nat) (s : State) : (sweepFaulted u s).notice = s.notice := by dsimp only [sweepFaulted]; (repeat' split) <;> simp
@[simp] theorem sweepFaulted_free (u : Nat) (s : State) : (sweepFaulted u s).free = s.free := by dsimp only [sweepFaulted]; (repeat' split) <;> simp
@[simp] theorem serveEntry_pending (u : Nat) (s : State) : (serveEntry u s).pending = s.pending := by
  dsimp only [serveEntry]
  split <;> simp [foldl_same (fun s : State => s.pending)]
@[simp] theorem serveEntry_mem (u : Nat) (s : State) : (serveEntry u s).mem = s.mem := by
  dsimp only [serveEntry]
  split <;> simp [foldl_same (fun s : State => s.mem)]
@[simp] theorem serveEntry_regs (u : Nat) (s : State) : (serveEntry u s).regs = s.regs := by
  dsimp only [serveEntry]
  split <;> simp [foldl_same (fun s : State => s.regs)]
@[simp] theorem serveEntry_settings (u : Nat) (s : State) : (serveEntry u s).settings = s.settings := by
  dsimp only [serveEntry]
  split <;> simp [foldl_same (fun s : State => s.settings)]
@[simp] theorem serveEntry_corr (u : Nat) (s : State) : (serveEntry u s).corr = s.corr := by
  dsimp only [serveEntry]
  split <;> simp [foldl_same (fun s : State => s.corr)]
@[simp] theorem serveEntry_rc (u : Nat) (s : State) : (serveEntry u s).rc = s.rc := by
  dsimp only [serveEntry]
  split <;> simp [foldl_same (fun s : State => s.rc)]
@[simp] theorem serveEntry_fetch (u : Nat) (s : State) : (serveEntry u s).fetch = s.fetch := by
  dsimp only [serveEntry]
  split <;> simp [foldl_same (fun s : State => s.fetch)]
@[simp] theorem serveEntry_nextUid (u : Nat) (s : State) : (serveEntry u s).nextUid = s.nextUid := by
  dsimp only [serveEntry]
  split <;> simp [foldl_same (fun s : State => s.nextUid)]
@[simp] theorem serveEntry_div (u : Nat) (s : State) : (serveEntry u s).div = s.div := by
  dsimp only [serveEntry]
  split <;> simp [foldl_same (fun s : State => s.div)]
@[simp] theorem serveEntry_log (u : Nat) (s : State) : (serveEntry u s).log = s.log := by
  dsimp only [serveEntry]
  split <;> simp [foldl_same (fun s : State => s.log)]
@[simp] theorem serveEntry_notice (u : Nat) (s : State) : (serveEntry u s).notice = s.notice := by
  dsimp only [serveEntry]
  split <;> simp [foldl_same (fun s : State => s.notice)]
@[simp] theorem serveEntry_free (u : Nat) (s : State) : (serveEntry u s).free = s.free := by
  dsimp only [serveEntry]
  split <;> simp [foldl_same (fun s : State => s.free)]
@[simp] theorem servingPass_pending (s : State) : (servingPass s).pending = s.pending := by
  dsimp only [servingPass]
  split <;> simp [foldl_same (fun s : State => s.pending)]
@[simp] theorem servingPass_mem (s : State) : (servingPass s).mem = s.mem := by
  dsimp only [servingPass]
  split <;> simp [foldl_same (fun s : State => s.mem)]
@[simp] theorem servingPass_regs (s : State) : (servingPass s).regs = s.regs := by
  dsimp only [servingPass]
  split <;> simp [foldl_same (fun s : State => s.regs)]
@[simp] theorem servingPass_settings (s : State) : (servingPass s).settings = s.settings := by
  dsimp only [servingPass]
  split <;> simp [foldl_same (fun s : State => s.settings)]
@[simp] theorem servingPass_corr (s : State) : (servingPass s).corr = s.corr := by
  dsimp only [servingPass]
  split <;> simp [foldl_same (fun s : State => s.corr)]
@[simp] theorem servingPass_rc (s : State) : (servingPass s).rc = s.rc := by
  dsimp only [servingPass]
  split <;> simp [foldl_same (fun s : State => s.rc)]
@[simp] theorem servingPass_fetch (s : State) : (servingPass s).fetch = s.fetch := by
  dsimp only [servingPass]
  split <;> simp [foldl_same (fun s : State => s.fetch)]
@[simp] theorem servingPass_nextUid (s : State) : (servingPass s).nextUid = s.nextUid := by
  dsimp only [servingPass]
  split <;> simp [foldl_same (fun s : State => s.nextUid)]
@[simp] theorem servingPass_div (s : State) : (servingPass s).div = s.div := by
  dsimp only [servingPass]
  split <;> simp [foldl_same (fun s : State => s.div)]
@[simp] theorem servingPass_log (s : State) : (servingPass s).log = s.log := by
  dsimp only [servingPass]
  split <;> simp [foldl_same (fun s : State => s.log)]
@[simp] theorem servingPass_notice (s : State) : (servingPass s).notice = s.notice := by
  dsimp only [servingPass]
  split <;> simp [foldl_same (fun s : State => s.notice)]
@[simp] theorem servingPass_free (s : State) : (servingPass s).free = s.free := by
  dsimp only [servingPass]
  split <;> simp [foldl_same (fun s : State => s.free)]
@[simp] theorem checkFailed_pending (p : ProbeNo) (e : Entry) (i : Nat) (r : Role) (s : State) : (checkFailed p e i r s).pending = s.pending := by dsimp only [checkFailed]; (repeat' split) <;> (try (rename_i h; obtain ⟨-, rfl⟩ := requestOrder_some h)) <;> simp
@[simp] theorem checkFailed_mem (p : ProbeNo) (e : Entry) (i : Nat) (r : Role) (s : State) : (checkFailed p e i r s).mem = s.mem := by dsimp only [checkFailed]; (repeat' split) <;> (try (rename_i h; obtain ⟨-, rfl⟩ := requestOrder_some h)) <;> simp
@[simp] theorem checkFailed_regs (p : ProbeNo) (e : Entry) (i : Nat) (r : Role) (s : State) : (checkFailed p e i r s).regs = s.regs := by dsimp only [checkFailed]; (repeat' split) <;> (try (rename_i h; obtain ⟨-, rfl⟩ := requestOrder_some h)) <;> simp
@[simp] theorem checkFailed_settings (p : ProbeNo) (e : Entry) (i : Nat) (r : Role) (s : State) : (checkFailed p e i r s).settings = s.settings := by dsimp only [checkFailed]; (repeat' split) <;> (try (rename_i h; obtain ⟨-, rfl⟩ := requestOrder_some h)) <;> simp
@[simp] theorem checkFailed_corr (p : ProbeNo) (e : Entry) (i : Nat) (r : Role) (s : State) : (checkFailed p e i r s).corr = s.corr := by dsimp only [checkFailed]; (repeat' split) <;> (try (rename_i h; obtain ⟨-, rfl⟩ := requestOrder_some h)) <;> simp
@[simp] theorem checkFailed_rc (p : ProbeNo) (e : Entry) (i : Nat) (r : Role) (s : State) : (checkFailed p e i r s).rc = s.rc := by dsimp only [checkFailed]; (repeat' split) <;> (try (rename_i h; obtain ⟨-, rfl⟩ := requestOrder_some h)) <;> simp
@[simp] theorem checkFailed_fetch (p : ProbeNo) (e : Entry) (i : Nat) (r : Role) (s : State) : (checkFailed p e i r s).fetch = s.fetch := by dsimp only [checkFailed]; (repeat' split) <;> (try (rename_i h; obtain ⟨-, rfl⟩ := requestOrder_some h)) <;> simp
@[simp] theorem checkFailed_nextUid (p : ProbeNo) (e : Entry) (i : Nat) (r : Role) (s : State) : (checkFailed p e i r s).nextUid = s.nextUid := by dsimp only [checkFailed]; (repeat' split) <;> (try (rename_i h; obtain ⟨-, rfl⟩ := requestOrder_some h)) <;> simp
@[simp] theorem checkFailed_div (p : ProbeNo) (e : Entry) (i : Nat) (r : Role) (s : State) : (checkFailed p e i r s).div = s.div := by dsimp only [checkFailed]; (repeat' split) <;> (try (rename_i h; obtain ⟨-, rfl⟩ := requestOrder_some h)) <;> simp
@[simp] theorem checkFailed_log (p : ProbeNo) (e : Entry) (i : Nat) (r : Role) (s : State) : (checkFailed p e i r s).log = s.log := by dsimp only [checkFailed]; (repeat' split) <;> (try (rename_i h; obtain ⟨-, rfl⟩ := requestOrder_some h)) <;> simp
@[simp] theorem checkFailed_notice (p : ProbeNo) (e : Entry) (i : Nat) (r : Role) (s : State) : (checkFailed p e i r s).notice = s.notice := by dsimp only [checkFailed]; (repeat' split) <;> (try (rename_i h; obtain ⟨-, rfl⟩ := requestOrder_some h)) <;> simp
@[simp] theorem checkFailed_free (p : ProbeNo) (e : Entry) (i : Nat) (r : Role) (s : State) : (checkFailed p e i r s).free = s.free := by dsimp only [checkFailed]; (repeat' split) <;> (try (rename_i h; obtain ⟨-, rfl⟩ := requestOrder_some h)) <;> simp
@[simp] theorem windowResult_pending (p : ProbeNo) (c : CheckRec) (b : Bool) (s : State) : (windowResult p c b s).pending = s.pending := by dsimp only [windowResult]; (repeat' split) <;> simp
@[simp] theorem windowResult_mem (p : ProbeNo) (c : CheckRec) (b : Bool) (s : State) : (windowResult p c b s).mem = s.mem := by dsimp only [windowResult]; (repeat' split) <;> simp
@[simp] theorem windowResult_regs (p : ProbeNo) (c : CheckRec) (b : Bool) (s : State) : (windowResult p c b s).regs = s.regs := by dsimp only [windowResult]; (repeat' split) <;> simp
@[simp] theorem windowResult_settings (p : ProbeNo) (c : CheckRec) (b : Bool) (s : State) : (windowResult p c b s).settings = s.settings := by dsimp only [windowResult]; (repeat' split) <;> simp
@[simp] theorem windowResult_corr (p : ProbeNo) (c : CheckRec) (b : Bool) (s : State) : (windowResult p c b s).corr = s.corr := by dsimp only [windowResult]; (repeat' split) <;> simp
@[simp] theorem windowResult_rc (p : ProbeNo) (c : CheckRec) (b : Bool) (s : State) : (windowResult p c b s).rc = s.rc := by dsimp only [windowResult]; (repeat' split) <;> simp
@[simp] theorem windowResult_fetch (p : ProbeNo) (c : CheckRec) (b : Bool) (s : State) : (windowResult p c b s).fetch = s.fetch := by dsimp only [windowResult]; (repeat' split) <;> simp
@[simp] theorem windowResult_nextUid (p : ProbeNo) (c : CheckRec) (b : Bool) (s : State) : (windowResult p c b s).nextUid = s.nextUid := by dsimp only [windowResult]; (repeat' split) <;> simp
@[simp] theorem windowResult_div (p : ProbeNo) (c : CheckRec) (b : Bool) (s : State) : (windowResult p c b s).div = s.div := by dsimp only [windowResult]; (repeat' split) <;> simp
@[simp] theorem windowResult_log (p : ProbeNo) (c : CheckRec) (b : Bool) (s : State) : (windowResult p c b s).log = s.log := by dsimp only [windowResult]; (repeat' split) <;> simp
@[simp] theorem windowResult_notice (p : ProbeNo) (c : CheckRec) (b : Bool) (s : State) : (windowResult p c b s).notice = s.notice := by dsimp only [windowResult]; (repeat' split) <;> simp
@[simp] theorem windowResult_free (p : ProbeNo) (c : CheckRec) (b : Bool) (s : State) : (windowResult p c b s).free = s.free := by dsimp only [windowResult]; (repeat' split) <;> simp
@[simp] theorem parkOne_pending (p : ProbeNo) (s : State) : (parkOne p s).pending = s.pending := by dsimp only [parkOne]; (repeat' split) <;> (try (rename_i h; obtain ⟨-, rfl⟩ := requestOrder_some h)) <;> simp
@[simp] theorem parkOne_mem (p : ProbeNo) (s : State) : (parkOne p s).mem = s.mem := by dsimp only [parkOne]; (repeat' split) <;> (try (rename_i h; obtain ⟨-, rfl⟩ := requestOrder_some h)) <;> simp
@[simp] theorem parkOne_regs (p : ProbeNo) (s : State) : (parkOne p s).regs = s.regs := by dsimp only [parkOne]; (repeat' split) <;> (try (rename_i h; obtain ⟨-, rfl⟩ := requestOrder_some h)) <;> simp
@[simp] theorem parkOne_settings (p : ProbeNo) (s : State) : (parkOne p s).settings = s.settings := by dsimp only [parkOne]; (repeat' split) <;> (try (rename_i h; obtain ⟨-, rfl⟩ := requestOrder_some h)) <;> simp
@[simp] theorem parkOne_corr (p : ProbeNo) (s : State) : (parkOne p s).corr = s.corr := by dsimp only [parkOne]; (repeat' split) <;> (try (rename_i h; obtain ⟨-, rfl⟩ := requestOrder_some h)) <;> simp
@[simp] theorem parkOne_port (p : ProbeNo) (s : State) : (parkOne p s).port = s.port := by dsimp only [parkOne]; (repeat' split) <;> (try (rename_i h; obtain ⟨-, rfl⟩ := requestOrder_some h)) <;> simp
@[simp] theorem parkOne_fetch (p : ProbeNo) (s : State) : (parkOne p s).fetch = s.fetch := by dsimp only [parkOne]; (repeat' split) <;> (try (rename_i h; obtain ⟨-, rfl⟩ := requestOrder_some h)) <;> simp
@[simp] theorem parkOne_window (p : ProbeNo) (s : State) : (parkOne p s).window = s.window := by dsimp only [parkOne]; (repeat' split) <;> (try (rename_i h; obtain ⟨-, rfl⟩ := requestOrder_some h)) <;> simp
@[simp] theorem parkOne_nextUid (p : ProbeNo) (s : State) : (parkOne p s).nextUid = s.nextUid := by dsimp only [parkOne]; (repeat' split) <;> (try (rename_i h; obtain ⟨-, rfl⟩ := requestOrder_some h)) <;> simp
@[simp] theorem parkOne_checks (p : ProbeNo) (s : State) : (parkOne p s).checks = s.checks := by dsimp only [parkOne]; (repeat' split) <;> (try (rename_i h; obtain ⟨-, rfl⟩ := requestOrder_some h)) <;> simp
@[simp] theorem parkOne_unit (p : ProbeNo) (s : State) : (parkOne p s).unit = s.unit := by dsimp only [parkOne]; (repeat' split) <;> (try (rename_i h; obtain ⟨-, rfl⟩ := requestOrder_some h)) <;> simp
@[simp] theorem parkOne_div (p : ProbeNo) (s : State) : (parkOne p s).div = s.div := by dsimp only [parkOne]; (repeat' split) <;> (try (rename_i h; obtain ⟨-, rfl⟩ := requestOrder_some h)) <;> simp
@[simp] theorem parkOne_log (p : ProbeNo) (s : State) : (parkOne p s).log = s.log := by dsimp only [parkOne]; (repeat' split) <;> (try (rename_i h; obtain ⟨-, rfl⟩ := requestOrder_some h)) <;> simp
@[simp] theorem parkOne_notice (p : ProbeNo) (s : State) : (parkOne p s).notice = s.notice := by dsimp only [parkOne]; (repeat' split) <;> (try (rename_i h; obtain ⟨-, rfl⟩ := requestOrder_some h)) <;> simp
@[simp] theorem parkOne_free (p : ProbeNo) (s : State) : (parkOne p s).free = s.free := by dsimp only [parkOne]; (repeat' split) <;> (try (rename_i h; obtain ⟨-, rfl⟩ := requestOrder_some h)) <;> simp
@[simp] theorem parkAll_pending (s : State) : (parkAll s).pending = s.pending := by simp [parkAll, foldl_same (fun s : State => s.pending)]
@[simp] theorem parkAll_mem (s : State) : (parkAll s).mem = s.mem := by simp [parkAll, foldl_same (fun s : State => s.mem)]
@[simp] theorem parkAll_regs (s : State) : (parkAll s).regs = s.regs := by simp [parkAll, foldl_same (fun s : State => s.regs)]
@[simp] theorem parkAll_settings (s : State) : (parkAll s).settings = s.settings := by simp [parkAll, foldl_same (fun s : State => s.settings)]
@[simp] theorem parkAll_corr (s : State) : (parkAll s).corr = s.corr := by simp [parkAll, foldl_same (fun s : State => s.corr)]
@[simp] theorem parkAll_port (s : State) : (parkAll s).port = s.port := by simp [parkAll, foldl_same (fun s : State => s.port)]
@[simp] theorem parkAll_fetch (s : State) : (parkAll s).fetch = s.fetch := by simp [parkAll, foldl_same (fun s : State => s.fetch)]
@[simp] theorem parkAll_window (s : State) : (parkAll s).window = s.window := by simp [parkAll, foldl_same (fun s : State => s.window)]
@[simp] theorem parkAll_nextUid (s : State) : (parkAll s).nextUid = s.nextUid := by simp [parkAll, foldl_same (fun s : State => s.nextUid)]
@[simp] theorem parkAll_checks (s : State) : (parkAll s).checks = s.checks := by simp [parkAll, foldl_same (fun s : State => s.checks)]
@[simp] theorem parkAll_unit (s : State) : (parkAll s).unit = s.unit := by simp [parkAll, foldl_same (fun s : State => s.unit)]
@[simp] theorem parkAll_div (s : State) : (parkAll s).div = s.div := by simp [parkAll, foldl_same (fun s : State => s.div)]
@[simp] theorem parkAll_log (s : State) : (parkAll s).log = s.log := by simp [parkAll, foldl_same (fun s : State => s.log)]
@[simp] theorem parkAll_notice (s : State) : (parkAll s).notice = s.notice := by simp [parkAll, foldl_same (fun s : State => s.notice)]
@[simp] theorem parkAll_free (s : State) : (parkAll s).free = s.free := by simp [parkAll, foldl_same (fun s : State => s.free)]
@[simp] theorem endActivity_pending (s : State) : (endActivity s).pending = s.pending := by dsimp only [endActivity]; simp
@[simp] theorem endActivity_mem (s : State) : (endActivity s).mem = s.mem := by dsimp only [endActivity]; simp
@[simp] theorem endActivity_regs (s : State) : (endActivity s).regs = s.regs := by dsimp only [endActivity]; simp
@[simp] theorem endActivity_settings (s : State) : (endActivity s).settings = s.settings := by dsimp only [endActivity]; simp
@[simp] theorem endActivity_corr (s : State) : (endActivity s).corr = s.corr := by dsimp only [endActivity]; simp
@[simp] theorem endActivity_nextUid (s : State) : (endActivity s).nextUid = s.nextUid := by dsimp only [endActivity]; simp
@[simp] theorem endActivity_link (s : State) : (endActivity s).link = s.link := by dsimp only [endActivity]; simp
@[simp] theorem endActivity_free (s : State) : (endActivity s).free = s.free := by dsimp only [endActivity]; simp
@[simp] theorem runHaltSeqs_pending (l : List HaltSeq) (s : State) : (runHaltSeqs l s).pending = s.pending := by
  induction l generalizing s with
  | nil => rfl
  | cons h t ih => dsimp only [runHaltSeqs]; (repeat' split) <;> simp [ih]
@[simp] theorem runHaltSeqs_mem (l : List HaltSeq) (s : State) : (runHaltSeqs l s).mem = s.mem := by
  induction l generalizing s with
  | nil => rfl
  | cons h t ih => dsimp only [runHaltSeqs]; (repeat' split) <;> simp [ih]
@[simp] theorem runHaltSeqs_regs (l : List HaltSeq) (s : State) : (runHaltSeqs l s).regs = s.regs := by
  induction l generalizing s with
  | nil => rfl
  | cons h t ih => dsimp only [runHaltSeqs]; (repeat' split) <;> simp [ih]
@[simp] theorem runHaltSeqs_settings (l : List HaltSeq) (s : State) : (runHaltSeqs l s).settings = s.settings := by
  induction l generalizing s with
  | nil => rfl
  | cons h t ih => dsimp only [runHaltSeqs]; (repeat' split) <;> simp [ih]
@[simp] theorem runHaltSeqs_corr (l : List HaltSeq) (s : State) : (runHaltSeqs l s).corr = s.corr := by
  induction l generalizing s with
  | nil => rfl
  | cons h t ih => dsimp only [runHaltSeqs]; (repeat' split) <;> simp [ih]
@[simp] theorem runHaltSeqs_fetch (l : List HaltSeq) (s : State) : (runHaltSeqs l s).fetch = s.fetch := by
  induction l generalizing s with
  | nil => rfl
  | cons h t ih => dsimp only [runHaltSeqs]; (repeat' split) <;> simp [ih]
@[simp] theorem runHaltSeqs_window (l : List HaltSeq) (s : State) : (runHaltSeqs l s).window = s.window := by
  induction l generalizing s with
  | nil => rfl
  | cons h t ih => dsimp only [runHaltSeqs]; (repeat' split) <;> simp [ih]
@[simp] theorem runHaltSeqs_nextUid (l : List HaltSeq) (s : State) : (runHaltSeqs l s).nextUid = s.nextUid := by
  induction l generalizing s with
  | nil => rfl
  | cons h t ih => dsimp only [runHaltSeqs]; (repeat' split) <;> simp [ih]
@[simp] theorem runHaltSeqs_link (l : List HaltSeq) (s : State) : (runHaltSeqs l s).link = s.link := by
  induction l generalizing s with
  | nil => rfl
  | cons h t ih => dsimp only [runHaltSeqs]; (repeat' split) <;> simp [ih]
@[simp] theorem runHaltSeqs_checks (l : List HaltSeq) (s : State) : (runHaltSeqs l s).checks = s.checks := by
  induction l generalizing s with
  | nil => rfl
  | cons h t ih => dsimp only [runHaltSeqs]; (repeat' split) <;> simp [ih]
@[simp] theorem runHaltSeqs_unit (l : List HaltSeq) (s : State) : (runHaltSeqs l s).unit = s.unit := by
  induction l generalizing s with
  | nil => rfl
  | cons h t ih => dsimp only [runHaltSeqs]; (repeat' split) <;> simp [ih]
@[simp] theorem runHaltSeqs_div (l : List HaltSeq) (s : State) : (runHaltSeqs l s).div = s.div := by
  induction l generalizing s with
  | nil => rfl
  | cons h t ih => dsimp only [runHaltSeqs]; (repeat' split) <;> simp [ih]
@[simp] theorem runHaltSeqs_log (l : List HaltSeq) (s : State) : (runHaltSeqs l s).log = s.log := by
  induction l generalizing s with
  | nil => rfl
  | cons h t ih => dsimp only [runHaltSeqs]; (repeat' split) <;> simp [ih]
@[simp] theorem runHaltSeqs_free (l : List HaltSeq) (s : State) : (runHaltSeqs l s).free = s.free := by
  induction l generalizing s with
  | nil => rfl
  | cons h t ih => dsimp only [runHaltSeqs]; (repeat' split) <;> simp [ih]
@[simp] theorem advanceHalt_pending (s : State) : (advanceHalt s).pending = s.pending := by dsimp only [advanceHalt]; (repeat' split) <;> simp
@[simp] theorem advanceHalt_mem (s : State) : (advanceHalt s).mem = s.mem := by dsimp only [advanceHalt]; (repeat' split) <;> simp
@[simp] theorem advanceHalt_regs (s : State) : (advanceHalt s).regs = s.regs := by dsimp only [advanceHalt]; (repeat' split) <;> simp
@[simp] theorem advanceHalt_settings (s : State) : (advanceHalt s).settings = s.settings := by dsimp only [advanceHalt]; (repeat' split) <;> simp
@[simp] theorem advanceHalt_corr (s : State) : (advanceHalt s).corr = s.corr := by dsimp only [advanceHalt]; (repeat' split) <;> simp
@[simp] theorem advanceHalt_fetch (s : State) : (advanceHalt s).fetch = s.fetch := by dsimp only [advanceHalt]; (repeat' split) <;> simp
@[simp] theorem advanceHalt_window (s : State) : (advanceHalt s).window = s.window := by dsimp only [advanceHalt]; (repeat' split) <;> simp
@[simp] theorem advanceHalt_nextUid (s : State) : (advanceHalt s).nextUid = s.nextUid := by dsimp only [advanceHalt]; (repeat' split) <;> simp
@[simp] theorem advanceHalt_link (s : State) : (advanceHalt s).link = s.link := by dsimp only [advanceHalt]; (repeat' split) <;> simp
@[simp] theorem advanceHalt_checks (s : State) : (advanceHalt s).checks = s.checks := by dsimp only [advanceHalt]; (repeat' split) <;> simp
@[simp] theorem advanceHalt_unit (s : State) : (advanceHalt s).unit = s.unit := by dsimp only [advanceHalt]; (repeat' split) <;> simp
@[simp] theorem advanceHalt_div (s : State) : (advanceHalt s).div = s.div := by dsimp only [advanceHalt]; (repeat' split) <;> simp
@[simp] theorem advanceHalt_log (s : State) : (advanceHalt s).log = s.log := by dsimp only [advanceHalt]; (repeat' split) <;> simp
@[simp] theorem advanceHalt_free (s : State) : (advanceHalt s).free = s.free := by dsimp only [advanceHalt]; (repeat' split) <;> simp
@[simp] theorem enterHalted_pending (c : EndCode) (w : Word) (s : State) : (enterHalted c w s).pending = s.pending := by dsimp only [enterHalted]; (repeat' split) <;> simp
@[simp] theorem enterHalted_mem (c : EndCode) (w : Word) (s : State) : (enterHalted c w s).mem = s.mem := by dsimp only [enterHalted]; (repeat' split) <;> simp
@[simp] theorem enterHalted_regs (c : EndCode) (w : Word) (s : State) : (enterHalted c w s).regs = s.regs := by dsimp only [enterHalted]; (repeat' split) <;> simp
@[simp] theorem enterHalted_settings (c : EndCode) (w : Word) (s : State) : (enterHalted c w s).settings = s.settings := by dsimp only [enterHalted]; (repeat' split) <;> simp
@[simp] theorem enterHalted_corr (c : EndCode) (w : Word) (s : State) : (enterHalted c w s).corr = s.corr := by dsimp only [enterHalted]; (repeat' split) <;> simp
@[simp] theorem enterHalted_nextUid (c : EndCode) (w : Word) (s : State) : (enterHalted c w s).nextUid = s.nextUid := by dsimp only [enterHalted]; (repeat' split) <;> simp
@[simp] theorem enterHalted_link (c : EndCode) (w : Word) (s : State) : (enterHalted c w s).link = s.link := by dsimp only [enterHalted]; (repeat' split) <;> simp
@[simp] theorem enterHalted_free (c : EndCode) (w : Word) (s : State) : (enterHalted c w s).free = s.free := by dsimp only [enterHalted]; (repeat' split) <;> simp
@[simp] theorem enterStopping_pending (c : EndCode) (s : State) : (enterStopping c s).pending = s.pending := rfl
@[simp] theorem enterStopping_mem (c : EndCode) (s : State) : (enterStopping c s).mem = s.mem := rfl
@[simp] theorem enterStopping_regs (c : EndCode) (s : State) : (enterStopping c s).regs = s.regs := rfl
@[simp] theorem enterStopping_settings (c : EndCode) (s : State) : (enterStopping c s).settings = s.settings := rfl
@[simp] theorem enterStopping_corr (c : EndCode) (s : State) : (enterStopping c s).corr = s.corr := rfl
@[simp] theorem enterStopping_port (c : EndCode) (s : State) : (enterStopping c s).port = s.port := rfl
@[simp] theorem enterStopping_fetch (c : EndCode) (s : State) : (enterStopping c s).fetch = s.fetch := rfl
@[simp] theorem enterStopping_window (c : EndCode) (s : State) : (enterStopping c s).window = s.window := rfl
@[simp] theorem enterStopping_nextUid (c : EndCode) (s : State) : (enterStopping c s).nextUid = s.nextUid := rfl
@[simp] theorem enterStopping_link (c : EndCode) (s : State) : (enterStopping c s).link = s.link := rfl
@[simp] theorem enterStopping_checks (c : EndCode) (s : State) : (enterStopping c s).checks = s.checks := rfl
@[simp] theorem enterStopping_unit (c : EndCode) (s : State) : (enterStopping c s).unit = s.unit := rfl
@[simp] theorem enterStopping_div (c : EndCode) (s : State) : (enterStopping c s).div = s.div := rfl
@[simp] theorem enterStopping_log (c : EndCode) (s : State) : (enterStopping c s).log = s.log := rfl
@[simp] theorem enterStopping_notice (c : EndCode) (s : State) : (enterStopping c s).notice = s.notice := rfl
@[simp] theorem enterStopping_free (c : EndCode) (s : State) : (enterStopping c s).free = s.free := rfl
@[simp] theorem finishStopping_pending (s : State) : (finishStopping s).pending = s.pending := rfl
@[simp] theorem finishStopping_mem (s : State) : (finishStopping s).mem = s.mem := rfl
@[simp] theorem finishStopping_regs (s : State) : (finishStopping s).regs = s.regs := rfl
@[simp] theorem finishStopping_settings (s : State) : (finishStopping s).settings = s.settings := rfl
@[simp] theorem finishStopping_corr (s : State) : (finishStopping s).corr = s.corr := rfl
@[simp] theorem finishStopping_port (s : State) : (finishStopping s).port = s.port := rfl
@[simp] theorem finishStopping_fetch (s : State) : (finishStopping s).fetch = s.fetch := rfl
@[simp] theorem finishStopping_window (s : State) : (finishStopping s).window = s.window := rfl
@[simp] theorem finishStopping_nextUid (s : State) : (finishStopping s).nextUid = s.nextUid := rfl
@[simp] theorem finishStopping_link (s : State) : (finishStopping s).link = s.link := rfl
@[simp] theorem finishStopping_checks (s : State) : (finishStopping s).checks = s.checks := rfl
@[simp] theorem finishStopping_unit (s : State) : (finishStopping s).unit = s.unit := rfl
@[simp] theorem finishStopping_div (s : State) : (finishStopping s).div = s.div := rfl
@[simp] theorem finishStopping_log (s : State) : (finishStopping s).log = s.log := rfl
@[simp] theorem finishStopping_free (s : State) : (finishStopping s).free = s.free := rfl
@[simp] theorem runStopPhase_pending (ph : ClosePhase) (s : State) : (runStopPhase ph s).pending = s.pending := by dsimp only [runStopPhase]; (repeat' split) <;> simp
@[simp] theorem runStopPhase_mem (ph : ClosePhase) (s : State) : (runStopPhase ph s).mem = s.mem := by dsimp only [runStopPhase]; (repeat' split) <;> simp
@[simp] theorem runStopPhase_regs (ph : ClosePhase) (s : State) : (runStopPhase ph s).regs = s.regs := by dsimp only [runStopPhase]; (repeat' split) <;> simp
@[simp] theorem runStopPhase_settings (ph : ClosePhase) (s : State) : (runStopPhase ph s).settings = s.settings := by dsimp only [runStopPhase]; (repeat' split) <;> simp
@[simp] theorem runStopPhase_corr (ph : ClosePhase) (s : State) : (runStopPhase ph s).corr = s.corr := by dsimp only [runStopPhase]; (repeat' split) <;> simp
@[simp] theorem runStopPhase_fetch (ph : ClosePhase) (s : State) : (runStopPhase ph s).fetch = s.fetch := by dsimp only [runStopPhase]; (repeat' split) <;> simp
@[simp] theorem runStopPhase_window (ph : ClosePhase) (s : State) : (runStopPhase ph s).window = s.window := by dsimp only [runStopPhase]; (repeat' split) <;> simp
@[simp] theorem runStopPhase_nextUid (ph : ClosePhase) (s : State) : (runStopPhase ph s).nextUid = s.nextUid := by dsimp only [runStopPhase]; (repeat' split) <;> simp
@[simp] theorem runStopPhase_link (ph : ClosePhase) (s : State) : (runStopPhase ph s).link = s.link := by dsimp only [runStopPhase]; (repeat' split) <;> simp
@[simp] theorem runStopPhase_checks (ph : ClosePhase) (s : State) : (runStopPhase ph s).checks = s.checks := by dsimp only [runStopPhase]; (repeat' split) <;> simp
@[simp] theorem runStopPhase_unit (ph : ClosePhase) (s : State) : (runStopPhase ph s).unit = s.unit := by dsimp only [runStopPhase]; (repeat' split) <;> simp
@[simp] theorem runStopPhase_div (ph : ClosePhase) (s : State) : (runStopPhase ph s).div = s.div := by dsimp only [runStopPhase]; (repeat' split) <;> simp
@[simp] theorem runStopPhase_log (ph : ClosePhase) (s : State) : (runStopPhase ph s).log = s.log := by dsimp only [runStopPhase]; (repeat' split) <;> simp
@[simp] theorem runStopPhase_free (ph : ClosePhase) (s : State) : (runStopPhase ph s).free = s.free := by dsimp only [runStopPhase]; (repeat' split) <;> simp
@[simp] theorem stoppingSettle_pending (s : State) : (stoppingSettle s).pending = s.pending := by dsimp only [stoppingSettle]; (repeat' split) <;> simp
@[simp] theorem stoppingSettle_mem (s : State) : (stoppingSettle s).mem = s.mem := by dsimp only [stoppingSettle]; (repeat' split) <;> simp
@[simp] theorem stoppingSettle_regs (s : State) : (stoppingSettle s).regs = s.regs := by dsimp only [stoppingSettle]; (repeat' split) <;> simp
@[simp] theorem stoppingSettle_settings (s : State) : (stoppingSettle s).settings = s.settings := by dsimp only [stoppingSettle]; (repeat' split) <;> simp
@[simp] theorem stoppingSettle_corr (s : State) : (stoppingSettle s).corr = s.corr := by dsimp only [stoppingSettle]; (repeat' split) <;> simp
@[simp] theorem stoppingSettle_fetch (s : State) : (stoppingSettle s).fetch = s.fetch := by dsimp only [stoppingSettle]; (repeat' split) <;> simp
@[simp] theorem stoppingSettle_window (s : State) : (stoppingSettle s).window = s.window := by dsimp only [stoppingSettle]; (repeat' split) <;> simp
@[simp] theorem stoppingSettle_nextUid (s : State) : (stoppingSettle s).nextUid = s.nextUid := by dsimp only [stoppingSettle]; (repeat' split) <;> simp
@[simp] theorem stoppingSettle_checks (s : State) : (stoppingSettle s).checks = s.checks := by dsimp only [stoppingSettle]; (repeat' split) <;> simp
@[simp] theorem stoppingSettle_unit (s : State) : (stoppingSettle s).unit = s.unit := by dsimp only [stoppingSettle]; (repeat' split) <;> simp
@[simp] theorem stoppingSettle_div (s : State) : (stoppingSettle s).div = s.div := by dsimp only [stoppingSettle]; (repeat' split) <;> simp
@[simp] theorem stoppingSettle_log (s : State) : (stoppingSettle s).log = s.log := by dsimp only [stoppingSettle]; (repeat' split) <;> simp
@[simp] theorem stoppingSettle_free (s : State) : (stoppingSettle s).free = s.free := by dsimp only [stoppingSettle]; (repeat' split) <;> simp
@[simp] theorem readReady_pending (s : State) : (readReady s).pending = s.pending := rfl
@[simp] theorem readReady_mem (s : State) : (readReady s).mem = s.mem := rfl
@[simp] theorem readReady_regs (s : State) : (readReady s).regs = s.regs := rfl
@[simp] theorem readReady_settings (s : State) : (readReady s).settings = s.settings := rfl
@[simp] theorem readReady_corr (s : State) : (readReady s).corr = s.corr := rfl
@[simp] theorem readReady_rc (s : State) : (readReady s).rc = s.rc := rfl
@[simp] theorem readReady_fetch (s : State) : (readReady s).fetch = s.fetch := rfl
@[simp] theorem readReady_window (s : State) : (readReady s).window = s.window := rfl
@[simp] theorem readReady_nextUid (s : State) : (readReady s).nextUid = s.nextUid := rfl
@[simp] theorem readReady_link (s : State) : (readReady s).link = s.link := rfl
@[simp] theorem readReady_checks (s : State) : (readReady s).checks = s.checks := rfl
@[simp] theorem readReady_unit (s : State) : (readReady s).unit = s.unit := rfl
@[simp] theorem readReady_div (s : State) : (readReady s).div = s.div := rfl
@[simp] theorem readReady_log (s : State) : (readReady s).log = s.log := rfl
@[simp] theorem readReady_notice (s : State) : (readReady s).notice = s.notice := rfl
@[simp] theorem readReady_free (s : State) : (readReady s).free = s.free := rfl
@[simp] theorem enterChainWait_pending (s : State) : (enterChainWait s).pending = s.pending := by dsimp only [enterChainWait]; simp
@[simp] theorem enterChainWait_mem (s : State) : (enterChainWait s).mem = s.mem := by dsimp only [enterChainWait]; simp
@[simp] theorem enterChainWait_regs (s : State) : (enterChainWait s).regs = s.regs := by dsimp only [enterChainWait]; simp
@[simp] theorem enterChainWait_settings (s : State) : (enterChainWait s).settings = s.settings := by dsimp only [enterChainWait]; simp
@[simp] theorem enterChainWait_corr (s : State) : (enterChainWait s).corr = s.corr := by dsimp only [enterChainWait]; simp
@[simp] theorem enterChainWait_fetch (s : State) : (enterChainWait s).fetch = s.fetch := by dsimp only [enterChainWait]; simp
@[simp] theorem enterChainWait_window (s : State) : (enterChainWait s).window = s.window := by dsimp only [enterChainWait]; simp
@[simp] theorem enterChainWait_nextUid (s : State) : (enterChainWait s).nextUid = s.nextUid := by dsimp only [enterChainWait]; simp
@[simp] theorem enterChainWait_link (s : State) : (enterChainWait s).link = s.link := by dsimp only [enterChainWait]; simp
@[simp] theorem enterChainWait_checks (s : State) : (enterChainWait s).checks = s.checks := by dsimp only [enterChainWait]; simp
@[simp] theorem enterChainWait_unit (s : State) : (enterChainWait s).unit = s.unit := by dsimp only [enterChainWait]; simp
@[simp] theorem enterChainWait_div (s : State) : (enterChainWait s).div = s.div := by dsimp only [enterChainWait]; simp
@[simp] theorem enterChainWait_log (s : State) : (enterChainWait s).log = s.log := by dsimp only [enterChainWait]; simp
@[simp] theorem enterChainWait_free (s : State) : (enterChainWait s).free = s.free := by dsimp only [enterChainWait]; simp
@[simp] theorem enterBoardChange_pending (s : State) : (enterBoardChange s).pending = s.pending := by dsimp only [enterBoardChange]; simp
@[simp] theorem enterBoardChange_mem (s : State) : (enterBoardChange s).mem = s.mem := by dsimp only [enterBoardChange]; simp
@[simp] theorem enterBoardChange_regs (s : State) : (enterBoardChange s).regs = s.regs := by dsimp only [enterBoardChange]; simp
@[simp] theorem enterBoardChange_settings (s : State) : (enterBoardChange s).settings = s.settings := by dsimp only [enterBoardChange]; simp
@[simp] theorem enterBoardChange_corr (s : State) : (enterBoardChange s).corr = s.corr := by dsimp only [enterBoardChange]; simp
@[simp] theorem enterBoardChange_fetch (s : State) : (enterBoardChange s).fetch = s.fetch := by dsimp only [enterBoardChange]; simp
@[simp] theorem enterBoardChange_window (s : State) : (enterBoardChange s).window = s.window := by dsimp only [enterBoardChange]; simp
@[simp] theorem enterBoardChange_nextUid (s : State) : (enterBoardChange s).nextUid = s.nextUid := by dsimp only [enterBoardChange]; simp
@[simp] theorem enterBoardChange_link (s : State) : (enterBoardChange s).link = s.link := by dsimp only [enterBoardChange]; simp
@[simp] theorem enterBoardChange_checks (s : State) : (enterBoardChange s).checks = s.checks := by dsimp only [enterBoardChange]; simp
@[simp] theorem enterBoardChange_unit (s : State) : (enterBoardChange s).unit = s.unit := by dsimp only [enterBoardChange]; simp
@[simp] theorem enterBoardChange_div (s : State) : (enterBoardChange s).div = s.div := by dsimp only [enterBoardChange]; simp
@[simp] theorem enterBoardChange_log (s : State) : (enterBoardChange s).log = s.log := by dsimp only [enterBoardChange]; simp
@[simp] theorem enterBoardChange_free (s : State) : (enterBoardChange s).free = s.free := by dsimp only [enterBoardChange]; simp
@[simp] theorem areaMove_pending (s : State) : (areaMove s).pending = s.pending := by dsimp only [areaMove]; (repeat' split) <;> simp
@[simp] theorem areaMove_mem (s : State) : (areaMove s).mem = s.mem := by dsimp only [areaMove]; (repeat' split) <;> simp
@[simp] theorem areaMove_regs (s : State) : (areaMove s).regs = s.regs := by dsimp only [areaMove]; (repeat' split) <;> simp
@[simp] theorem areaMove_settings (s : State) : (areaMove s).settings = s.settings := by dsimp only [areaMove]; (repeat' split) <;> simp
@[simp] theorem areaMove_corr (s : State) : (areaMove s).corr = s.corr := by dsimp only [areaMove]; (repeat' split) <;> simp
@[simp] theorem areaMove_fetch (s : State) : (areaMove s).fetch = s.fetch := by dsimp only [areaMove]; (repeat' split) <;> simp
@[simp] theorem areaMove_window (s : State) : (areaMove s).window = s.window := by dsimp only [areaMove]; (repeat' split) <;> simp
@[simp] theorem areaMove_nextUid (s : State) : (areaMove s).nextUid = s.nextUid := by dsimp only [areaMove]; (repeat' split) <;> simp
@[simp] theorem areaMove_link (s : State) : (areaMove s).link = s.link := by dsimp only [areaMove]; (repeat' split) <;> simp
@[simp] theorem areaMove_checks (s : State) : (areaMove s).checks = s.checks := by dsimp only [areaMove]; (repeat' split) <;> simp
@[simp] theorem areaMove_unit (s : State) : (areaMove s).unit = s.unit := by dsimp only [areaMove]; (repeat' split) <;> simp
@[simp] theorem areaMove_div (s : State) : (areaMove s).div = s.div := by dsimp only [areaMove]; (repeat' split) <;> simp
@[simp] theorem areaMove_log (s : State) : (areaMove s).log = s.log := by dsimp only [areaMove]; (repeat' split) <;> simp
@[simp] theorem areaMove_free (s : State) : (areaMove s).free = s.free := by dsimp only [areaMove]; (repeat' split) <;> simp
@[simp] theorem loggerRunBegin_pending (s : State) : (loggerRunBegin s).pending = s.pending := by dsimp only [loggerRunBegin]; simp
@[simp] theorem loggerRunBegin_mem (s : State) : (loggerRunBegin s).mem = s.mem := by dsimp only [loggerRunBegin]; simp
@[simp] theorem loggerRunBegin_regs (s : State) : (loggerRunBegin s).regs = s.regs := by dsimp only [loggerRunBegin]; simp
@[simp] theorem loggerRunBegin_settings (s : State) : (loggerRunBegin s).settings = s.settings := by dsimp only [loggerRunBegin]; simp
@[simp] theorem loggerRunBegin_corr (s : State) : (loggerRunBegin s).corr = s.corr := by dsimp only [loggerRunBegin]; simp
@[simp] theorem loggerRunBegin_rc (s : State) : (loggerRunBegin s).rc = s.rc := by dsimp only [loggerRunBegin]; simp
@[simp] theorem loggerRunBegin_fetch (s : State) : (loggerRunBegin s).fetch = s.fetch := by dsimp only [loggerRunBegin]; simp
@[simp] theorem loggerRunBegin_window (s : State) : (loggerRunBegin s).window = s.window := by dsimp only [loggerRunBegin]; simp
@[simp] theorem loggerRunBegin_nextUid (s : State) : (loggerRunBegin s).nextUid = s.nextUid := by dsimp only [loggerRunBegin]; simp
@[simp] theorem loggerRunBegin_link (s : State) : (loggerRunBegin s).link = s.link := by dsimp only [loggerRunBegin]; simp
@[simp] theorem loggerRunBegin_checks (s : State) : (loggerRunBegin s).checks = s.checks := by dsimp only [loggerRunBegin]; simp
@[simp] theorem loggerRunBegin_unit (s : State) : (loggerRunBegin s).unit = s.unit := by dsimp only [loggerRunBegin]; simp
@[simp] theorem loggerRunBegin_div (s : State) : (loggerRunBegin s).div = s.div := by dsimp only [loggerRunBegin]; simp
@[simp] theorem loggerRunBegin_notice (s : State) : (loggerRunBegin s).notice = s.notice := by dsimp only [loggerRunBegin]; simp
@[simp] theorem loggerRunBegin_free (s : State) : (loggerRunBegin s).free = s.free := by dsimp only [loggerRunBegin]; simp
@[simp] theorem runBegin_pending (s : State) : (runBegin s).pending = s.pending := by dsimp only [runBegin]; simp
@[simp] theorem runBegin_mem (s : State) : (runBegin s).mem = s.mem := by dsimp only [runBegin]; simp
@[simp] theorem runBegin_regs (s : State) : (runBegin s).regs = s.regs := by dsimp only [runBegin]; simp
@[simp] theorem runBegin_settings (s : State) : (runBegin s).settings = s.settings := by dsimp only [runBegin]; simp
@[simp] theorem runBegin_corr (s : State) : (runBegin s).corr = s.corr := by dsimp only [runBegin]; simp
@[simp] theorem runBegin_window (s : State) : (runBegin s).window = s.window := by dsimp only [runBegin]; simp
@[simp] theorem runBegin_nextUid (s : State) : (runBegin s).nextUid = s.nextUid := by dsimp only [runBegin]; simp
@[simp] theorem runBegin_checks (s : State) : (runBegin s).checks = s.checks := by dsimp only [runBegin]; simp
@[simp] theorem runBegin_unit (s : State) : (runBegin s).unit = s.unit := by dsimp only [runBegin]; simp
@[simp] theorem runBegin_notice (s : State) : (runBegin s).notice = s.notice := by dsimp only [runBegin]; simp
@[simp] theorem runBegin_free (s : State) : (runBegin s).free = s.free := by dsimp only [runBegin]; simp
@[simp] theorem boardSettle_pending (s : State) : (boardSettle s).pending = s.pending := by dsimp only [boardSettle]; (repeat' split) <;> simp
@[simp] theorem boardSettle_mem (s : State) : (boardSettle s).mem = s.mem := by dsimp only [boardSettle]; (repeat' split) <;> simp
@[simp] theorem boardSettle_regs (s : State) : (boardSettle s).regs = s.regs := by dsimp only [boardSettle]; (repeat' split) <;> simp
@[simp] theorem boardSettle_settings (s : State) : (boardSettle s).settings = s.settings := by dsimp only [boardSettle]; (repeat' split) <;> simp
@[simp] theorem boardSettle_corr (s : State) : (boardSettle s).corr = s.corr := by dsimp only [boardSettle]; (repeat' split) <;> simp
@[simp] theorem boardSettle_window (s : State) : (boardSettle s).window = s.window := by dsimp only [boardSettle]; (repeat' split) <;> simp
@[simp] theorem boardSettle_nextUid (s : State) : (boardSettle s).nextUid = s.nextUid := by dsimp only [boardSettle]; (repeat' split) <;> simp
@[simp] theorem boardSettle_checks (s : State) : (boardSettle s).checks = s.checks := by dsimp only [boardSettle]; (repeat' split) <;> simp
@[simp] theorem boardSettle_unit (s : State) : (boardSettle s).unit = s.unit := by dsimp only [boardSettle]; (repeat' split) <;> simp
@[simp] theorem boardSettle_free (s : State) : (boardSettle s).free = s.free := by dsimp only [boardSettle]; (repeat' split) <;> simp
@[simp] theorem settle_pending (s : State) : (settle s).pending = s.pending := by dsimp only [settle]; simp
@[simp] theorem settle_mem (s : State) : (settle s).mem = s.mem := by dsimp only [settle]; simp
@[simp] theorem settle_regs (s : State) : (settle s).regs = s.regs := by dsimp only [settle]; simp
@[simp] theorem settle_settings (s : State) : (settle s).settings = s.settings := by dsimp only [settle]; simp
@[simp] theorem settle_corr (s : State) : (settle s).corr = s.corr := by dsimp only [settle]; simp
@[simp] theorem settle_nextUid (s : State) : (settle s).nextUid = s.nextUid := by dsimp only [settle]; simp
@[simp] theorem settle_free (s : State) : (settle s).free = s.free := by dsimp only [settle]; simp
@[simp] theorem afterNotice_pending (m : NoticeMark) (s : State) : (afterNotice m s).pending = s.pending := by dsimp only [afterNotice]; (repeat' split) <;> simp
@[simp] theorem afterNotice_mem (m : NoticeMark) (s : State) : (afterNotice m s).mem = s.mem := by dsimp only [afterNotice]; (repeat' split) <;> simp
@[simp] theorem afterNotice_regs (m : NoticeMark) (s : State) : (afterNotice m s).regs = s.regs := by dsimp only [afterNotice]; (repeat' split) <;> simp
@[simp] theorem afterNotice_settings (m : NoticeMark) (s : State) : (afterNotice m s).settings = s.settings := by dsimp only [afterNotice]; (repeat' split) <;> simp
@[simp] theorem afterNotice_corr (m : NoticeMark) (s : State) : (afterNotice m s).corr = s.corr := by dsimp only [afterNotice]; (repeat' split) <;> simp
@[simp] theorem afterNotice_port (m : NoticeMark) (s : State) : (afterNotice m s).port = s.port := by dsimp only [afterNotice]; (repeat' split) <;> simp
@[simp] theorem afterNotice_fetch (m : NoticeMark) (s : State) : (afterNotice m s).fetch = s.fetch := by dsimp only [afterNotice]; (repeat' split) <;> simp
@[simp] theorem afterNotice_window (m : NoticeMark) (s : State) : (afterNotice m s).window = s.window := by dsimp only [afterNotice]; (repeat' split) <;> simp
@[simp] theorem afterNotice_nextUid (m : NoticeMark) (s : State) : (afterNotice m s).nextUid = s.nextUid := by dsimp only [afterNotice]; (repeat' split) <;> simp
@[simp] theorem afterNotice_link (m : NoticeMark) (s : State) : (afterNotice m s).link = s.link := by dsimp only [afterNotice]; (repeat' split) <;> simp
@[simp] theorem afterNotice_checks (m : NoticeMark) (s : State) : (afterNotice m s).checks = s.checks := by dsimp only [afterNotice]; (repeat' split) <;> simp
@[simp] theorem afterNotice_unit (m : NoticeMark) (s : State) : (afterNotice m s).unit = s.unit := by dsimp only [afterNotice]; (repeat' split) <;> simp
@[simp] theorem afterNotice_div (m : NoticeMark) (s : State) : (afterNotice m s).div = s.div := by dsimp only [afterNotice]; (repeat' split) <;> simp
@[simp] theorem afterNotice_log (m : NoticeMark) (s : State) : (afterNotice m s).log = s.log := by dsimp only [afterNotice]; (repeat' split) <;> simp
@[simp] theorem afterNotice_free (m : NoticeMark) (s : State) : (afterNotice m s).free = s.free := by dsimp only [afterNotice]; (repeat' split) <;> simp
@[simp] theorem noticeWritten_pending (s : State) : (noticeWritten s).pending = s.pending := by dsimp only [noticeWritten]; (repeat' split) <;> simp
@[simp] theorem noticeWritten_mem (s : State) : (noticeWritten s).mem = s.mem := by dsimp only [noticeWritten]; (repeat' split) <;> simp
@[simp] theorem noticeWritten_regs (s : State) : (noticeWritten s).regs = s.regs := by dsimp only [noticeWritten]; (repeat' split) <;> simp
@[simp] theorem noticeWritten_settings (s : State) : (noticeWritten s).settings = s.settings := by dsimp only [noticeWritten]; (repeat' split) <;> simp
@[simp] theorem noticeWritten_corr (s : State) : (noticeWritten s).corr = s.corr := by dsimp only [noticeWritten]; (repeat' split) <;> simp
@[simp] theorem noticeWritten_fetch (s : State) : (noticeWritten s).fetch = s.fetch := by dsimp only [noticeWritten]; (repeat' split) <;> simp
@[simp] theorem noticeWritten_window (s : State) : (noticeWritten s).window = s.window := by dsimp only [noticeWritten]; (repeat' split) <;> simp
@[simp] theorem noticeWritten_nextUid (s : State) : (noticeWritten s).nextUid = s.nextUid := by dsimp only [noticeWritten]; (repeat' split) <;> simp
@[simp] theorem noticeWritten_link (s : State) : (noticeWritten s).link = s.link := by dsimp only [noticeWritten]; (repeat' split) <;> simp
@[simp] theorem noticeWritten_checks (s : State) : (noticeWritten s).checks = s.checks := by dsimp only [noticeWritten]; (repeat' split) <;> simp
@[simp] theorem noticeWritten_unit (s : State) : (noticeWritten s).unit = s.unit := by dsimp only [noticeWritten]; (repeat' split) <;> simp
@[simp] theorem noticeWritten_div (s : State) : (noticeWritten s).div = s.div := by dsimp only [noticeWritten]; (repeat' split) <;> simp
@[simp] theorem noticeWritten_log (s : State) : (noticeWritten s).log = s.log := by dsimp only [noticeWritten]; (repeat' split) <;> simp
@[simp] theorem noticeWritten_free (s : State) : (noticeWritten s).free = s.free := by dsimp only [noticeWritten]; (repeat' split) <;> simp
@[simp] theorem flush_pending (s : State) : (flush s).pending = s.pending := by dsimp only [flush]; simp
@[simp] theorem flush_mem (s : State) : (flush s).mem = s.mem := by dsimp only [flush]; simp
@[simp] theorem flush_regs (s : State) : (flush s).regs = s.regs := by dsimp only [flush]; simp
@[simp] theorem flush_settings (s : State) : (flush s).settings = s.settings := by dsimp only [flush]; simp
@[simp] theorem flush_corr (s : State) : (flush s).corr = s.corr := by dsimp only [flush]; simp
@[simp] theorem flush_rc (s : State) : (flush s).rc = s.rc := by dsimp only [flush]; simp
@[simp] theorem flush_nextUid (s : State) : (flush s).nextUid = s.nextUid := by dsimp only [flush]; simp
@[simp] theorem flush_link (s : State) : (flush s).link = s.link := by dsimp only [flush]; simp
@[simp] theorem flush_div (s : State) : (flush s).div = s.div := by dsimp only [flush]; simp
@[simp] theorem flush_log (s : State) : (flush s).log = s.log := by dsimp only [flush]; simp
@[simp] theorem flush_notice (s : State) : (flush s).notice = s.notice := by dsimp only [flush]; simp
@[simp] theorem flush_free (s : State) : (flush s).free = s.free := by dsimp only [flush]; simp
@[simp] theorem enterDiversion_pending (a : Bool) (c : Cause) (p : Snapshot) (s : State) : (enterDiversion a c p s).pending = s.pending := by dsimp only [enterDiversion]; simp
@[simp] theorem enterDiversion_mem (a : Bool) (c : Cause) (p : Snapshot) (s : State) : (enterDiversion a c p s).mem = s.mem := by dsimp only [enterDiversion]; simp
@[simp] theorem enterDiversion_regs (a : Bool) (c : Cause) (p : Snapshot) (s : State) : (enterDiversion a c p s).regs = s.regs := by dsimp only [enterDiversion]; simp
@[simp] theorem enterDiversion_settings (a : Bool) (c : Cause) (p : Snapshot) (s : State) : (enterDiversion a c p s).settings = s.settings := by dsimp only [enterDiversion]; simp
@[simp] theorem enterDiversion_corr (a : Bool) (c : Cause) (p : Snapshot) (s : State) : (enterDiversion a c p s).corr = s.corr := by dsimp only [enterDiversion]; simp
@[simp] theorem enterDiversion_rc (a : Bool) (c : Cause) (p : Snapshot) (s : State) : (enterDiversion a c p s).rc = s.rc := by dsimp only [enterDiversion]; simp
@[simp] theorem enterDiversion_nextUid (a : Bool) (c : Cause) (p : Snapshot) (s : State) : (enterDiversion a c p s).nextUid = s.nextUid := by dsimp only [enterDiversion]; simp
@[simp] theorem enterDiversion_link (a : Bool) (c : Cause) (p : Snapshot) (s : State) : (enterDiversion a c p s).link = s.link := by dsimp only [enterDiversion]; simp
@[simp] theorem enterDiversion_log (a : Bool) (c : Cause) (p : Snapshot) (s : State) : (enterDiversion a c p s).log = s.log := by dsimp only [enterDiversion]; simp
@[simp] theorem enterDiversion_free (a : Bool) (c : Cause) (p : Snapshot) (s : State) : (enterDiversion a c p s).free = s.free := by dsimp only [enterDiversion]; simp
@[simp] theorem haltByTable_pending (s : State) : (haltByTable s).pending = s.pending := by dsimp only [haltByTable]; simp
@[simp] theorem haltByTable_mem (s : State) : (haltByTable s).mem = s.mem := by dsimp only [haltByTable]; simp
@[simp] theorem haltByTable_regs (s : State) : (haltByTable s).regs = s.regs := by dsimp only [haltByTable]; simp
@[simp] theorem haltByTable_settings (s : State) : (haltByTable s).settings = s.settings := by dsimp only [haltByTable]; simp
@[simp] theorem haltByTable_corr (s : State) : (haltByTable s).corr = s.corr := by dsimp only [haltByTable]; simp
@[simp] theorem haltByTable_nextUid (s : State) : (haltByTable s).nextUid = s.nextUid := by dsimp only [haltByTable]; simp
@[simp] theorem haltByTable_link (s : State) : (haltByTable s).link = s.link := by dsimp only [haltByTable]; simp
@[simp] theorem haltByTable_free (s : State) : (haltByTable s).free = s.free := by dsimp only [haltByTable]; simp
@[simp] theorem haltDoubleFault_pending (c : Cause) (s : State) : (haltDoubleFault c s).pending = s.pending := by dsimp only [haltDoubleFault]; simp
@[simp] theorem haltDoubleFault_mem (c : Cause) (s : State) : (haltDoubleFault c s).mem = s.mem := by dsimp only [haltDoubleFault]; simp
@[simp] theorem haltDoubleFault_regs (c : Cause) (s : State) : (haltDoubleFault c s).regs = s.regs := by dsimp only [haltDoubleFault]; simp
@[simp] theorem haltDoubleFault_settings (c : Cause) (s : State) : (haltDoubleFault c s).settings = s.settings := by dsimp only [haltDoubleFault]; simp
@[simp] theorem haltDoubleFault_corr (c : Cause) (s : State) : (haltDoubleFault c s).corr = s.corr := by dsimp only [haltDoubleFault]; simp
@[simp] theorem haltDoubleFault_nextUid (c : Cause) (s : State) : (haltDoubleFault c s).nextUid = s.nextUid := by dsimp only [haltDoubleFault]; simp
@[simp] theorem haltDoubleFault_link (c : Cause) (s : State) : (haltDoubleFault c s).link = s.link := by dsimp only [haltDoubleFault]; simp
@[simp] theorem haltDoubleFault_free (c : Cause) (s : State) : (haltDoubleFault c s).free = s.free := by dsimp only [haltDoubleFault]; simp
@[simp] theorem takeRemoval_pending (e : Entry) (s : State) : (takeRemoval e s).pending = s.pending := by dsimp only [takeRemoval, tipService, failureStep, decideRecoveryFailure, decideFailure, retryBookkeeping]; (repeat' split) <;> simp
@[simp] theorem takeRemoval_mem (e : Entry) (s : State) : (takeRemoval e s).mem = s.mem := by dsimp only [takeRemoval, tipService, failureStep, decideRecoveryFailure, decideFailure, retryBookkeeping]; (repeat' split) <;> simp
@[simp] theorem takeRemoval_regs (e : Entry) (s : State) : (takeRemoval e s).regs = s.regs := by dsimp only [takeRemoval, tipService, failureStep, decideRecoveryFailure, decideFailure, retryBookkeeping]; (repeat' split) <;> simp
@[simp] theorem takeRemoval_settings (e : Entry) (s : State) : (takeRemoval e s).settings = s.settings := by dsimp only [takeRemoval, tipService, failureStep, decideRecoveryFailure, decideFailure, retryBookkeeping]; (repeat' split) <;> simp
@[simp] theorem takeRemoval_corr (e : Entry) (s : State) : (takeRemoval e s).corr = s.corr := by dsimp only [takeRemoval, tipService, failureStep, decideRecoveryFailure, decideFailure, retryBookkeeping]; (repeat' split) <;> simp
@[simp] theorem takeRemoval_nextUid (e : Entry) (s : State) : (takeRemoval e s).nextUid = s.nextUid := by dsimp only [takeRemoval, tipService, failureStep, decideRecoveryFailure, decideFailure, retryBookkeeping]; (repeat' split) <;> simp
@[simp] theorem takeRemoval_link (e : Entry) (s : State) : (takeRemoval e s).link = s.link := by dsimp only [takeRemoval, tipService, failureStep, decideRecoveryFailure, decideFailure, retryBookkeeping]; (repeat' split) <;> simp
@[simp] theorem takeRemoval_free (e : Entry) (s : State) : (takeRemoval e s).free = s.free := by dsimp only [takeRemoval, tipService, failureStep, decideRecoveryFailure, decideFailure, retryBookkeeping]; (repeat' split) <;> simp
@[simp] theorem removeHead_pending (e : Entry) (s : State) : (removeHead e s).pending = s.pending := by dsimp only [removeHead]; simp
@[simp] theorem removeHead_mem (e : Entry) (s : State) : (removeHead e s).mem = s.mem := by dsimp only [removeHead]; simp
@[simp] theorem removeHead_regs (e : Entry) (s : State) : (removeHead e s).regs = s.regs := by dsimp only [removeHead]; simp
@[simp] theorem removeHead_settings (e : Entry) (s : State) : (removeHead e s).settings = s.settings := by dsimp only [removeHead]; simp
@[simp] theorem removeHead_corr (e : Entry) (s : State) : (removeHead e s).corr = s.corr := by dsimp only [removeHead]; simp
@[simp] theorem removeHead_nextUid (e : Entry) (s : State) : (removeHead e s).nextUid = s.nextUid := by dsimp only [removeHead]; simp
@[simp] theorem removeHead_link (e : Entry) (s : State) : (removeHead e s).link = s.link := by dsimp only [removeHead]; simp
@[simp] theorem removeHead_free (e : Entry) (s : State) : (removeHead e s).free = s.free := by dsimp only [removeHead]; simp
@[simp] theorem endDiversion_pending (m : ResumeMode) (s : State) : (endDiversion m s).pending = s.pending := by dsimp only [endDiversion]; simp
@[simp] theorem endDiversion_mem (m : ResumeMode) (s : State) : (endDiversion m s).mem = s.mem := by dsimp only [endDiversion]; simp
@[simp] theorem endDiversion_regs (m : ResumeMode) (s : State) : (endDiversion m s).regs = s.regs := by dsimp only [endDiversion]; simp
@[simp] theorem endDiversion_settings (m : ResumeMode) (s : State) : (endDiversion m s).settings = s.settings := by dsimp only [endDiversion]; simp
@[simp] theorem endDiversion_corr (m : ResumeMode) (s : State) : (endDiversion m s).corr = s.corr := by dsimp only [endDiversion]; simp
@[simp] theorem endDiversion_rc (m : ResumeMode) (s : State) : (endDiversion m s).rc = s.rc := by dsimp only [endDiversion]; simp
@[simp] theorem endDiversion_fetch (m : ResumeMode) (s : State) : (endDiversion m s).fetch = s.fetch := by dsimp only [endDiversion]; simp
@[simp] theorem endDiversion_window (m : ResumeMode) (s : State) : (endDiversion m s).window = s.window := by dsimp only [endDiversion]; simp
@[simp] theorem endDiversion_nextUid (m : ResumeMode) (s : State) : (endDiversion m s).nextUid = s.nextUid := by dsimp only [endDiversion]; simp
@[simp] theorem endDiversion_link (m : ResumeMode) (s : State) : (endDiversion m s).link = s.link := by dsimp only [endDiversion]; simp
@[simp] theorem endDiversion_checks (m : ResumeMode) (s : State) : (endDiversion m s).checks = s.checks := by dsimp only [endDiversion]; simp
@[simp] theorem endDiversion_unit (m : ResumeMode) (s : State) : (endDiversion m s).unit = s.unit := by dsimp only [endDiversion]; simp
@[simp] theorem endDiversion_log (m : ResumeMode) (s : State) : (endDiversion m s).log = s.log := by dsimp only [endDiversion]; simp
@[simp] theorem endDiversion_free (m : ResumeMode) (s : State) : (endDiversion m s).free = s.free := by dsimp only [endDiversion]; simp
@[simp] theorem resumeDiversion_pending (m : ResumeMode) (s : State) : (resumeDiversion m s).pending = s.pending := by dsimp only [resumeDiversion]; (repeat' split) <;> simp
@[simp] theorem resumeDiversion_mem (m : ResumeMode) (s : State) : (resumeDiversion m s).mem = s.mem := by dsimp only [resumeDiversion]; (repeat' split) <;> simp
@[simp] theorem resumeDiversion_regs (m : ResumeMode) (s : State) : (resumeDiversion m s).regs = s.regs := by dsimp only [resumeDiversion]; (repeat' split) <;> simp
@[simp] theorem resumeDiversion_settings (m : ResumeMode) (s : State) : (resumeDiversion m s).settings = s.settings := by dsimp only [resumeDiversion]; (repeat' split) <;> simp
@[simp] theorem resumeDiversion_corr (m : ResumeMode) (s : State) : (resumeDiversion m s).corr = s.corr := by dsimp only [resumeDiversion]; (repeat' split) <;> simp
@[simp] theorem resumeDiversion_nextUid (m : ResumeMode) (s : State) : (resumeDiversion m s).nextUid = s.nextUid := by dsimp only [resumeDiversion]; (repeat' split) <;> simp
@[simp] theorem resumeDiversion_link (m : ResumeMode) (s : State) : (resumeDiversion m s).link = s.link := by dsimp only [resumeDiversion]; (repeat' split) <;> simp
@[simp] theorem resumeDiversion_free (m : ResumeMode) (s : State) : (resumeDiversion m s).free = s.free := by dsimp only [resumeDiversion]; (repeat' split) <;> simp
@[simp] theorem writeRecord_pending (e : Entry) (s : State) : (writeRecord e s).pending = s.pending := by dsimp only [writeRecord]; (repeat' split) <;> simp
@[simp] theorem writeRecord_mem (e : Entry) (s : State) : (writeRecord e s).mem = s.mem := by dsimp only [writeRecord]; (repeat' split) <;> simp
@[simp] theorem writeRecord_regs (e : Entry) (s : State) : (writeRecord e s).regs = s.regs := by dsimp only [writeRecord]; (repeat' split) <;> simp
@[simp] theorem writeRecord_settings (e : Entry) (s : State) : (writeRecord e s).settings = s.settings := by dsimp only [writeRecord]; (repeat' split) <;> simp
@[simp] theorem writeRecord_corr (e : Entry) (s : State) : (writeRecord e s).corr = s.corr := by dsimp only [writeRecord]; (repeat' split) <;> simp
@[simp] theorem writeRecord_rc (e : Entry) (s : State) : (writeRecord e s).rc = s.rc := by dsimp only [writeRecord]; (repeat' split) <;> simp
@[simp] theorem writeRecord_fetch (e : Entry) (s : State) : (writeRecord e s).fetch = s.fetch := by dsimp only [writeRecord]; (repeat' split) <;> simp
@[simp] theorem writeRecord_window (e : Entry) (s : State) : (writeRecord e s).window = s.window := by dsimp only [writeRecord]; (repeat' split) <;> simp
@[simp] theorem writeRecord_nextUid (e : Entry) (s : State) : (writeRecord e s).nextUid = s.nextUid := by dsimp only [writeRecord]; (repeat' split) <;> simp
@[simp] theorem writeRecord_link (e : Entry) (s : State) : (writeRecord e s).link = s.link := by dsimp only [writeRecord]; (repeat' split) <;> simp
@[simp] theorem writeRecord_checks (e : Entry) (s : State) : (writeRecord e s).checks = s.checks := by dsimp only [writeRecord]; (repeat' split) <;> simp
@[simp] theorem writeRecord_unit (e : Entry) (s : State) : (writeRecord e s).unit = s.unit := by dsimp only [writeRecord]; (repeat' split) <;> simp
@[simp] theorem writeRecord_div (e : Entry) (s : State) : (writeRecord e s).div = s.div := by dsimp only [writeRecord]; (repeat' split) <;> simp
@[simp] theorem writeRecord_notice (e : Entry) (s : State) : (writeRecord e s).notice = s.notice := by dsimp only [writeRecord]; (repeat' split) <;> simp
@[simp] theorem writeRecord_free (e : Entry) (s : State) : (writeRecord e s).free = s.free := by dsimp only [writeRecord]; (repeat' split) <;> simp
@[simp] theorem noticeFailure_pending (n : Nat) (e : Entry) (s : State) : (noticeFailure n e s).pending = s.pending := by dsimp only [noticeFailure]; (repeat' split) <;> simp
@[simp] theorem noticeFailure_mem (n : Nat) (e : Entry) (s : State) : (noticeFailure n e s).mem = s.mem := by dsimp only [noticeFailure]; (repeat' split) <;> simp
@[simp] theorem noticeFailure_regs (n : Nat) (e : Entry) (s : State) : (noticeFailure n e s).regs = s.regs := by dsimp only [noticeFailure]; (repeat' split) <;> simp
@[simp] theorem noticeFailure_settings (n : Nat) (e : Entry) (s : State) : (noticeFailure n e s).settings = s.settings := by dsimp only [noticeFailure]; (repeat' split) <;> simp
@[simp] theorem noticeFailure_corr (n : Nat) (e : Entry) (s : State) : (noticeFailure n e s).corr = s.corr := by dsimp only [noticeFailure]; (repeat' split) <;> simp
@[simp] theorem noticeFailure_rc (n : Nat) (e : Entry) (s : State) : (noticeFailure n e s).rc = s.rc := by dsimp only [noticeFailure]; (repeat' split) <;> simp
@[simp] theorem noticeFailure_fetch (n : Nat) (e : Entry) (s : State) : (noticeFailure n e s).fetch = s.fetch := by dsimp only [noticeFailure]; (repeat' split) <;> simp
@[simp] theorem noticeFailure_window (n : Nat) (e : Entry) (s : State) : (noticeFailure n e s).window = s.window := by dsimp only [noticeFailure]; (repeat' split) <;> simp
@[simp] theorem noticeFailure_nextUid (n : Nat) (e : Entry) (s : State) : (noticeFailure n e s).nextUid = s.nextUid := by dsimp only [noticeFailure]; (repeat' split) <;> simp
@[simp] theorem noticeFailure_link (n : Nat) (e : Entry) (s : State) : (noticeFailure n e s).link = s.link := by dsimp only [noticeFailure]; (repeat' split) <;> simp
@[simp] theorem noticeFailure_checks (n : Nat) (e : Entry) (s : State) : (noticeFailure n e s).checks = s.checks := by dsimp only [noticeFailure]; (repeat' split) <;> simp
@[simp] theorem noticeFailure_unit (n : Nat) (e : Entry) (s : State) : (noticeFailure n e s).unit = s.unit := by dsimp only [noticeFailure]; (repeat' split) <;> simp
@[simp] theorem noticeFailure_div (n : Nat) (e : Entry) (s : State) : (noticeFailure n e s).div = s.div := by dsimp only [noticeFailure]; (repeat' split) <;> simp
@[simp] theorem noticeFailure_log (n : Nat) (e : Entry) (s : State) : (noticeFailure n e s).log = s.log := by dsimp only [noticeFailure]; (repeat' split) <;> simp
@[simp] theorem noticeFailure_free (n : Nat) (e : Entry) (s : State) : (noticeFailure n e s).free = s.free := by dsimp only [noticeFailure]; (repeat' split) <;> simp
@[simp] theorem takeHead_pending (e : Entry) (s : State) : (takeHead e s).pending = s.pending := by dsimp only [takeHead]; simp
@[simp] theorem takeHead_mem (e : Entry) (s : State) : (takeHead e s).mem = s.mem := by dsimp only [takeHead]; simp
@[simp] theorem takeHead_regs (e : Entry) (s : State) : (takeHead e s).regs = s.regs := by dsimp only [takeHead]; simp
@[simp] theorem takeHead_settings (e : Entry) (s : State) : (takeHead e s).settings = s.settings := by dsimp only [takeHead]; simp
@[simp] theorem takeHead_corr (e : Entry) (s : State) : (takeHead e s).corr = s.corr := by dsimp only [takeHead]; simp
@[simp] theorem takeHead_nextUid (e : Entry) (s : State) : (takeHead e s).nextUid = s.nextUid := by dsimp only [takeHead]; simp
@[simp] theorem takeHead_link (e : Entry) (s : State) : (takeHead e s).link = s.link := by dsimp only [takeHead]; simp
@[simp] theorem takeHead_free (e : Entry) (s : State) : (takeHead e s).free = s.free := by dsimp only [takeHead]; simp
@[simp] theorem logMarks_pending (f n : Nat) (s : State) : (logMarks f n s).pending = s.pending := by dsimp only [logMarks]; (repeat' split) <;> simp
@[simp] theorem logMarks_mem (f n : Nat) (s : State) : (logMarks f n s).mem = s.mem := by dsimp only [logMarks]; (repeat' split) <;> simp
@[simp] theorem logMarks_regs (f n : Nat) (s : State) : (logMarks f n s).regs = s.regs := by dsimp only [logMarks]; (repeat' split) <;> simp
@[simp] theorem logMarks_settings (f n : Nat) (s : State) : (logMarks f n s).settings = s.settings := by dsimp only [logMarks]; (repeat' split) <;> simp
@[simp] theorem logMarks_corr (f n : Nat) (s : State) : (logMarks f n s).corr = s.corr := by dsimp only [logMarks]; (repeat' split) <;> simp
@[simp] theorem logMarks_rc (f n : Nat) (s : State) : (logMarks f n s).rc = s.rc := by dsimp only [logMarks]; (repeat' split) <;> simp
@[simp] theorem logMarks_fetch (f n : Nat) (s : State) : (logMarks f n s).fetch = s.fetch := by dsimp only [logMarks]; (repeat' split) <;> simp
@[simp] theorem logMarks_window (f n : Nat) (s : State) : (logMarks f n s).window = s.window := by dsimp only [logMarks]; (repeat' split) <;> simp
@[simp] theorem logMarks_nextUid (f n : Nat) (s : State) : (logMarks f n s).nextUid = s.nextUid := by dsimp only [logMarks]; (repeat' split) <;> simp
@[simp] theorem logMarks_link (f n : Nat) (s : State) : (logMarks f n s).link = s.link := by dsimp only [logMarks]; (repeat' split) <;> simp
@[simp] theorem logMarks_checks (f n : Nat) (s : State) : (logMarks f n s).checks = s.checks := by dsimp only [logMarks]; (repeat' split) <;> simp
@[simp] theorem logMarks_unit (f n : Nat) (s : State) : (logMarks f n s).unit = s.unit := by dsimp only [logMarks]; (repeat' split) <;> simp
@[simp] theorem logMarks_div (f n : Nat) (s : State) : (logMarks f n s).div = s.div := by dsimp only [logMarks]; (repeat' split) <;> simp
@[simp] theorem logMarks_log (f n : Nat) (s : State) : (logMarks f n s).log = s.log := by dsimp only [logMarks]; (repeat' split) <;> simp
@[simp] theorem logMarks_free (f n : Nat) (s : State) : (logMarks f n s).free = s.free := by dsimp only [logMarks]; (repeat' split) <;> simp
@[simp] theorem recordWritten_pending (s : State) : (recordWritten s).pending = s.pending := by dsimp only [recordWritten]; simp
@[simp] theorem recordWritten_mem (s : State) : (recordWritten s).mem = s.mem := by dsimp only [recordWritten]; simp
@[simp] theorem recordWritten_regs (s : State) : (recordWritten s).regs = s.regs := by dsimp only [recordWritten]; simp
@[simp] theorem recordWritten_settings (s : State) : (recordWritten s).settings = s.settings := by dsimp only [recordWritten]; simp
@[simp] theorem recordWritten_corr (s : State) : (recordWritten s).corr = s.corr := by dsimp only [recordWritten]; simp
@[simp] theorem recordWritten_rc (s : State) : (recordWritten s).rc = s.rc := by dsimp only [recordWritten]; simp
@[simp] theorem recordWritten_fetch (s : State) : (recordWritten s).fetch = s.fetch := by dsimp only [recordWritten]; simp
@[simp] theorem recordWritten_window (s : State) : (recordWritten s).window = s.window := by dsimp only [recordWritten]; simp
@[simp] theorem recordWritten_nextUid (s : State) : (recordWritten s).nextUid = s.nextUid := by dsimp only [recordWritten]; simp
@[simp] theorem recordWritten_link (s : State) : (recordWritten s).link = s.link := by dsimp only [recordWritten]; simp
@[simp] theorem recordWritten_checks (s : State) : (recordWritten s).checks = s.checks := by dsimp only [recordWritten]; simp
@[simp] theorem recordWritten_unit (s : State) : (recordWritten s).unit = s.unit := by dsimp only [recordWritten]; simp
@[simp] theorem recordWritten_div (s : State) : (recordWritten s).div = s.div := by dsimp only [recordWritten]; simp
@[simp] theorem recordWritten_free (s : State) : (recordWritten s).free = s.free := by dsimp only [recordWritten]; simp
@[simp] theorem setHeld_pending (s : State) : (setHeld s).pending = s.pending := by dsimp only [setHeld]; simp
@[simp] theorem setHeld_mem (s : State) : (setHeld s).mem = s.mem := by dsimp only [setHeld]; simp
@[simp] theorem setHeld_regs (s : State) : (setHeld s).regs = s.regs := by dsimp only [setHeld]; simp
@[simp] theorem setHeld_settings (s : State) : (setHeld s).settings = s.settings := by dsimp only [setHeld]; simp
@[simp] theorem setHeld_corr (s : State) : (setHeld s).corr = s.corr := by dsimp only [setHeld]; simp
@[simp] theorem setHeld_rc (s : State) : (setHeld s).rc = s.rc := by dsimp only [setHeld]; simp
@[simp] theorem setHeld_fetch (s : State) : (setHeld s).fetch = s.fetch := by dsimp only [setHeld]; simp
@[simp] theorem setHeld_window (s : State) : (setHeld s).window = s.window := by dsimp only [setHeld]; simp
@[simp] theorem setHeld_nextUid (s : State) : (setHeld s).nextUid = s.nextUid := by dsimp only [setHeld]; simp
@[simp] theorem setHeld_link (s : State) : (setHeld s).link = s.link := by dsimp only [setHeld]; simp
@[simp] theorem setHeld_checks (s : State) : (setHeld s).checks = s.checks := by dsimp only [setHeld]; simp
@[simp] theorem setHeld_unit (s : State) : (setHeld s).unit = s.unit := by dsimp only [setHeld]; simp
@[simp] theorem setHeld_div (s : State) : (setHeld s).div = s.div := by dsimp only [setHeld]; simp
@[simp] theorem setHeld_free (s : State) : (setHeld s).free = s.free := by dsimp only [setHeld]; simp
@[simp] theorem roomRetest_pending (s : State) : (roomRetest s).pending = s.pending := by dsimp only [roomRetest]; (repeat' split) <;> simp
@[simp] theorem roomRetest_mem (s : State) : (roomRetest s).mem = s.mem := by dsimp only [roomRetest]; (repeat' split) <;> simp
@[simp] theorem roomRetest_regs (s : State) : (roomRetest s).regs = s.regs := by dsimp only [roomRetest]; (repeat' split) <;> simp
@[simp] theorem roomRetest_settings (s : State) : (roomRetest s).settings = s.settings := by dsimp only [roomRetest]; (repeat' split) <;> simp
@[simp] theorem roomRetest_corr (s : State) : (roomRetest s).corr = s.corr := by dsimp only [roomRetest]; (repeat' split) <;> simp
@[simp] theorem roomRetest_nextUid (s : State) : (roomRetest s).nextUid = s.nextUid := by dsimp only [roomRetest]; (repeat' split) <;> simp
@[simp] theorem roomRetest_link (s : State) : (roomRetest s).link = s.link := by dsimp only [roomRetest]; (repeat' split) <;> simp
@[simp] theorem roomRetest_free (s : State) : (roomRetest s).free = s.free := by dsimp only [roomRetest]; (repeat' split) <;> simp
@[simp] theorem releaseRead_pending (v : Word) (s : State) : (releaseRead v s).pending = s.pending := by dsimp only [releaseRead, readRelease]; (repeat' split) <;> simp
@[simp] theorem releaseRead_mem (v : Word) (s : State) : (releaseRead v s).mem = s.mem := by dsimp only [releaseRead, readRelease]; (repeat' split) <;> simp
@[simp] theorem releaseRead_regs (v : Word) (s : State) : (releaseRead v s).regs = s.regs := by dsimp only [releaseRead, readRelease]; (repeat' split) <;> simp
@[simp] theorem releaseRead_settings (v : Word) (s : State) : (releaseRead v s).settings = s.settings := by dsimp only [releaseRead, readRelease]; (repeat' split) <;> simp
@[simp] theorem releaseRead_corr (v : Word) (s : State) : (releaseRead v s).corr = s.corr := by dsimp only [releaseRead, readRelease]; (repeat' split) <;> simp
@[simp] theorem releaseRead_nextUid (v : Word) (s : State) : (releaseRead v s).nextUid = s.nextUid := by dsimp only [releaseRead, readRelease]; (repeat' split) <;> simp
@[simp] theorem releaseRead_link (v : Word) (s : State) : (releaseRead v s).link = s.link := by dsimp only [releaseRead, readRelease]; (repeat' split) <;> simp
@[simp] theorem releaseRead_free (v : Word) (s : State) : (releaseRead v s).free = s.free := by dsimp only [releaseRead, readRelease]; (repeat' split) <;> simp
@[simp] theorem completeStep_pending (r : StepRec) (g : Reading) (s : State) : (completeStep r g s).pending = s.pending := by dsimp only [completeStep]; simp
@[simp] theorem completeStep_mem (r : StepRec) (g : Reading) (s : State) : (completeStep r g s).mem = s.mem := by dsimp only [completeStep]; simp
@[simp] theorem completeStep_regs (r : StepRec) (g : Reading) (s : State) : (completeStep r g s).regs = s.regs := by dsimp only [completeStep]; simp
@[simp] theorem completeStep_settings (r : StepRec) (g : Reading) (s : State) : (completeStep r g s).settings = s.settings := by dsimp only [completeStep]; simp
@[simp] theorem completeStep_corr (r : StepRec) (g : Reading) (s : State) : (completeStep r g s).corr = s.corr := by dsimp only [completeStep]; simp
@[simp] theorem completeStep_port (r : StepRec) (g : Reading) (s : State) : (completeStep r g s).port = s.port := by dsimp only [completeStep]; simp
@[simp] theorem completeStep_rc (r : StepRec) (g : Reading) (s : State) : (completeStep r g s).rc = s.rc := by dsimp only [completeStep]; simp
@[simp] theorem completeStep_fetch (r : StepRec) (g : Reading) (s : State) : (completeStep r g s).fetch = s.fetch := by dsimp only [completeStep]; simp
@[simp] theorem completeStep_nextUid (r : StepRec) (g : Reading) (s : State) : (completeStep r g s).nextUid = s.nextUid := by dsimp only [completeStep]; simp
@[simp] theorem completeStep_link (r : StepRec) (g : Reading) (s : State) : (completeStep r g s).link = s.link := by dsimp only [completeStep]; simp
@[simp] theorem completeStep_div (r : StepRec) (g : Reading) (s : State) : (completeStep r g s).div = s.div := by dsimp only [completeStep]; simp
@[simp] theorem completeStep_log (r : StepRec) (g : Reading) (s : State) : (completeStep r g s).log = s.log := by dsimp only [completeStep]; simp
@[simp] theorem completeStep_notice (r : StepRec) (g : Reading) (s : State) : (completeStep r g s).notice = s.notice := by dsimp only [completeStep]; simp
@[simp] theorem completeStep_free (r : StepRec) (g : Reading) (s : State) : (completeStep r g s).free = s.free := by dsimp only [completeStep]; simp
@[simp] theorem issueCapture_pending (ws : List Word) (s : State) : (issueCapture ws s).pending = s.pending := by dsimp only [issueCapture]; (repeat' split) <;> simp
@[simp] theorem issueCapture_mem (ws : List Word) (s : State) : (issueCapture ws s).mem = s.mem := by dsimp only [issueCapture]; (repeat' split) <;> simp
@[simp] theorem issueCapture_regs (ws : List Word) (s : State) : (issueCapture ws s).regs = s.regs := by dsimp only [issueCapture]; (repeat' split) <;> simp
@[simp] theorem issueCapture_settings (ws : List Word) (s : State) : (issueCapture ws s).settings = s.settings := by dsimp only [issueCapture]; (repeat' split) <;> simp
@[simp] theorem issueCapture_corr (ws : List Word) (s : State) : (issueCapture ws s).corr = s.corr := by dsimp only [issueCapture]; (repeat' split) <;> simp
@[simp] theorem issueCapture_rc (ws : List Word) (s : State) : (issueCapture ws s).rc = s.rc := by dsimp only [issueCapture]; (repeat' split) <;> simp
@[simp] theorem issueCapture_fetch (ws : List Word) (s : State) : (issueCapture ws s).fetch = s.fetch := by dsimp only [issueCapture]; (repeat' split) <;> simp
@[simp] theorem issueCapture_window (ws : List Word) (s : State) : (issueCapture ws s).window = s.window := by dsimp only [issueCapture]; (repeat' split) <;> simp
@[simp] theorem issueCapture_nextUid (ws : List Word) (s : State) : (issueCapture ws s).nextUid = s.nextUid := by dsimp only [issueCapture]; (repeat' split) <;> simp
@[simp] theorem issueCapture_link (ws : List Word) (s : State) : (issueCapture ws s).link = s.link := by dsimp only [issueCapture]; (repeat' split) <;> simp
@[simp] theorem issueCapture_checks (ws : List Word) (s : State) : (issueCapture ws s).checks = s.checks := by dsimp only [issueCapture]; (repeat' split) <;> simp
@[simp] theorem issueCapture_unit (ws : List Word) (s : State) : (issueCapture ws s).unit = s.unit := by dsimp only [issueCapture]; (repeat' split) <;> simp
@[simp] theorem issueCapture_div (ws : List Word) (s : State) : (issueCapture ws s).div = s.div := by dsimp only [issueCapture]; (repeat' split) <;> simp
@[simp] theorem issueCapture_log (ws : List Word) (s : State) : (issueCapture ws s).log = s.log := by dsimp only [issueCapture]; (repeat' split) <;> simp
@[simp] theorem issueCapture_notice (ws : List Word) (s : State) : (issueCapture ws s).notice = s.notice := by dsimp only [issueCapture]; (repeat' split) <;> simp
@[simp] theorem issueCapture_free (ws : List Word) (s : State) : (issueCapture ws s).free = s.free := by dsimp only [issueCapture]; (repeat' split) <;> simp
@[simp] theorem captureMarks_pending (a b : Nat) (s : State) : (captureMarks a b s).pending = s.pending := by dsimp only [captureMarks]; (repeat' split) <;> simp
@[simp] theorem captureMarks_mem (a b : Nat) (s : State) : (captureMarks a b s).mem = s.mem := by dsimp only [captureMarks]; (repeat' split) <;> simp
@[simp] theorem captureMarks_regs (a b : Nat) (s : State) : (captureMarks a b s).regs = s.regs := by dsimp only [captureMarks]; (repeat' split) <;> simp
@[simp] theorem captureMarks_settings (a b : Nat) (s : State) : (captureMarks a b s).settings = s.settings := by dsimp only [captureMarks]; (repeat' split) <;> simp
@[simp] theorem captureMarks_corr (a b : Nat) (s : State) : (captureMarks a b s).corr = s.corr := by dsimp only [captureMarks]; (repeat' split) <;> simp
@[simp] theorem captureMarks_rc (a b : Nat) (s : State) : (captureMarks a b s).rc = s.rc := by dsimp only [captureMarks]; (repeat' split) <;> simp
@[simp] theorem captureMarks_fetch (a b : Nat) (s : State) : (captureMarks a b s).fetch = s.fetch := by dsimp only [captureMarks]; (repeat' split) <;> simp
@[simp] theorem captureMarks_window (a b : Nat) (s : State) : (captureMarks a b s).window = s.window := by dsimp only [captureMarks]; (repeat' split) <;> simp
@[simp] theorem captureMarks_nextUid (a b : Nat) (s : State) : (captureMarks a b s).nextUid = s.nextUid := by dsimp only [captureMarks]; (repeat' split) <;> simp
@[simp] theorem captureMarks_link (a b : Nat) (s : State) : (captureMarks a b s).link = s.link := by dsimp only [captureMarks]; (repeat' split) <;> simp
@[simp] theorem captureMarks_checks (a b : Nat) (s : State) : (captureMarks a b s).checks = s.checks := by dsimp only [captureMarks]; (repeat' split) <;> simp
@[simp] theorem captureMarks_unit (a b : Nat) (s : State) : (captureMarks a b s).unit = s.unit := by dsimp only [captureMarks]; (repeat' split) <;> simp
@[simp] theorem captureMarks_div (a b : Nat) (s : State) : (captureMarks a b s).div = s.div := by dsimp only [captureMarks]; (repeat' split) <;> simp
@[simp] theorem captureMarks_log (a b : Nat) (s : State) : (captureMarks a b s).log = s.log := by dsimp only [captureMarks]; (repeat' split) <;> simp
@[simp] theorem captureMarks_free (a b : Nat) (s : State) : (captureMarks a b s).free = s.free := by dsimp only [captureMarks]; (repeat' split) <;> simp
@[simp] theorem captureTaken_pending (r : StepRec) (s : State) : (captureTaken r s).pending = s.pending := by dsimp only [captureTaken]; (repeat' split) <;> simp
@[simp] theorem captureTaken_mem (r : StepRec) (s : State) : (captureTaken r s).mem = s.mem := by dsimp only [captureTaken]; (repeat' split) <;> simp
@[simp] theorem captureTaken_regs (r : StepRec) (s : State) : (captureTaken r s).regs = s.regs := by dsimp only [captureTaken]; (repeat' split) <;> simp
@[simp] theorem captureTaken_settings (r : StepRec) (s : State) : (captureTaken r s).settings = s.settings := by dsimp only [captureTaken]; (repeat' split) <;> simp
@[simp] theorem captureTaken_corr (r : StepRec) (s : State) : (captureTaken r s).corr = s.corr := by dsimp only [captureTaken]; (repeat' split) <;> simp
@[simp] theorem captureTaken_rc (r : StepRec) (s : State) : (captureTaken r s).rc = s.rc := by dsimp only [captureTaken]; (repeat' split) <;> simp
@[simp] theorem captureTaken_fetch (r : StepRec) (s : State) : (captureTaken r s).fetch = s.fetch := by dsimp only [captureTaken]; (repeat' split) <;> simp
@[simp] theorem captureTaken_nextUid (r : StepRec) (s : State) : (captureTaken r s).nextUid = s.nextUid := by dsimp only [captureTaken]; (repeat' split) <;> simp
@[simp] theorem captureTaken_link (r : StepRec) (s : State) : (captureTaken r s).link = s.link := by dsimp only [captureTaken]; (repeat' split) <;> simp
@[simp] theorem captureTaken_div (r : StepRec) (s : State) : (captureTaken r s).div = s.div := by dsimp only [captureTaken]; (repeat' split) <;> simp
@[simp] theorem captureTaken_free (r : StepRec) (s : State) : (captureTaken r s).free = s.free := by dsimp only [captureTaken]; (repeat' split) <;> simp
@[simp] theorem captureAcked_pending (l : Bool) (s : State) : (captureAcked l s).pending = s.pending := by dsimp only [captureAcked]; (repeat' split) <;> simp
@[simp] theorem captureAcked_mem (l : Bool) (s : State) : (captureAcked l s).mem = s.mem := by dsimp only [captureAcked]; (repeat' split) <;> simp
@[simp] theorem captureAcked_regs (l : Bool) (s : State) : (captureAcked l s).regs = s.regs := by dsimp only [captureAcked]; (repeat' split) <;> simp
@[simp] theorem captureAcked_settings (l : Bool) (s : State) : (captureAcked l s).settings = s.settings := by dsimp only [captureAcked]; (repeat' split) <;> simp
@[simp] theorem captureAcked_corr (l : Bool) (s : State) : (captureAcked l s).corr = s.corr := by dsimp only [captureAcked]; (repeat' split) <;> simp
@[simp] theorem captureAcked_rc (l : Bool) (s : State) : (captureAcked l s).rc = s.rc := by dsimp only [captureAcked]; (repeat' split) <;> simp
@[simp] theorem captureAcked_fetch (l : Bool) (s : State) : (captureAcked l s).fetch = s.fetch := by dsimp only [captureAcked]; (repeat' split) <;> simp
@[simp] theorem captureAcked_nextUid (l : Bool) (s : State) : (captureAcked l s).nextUid = s.nextUid := by dsimp only [captureAcked]; (repeat' split) <;> simp
@[simp] theorem captureAcked_link (l : Bool) (s : State) : (captureAcked l s).link = s.link := by dsimp only [captureAcked]; (repeat' split) <;> simp
@[simp] theorem captureAcked_div (l : Bool) (s : State) : (captureAcked l s).div = s.div := by dsimp only [captureAcked]; (repeat' split) <;> simp
@[simp] theorem captureAcked_free (l : Bool) (s : State) : (captureAcked l s).free = s.free := by dsimp only [captureAcked]; (repeat' split) <;> simp
@[simp] theorem judgeAttempt_pending (r : StepRec) (s : State) : (judgeAttempt r s).pending = s.pending := by dsimp only [judgeAttempt, finalAttempt]; (repeat' split) <;> simp
@[simp] theorem judgeAttempt_mem (r : StepRec) (s : State) : (judgeAttempt r s).mem = s.mem := by dsimp only [judgeAttempt, finalAttempt]; (repeat' split) <;> simp
@[simp] theorem judgeAttempt_regs (r : StepRec) (s : State) : (judgeAttempt r s).regs = s.regs := by dsimp only [judgeAttempt, finalAttempt]; (repeat' split) <;> simp
@[simp] theorem judgeAttempt_settings (r : StepRec) (s : State) : (judgeAttempt r s).settings = s.settings := by dsimp only [judgeAttempt, finalAttempt]; (repeat' split) <;> simp
@[simp] theorem judgeAttempt_corr (r : StepRec) (s : State) : (judgeAttempt r s).corr = s.corr := by dsimp only [judgeAttempt, finalAttempt]; (repeat' split) <;> simp
@[simp] theorem judgeAttempt_port (r : StepRec) (s : State) : (judgeAttempt r s).port = s.port := by dsimp only [judgeAttempt, finalAttempt]; (repeat' split) <;> simp
@[simp] theorem judgeAttempt_rc (r : StepRec) (s : State) : (judgeAttempt r s).rc = s.rc := by dsimp only [judgeAttempt, finalAttempt]; (repeat' split) <;> simp
@[simp] theorem judgeAttempt_fetch (r : StepRec) (s : State) : (judgeAttempt r s).fetch = s.fetch := by dsimp only [judgeAttempt, finalAttempt]; (repeat' split) <;> simp
@[simp] theorem judgeAttempt_window (r : StepRec) (s : State) : (judgeAttempt r s).window = s.window := by dsimp only [judgeAttempt, finalAttempt]; (repeat' split) <;> simp
@[simp] theorem judgeAttempt_nextUid (r : StepRec) (s : State) : (judgeAttempt r s).nextUid = s.nextUid := by dsimp only [judgeAttempt, finalAttempt]; (repeat' split) <;> simp
@[simp] theorem judgeAttempt_link (r : StepRec) (s : State) : (judgeAttempt r s).link = s.link := by dsimp only [judgeAttempt, finalAttempt]; (repeat' split) <;> simp
@[simp] theorem judgeAttempt_checks (r : StepRec) (s : State) : (judgeAttempt r s).checks = s.checks := by dsimp only [judgeAttempt, finalAttempt]; (repeat' split) <;> simp
@[simp] theorem judgeAttempt_div (r : StepRec) (s : State) : (judgeAttempt r s).div = s.div := by dsimp only [judgeAttempt, finalAttempt]; (repeat' split) <;> simp
@[simp] theorem judgeAttempt_log (r : StepRec) (s : State) : (judgeAttempt r s).log = s.log := by dsimp only [judgeAttempt, finalAttempt]; (repeat' split) <;> simp
@[simp] theorem judgeAttempt_notice (r : StepRec) (s : State) : (judgeAttempt r s).notice = s.notice := by dsimp only [judgeAttempt, finalAttempt]; (repeat' split) <;> simp
@[simp] theorem judgeAttempt_free (r : StepRec) (s : State) : (judgeAttempt r s).free = s.free := by dsimp only [judgeAttempt, finalAttempt]; (repeat' split) <;> simp
@[simp] theorem guardNotice_pending (k : NoticeKind) (s : State) : (guardNotice k s).pending = s.pending := by dsimp only [guardNotice]; (repeat' split) <;> simp
@[simp] theorem guardNotice_mem (k : NoticeKind) (s : State) : (guardNotice k s).mem = s.mem := by dsimp only [guardNotice]; (repeat' split) <;> simp
@[simp] theorem guardNotice_regs (k : NoticeKind) (s : State) : (guardNotice k s).regs = s.regs := by dsimp only [guardNotice]; (repeat' split) <;> simp
@[simp] theorem guardNotice_settings (k : NoticeKind) (s : State) : (guardNotice k s).settings = s.settings := by dsimp only [guardNotice]; (repeat' split) <;> simp
@[simp] theorem guardNotice_corr (k : NoticeKind) (s : State) : (guardNotice k s).corr = s.corr := by dsimp only [guardNotice]; (repeat' split) <;> simp
@[simp] theorem guardNotice_rc (k : NoticeKind) (s : State) : (guardNotice k s).rc = s.rc := by dsimp only [guardNotice]; (repeat' split) <;> simp
@[simp] theorem guardNotice_fetch (k : NoticeKind) (s : State) : (guardNotice k s).fetch = s.fetch := by dsimp only [guardNotice]; (repeat' split) <;> simp
@[simp] theorem guardNotice_window (k : NoticeKind) (s : State) : (guardNotice k s).window = s.window := by dsimp only [guardNotice]; (repeat' split) <;> simp
@[simp] theorem guardNotice_nextUid (k : NoticeKind) (s : State) : (guardNotice k s).nextUid = s.nextUid := by dsimp only [guardNotice]; (repeat' split) <;> simp
@[simp] theorem guardNotice_link (k : NoticeKind) (s : State) : (guardNotice k s).link = s.link := by dsimp only [guardNotice]; (repeat' split) <;> simp
@[simp] theorem guardNotice_checks (k : NoticeKind) (s : State) : (guardNotice k s).checks = s.checks := by dsimp only [guardNotice]; (repeat' split) <;> simp
@[simp] theorem guardNotice_unit (k : NoticeKind) (s : State) : (guardNotice k s).unit = s.unit := by dsimp only [guardNotice]; (repeat' split) <;> simp
@[simp] theorem guardNotice_div (k : NoticeKind) (s : State) : (guardNotice k s).div = s.div := by dsimp only [guardNotice]; (repeat' split) <;> simp
@[simp] theorem guardNotice_log (k : NoticeKind) (s : State) : (guardNotice k s).log = s.log := by dsimp only [guardNotice]; (repeat' split) <;> simp
@[simp] theorem guardNotice_free (k : NoticeKind) (s : State) : (guardNotice k s).free = s.free := by dsimp only [guardNotice]; (repeat' split) <;> simp
@[simp] theorem guardByState_pending (s : State) : (guardByState s).pending = s.pending := by dsimp only [guardByState, enterGuardHold]; (repeat' split) <;> simp
@[simp] theorem guardByState_mem (s : State) : (guardByState s).mem = s.mem := by dsimp only [guardByState, enterGuardHold]; (repeat' split) <;> simp
@[simp] theorem guardByState_regs (s : State) : (guardByState s).regs = s.regs := by dsimp only [guardByState, enterGuardHold]; (repeat' split) <;> simp
@[simp] theorem guardByState_settings (s : State) : (guardByState s).settings = s.settings := by dsimp only [guardByState, enterGuardHold]; (repeat' split) <;> simp
@[simp] theorem guardByState_corr (s : State) : (guardByState s).corr = s.corr := by dsimp only [guardByState, enterGuardHold]; (repeat' split) <;> simp
@[simp] theorem guardByState_fetch (s : State) : (guardByState s).fetch = s.fetch := by dsimp only [guardByState, enterGuardHold]; (repeat' split) <;> simp
@[simp] theorem guardByState_window (s : State) : (guardByState s).window = s.window := by dsimp only [guardByState, enterGuardHold]; (repeat' split) <;> simp
@[simp] theorem guardByState_nextUid (s : State) : (guardByState s).nextUid = s.nextUid := by dsimp only [guardByState, enterGuardHold]; (repeat' split) <;> simp
@[simp] theorem guardByState_link (s : State) : (guardByState s).link = s.link := by dsimp only [guardByState, enterGuardHold]; (repeat' split) <;> simp
@[simp] theorem guardByState_checks (s : State) : (guardByState s).checks = s.checks := by dsimp only [guardByState, enterGuardHold]; (repeat' split) <;> simp
@[simp] theorem guardByState_unit (s : State) : (guardByState s).unit = s.unit := by dsimp only [guardByState, enterGuardHold]; (repeat' split) <;> simp
@[simp] theorem guardByState_div (s : State) : (guardByState s).div = s.div := by dsimp only [guardByState, enterGuardHold]; (repeat' split) <;> simp
@[simp] theorem guardByState_log (s : State) : (guardByState s).log = s.log := by dsimp only [guardByState, enterGuardHold]; (repeat' split) <;> simp
@[simp] theorem guardByState_notice (s : State) : (guardByState s).notice = s.notice := by dsimp only [guardByState, enterGuardHold]; (repeat' split) <;> simp
@[simp] theorem guardByState_free (s : State) : (guardByState s).free = s.free := by dsimp only [guardByState, enterGuardHold]; (repeat' split) <;> simp
@[simp] theorem guardStop_pending (s : State) : (guardStop s).pending = s.pending := by dsimp only [guardStop]; simp
@[simp] theorem guardStop_mem (s : State) : (guardStop s).mem = s.mem := by dsimp only [guardStop]; simp
@[simp] theorem guardStop_regs (s : State) : (guardStop s).regs = s.regs := by dsimp only [guardStop]; simp
@[simp] theorem guardStop_settings (s : State) : (guardStop s).settings = s.settings := by dsimp only [guardStop]; simp
@[simp] theorem guardStop_corr (s : State) : (guardStop s).corr = s.corr := by dsimp only [guardStop]; simp
@[simp] theorem guardStop_rc (s : State) : (guardStop s).rc = { s.rc with
    guardLine := { s.rc.guardLine with filtered := true }, stoppedReceived := false } := by dsimp only [guardStop]; simp
@[simp] theorem guardStop_fetch (s : State) : (guardStop s).fetch = s.fetch := by dsimp only [guardStop]; simp
@[simp] theorem guardStop_window (s : State) : (guardStop s).window = s.window := by dsimp only [guardStop]; simp
@[simp] theorem guardStop_nextUid (s : State) : (guardStop s).nextUid = s.nextUid := by dsimp only [guardStop]; simp
@[simp] theorem guardStop_div (s : State) : (guardStop s).div = s.div := by dsimp only [guardStop]; simp
@[simp] theorem guardStop_log (s : State) : (guardStop s).log = s.log := by dsimp only [guardStop]; simp
@[simp] theorem guardStop_free (s : State) : (guardStop s).free = s.free := by dsimp only [guardStop]; simp
@[simp] theorem boardLossByState_pending (s : State) : (boardLossByState s).pending = s.pending := by dsimp only [boardLossByState, seeAbsent]; (repeat' split) <;> simp
@[simp] theorem boardLossByState_mem (s : State) : (boardLossByState s).mem = s.mem := by dsimp only [boardLossByState, seeAbsent]; (repeat' split) <;> simp
@[simp] theorem boardLossByState_regs (s : State) : (boardLossByState s).regs = s.regs := by dsimp only [boardLossByState, seeAbsent]; (repeat' split) <;> simp
@[simp] theorem boardLossByState_settings (s : State) : (boardLossByState s).settings = s.settings := by dsimp only [boardLossByState, seeAbsent]; (repeat' split) <;> simp
@[simp] theorem boardLossByState_corr (s : State) : (boardLossByState s).corr = s.corr := by dsimp only [boardLossByState, seeAbsent]; (repeat' split) <;> simp
@[simp] theorem boardLossByState_nextUid (s : State) : (boardLossByState s).nextUid = s.nextUid := by dsimp only [boardLossByState, seeAbsent]; (repeat' split) <;> simp
@[simp] theorem boardLossByState_free (s : State) : (boardLossByState s).free = s.free := by dsimp only [boardLossByState, seeAbsent]; (repeat' split) <;> simp
@[simp] theorem loseLink_pending (s : State) : (loseLink s).pending = s.pending := by dsimp only [loseLink]; (repeat' split) <;> simp
@[simp] theorem loseLink_mem (s : State) : (loseLink s).mem = s.mem := by dsimp only [loseLink]; (repeat' split) <;> simp
@[simp] theorem loseLink_regs (s : State) : (loseLink s).regs = s.regs := by dsimp only [loseLink]; (repeat' split) <;> simp
@[simp] theorem loseLink_settings (s : State) : (loseLink s).settings = s.settings := by dsimp only [loseLink]; (repeat' split) <;> simp
@[simp] theorem loseLink_corr (s : State) : (loseLink s).corr = s.corr := by dsimp only [loseLink]; (repeat' split) <;> simp
@[simp] theorem loseLink_nextUid (s : State) : (loseLink s).nextUid = s.nextUid := by dsimp only [loseLink]; (repeat' split) <;> simp
@[simp] theorem loseLink_link (s : State) : (loseLink s).link = s.link := by dsimp only [loseLink]; (repeat' split) <;> simp
@[simp] theorem loseLink_free (s : State) : (loseLink s).free = s.free := by dsimp only [loseLink]; (repeat' split) <;> simp
@[simp] theorem wrapTime_pending (s : State) : (wrapTime s).pending = s.pending := by dsimp only [wrapTime]; simp
@[simp] theorem wrapTime_mem (s : State) : (wrapTime s).mem = s.mem := by dsimp only [wrapTime]; simp
@[simp] theorem wrapTime_regs (s : State) : (wrapTime s).regs = s.regs := by dsimp only [wrapTime]; simp
@[simp] theorem wrapTime_settings (s : State) : (wrapTime s).settings = s.settings := by dsimp only [wrapTime]; simp
@[simp] theorem wrapTime_corr (s : State) : (wrapTime s).corr = s.corr := by dsimp only [wrapTime]; simp
@[simp] theorem wrapTime_fetch (s : State) : (wrapTime s).fetch = s.fetch := by dsimp only [wrapTime]; simp
@[simp] theorem wrapTime_window (s : State) : (wrapTime s).window = s.window := by dsimp only [wrapTime]; simp
@[simp] theorem wrapTime_nextUid (s : State) : (wrapTime s).nextUid = s.nextUid := by dsimp only [wrapTime]; simp
@[simp] theorem wrapTime_link (s : State) : (wrapTime s).link = s.link := by dsimp only [wrapTime]; simp
@[simp] theorem wrapTime_checks (s : State) : (wrapTime s).checks = s.checks := by dsimp only [wrapTime]; simp
@[simp] theorem wrapTime_unit (s : State) : (wrapTime s).unit = s.unit := by dsimp only [wrapTime]; simp
@[simp] theorem wrapTime_div (s : State) : (wrapTime s).div = s.div := by dsimp only [wrapTime]; simp
@[simp] theorem wrapTime_log (s : State) : (wrapTime s).log = s.log := by dsimp only [wrapTime]; simp
@[simp] theorem wrapTime_free (s : State) : (wrapTime s).free = s.free := by dsimp only [wrapTime]; simp
@[simp] theorem landProbe_pending (p : ProbeNo) (b : Bool) (s : State) : (landProbe p b s).pending = s.pending := by dsimp only [landProbe]; simp
@[simp] theorem landProbe_mem (p : ProbeNo) (b : Bool) (s : State) : (landProbe p b s).mem = s.mem := by dsimp only [landProbe]; simp
@[simp] theorem landProbe_regs (p : ProbeNo) (b : Bool) (s : State) : (landProbe p b s).regs = s.regs := by dsimp only [landProbe]; simp
@[simp] theorem landProbe_settings (p : ProbeNo) (b : Bool) (s : State) : (landProbe p b s).settings = s.settings := by dsimp only [landProbe]; simp
@[simp] theorem landProbe_corr (p : ProbeNo) (b : Bool) (s : State) : (landProbe p b s).corr = s.corr := by dsimp only [landProbe]; simp
@[simp] theorem landProbe_rc (p : ProbeNo) (b : Bool) (s : State) : (landProbe p b s).rc = s.rc := by dsimp only [landProbe]; simp
@[simp] theorem landProbe_fetch (p : ProbeNo) (b : Bool) (s : State) : (landProbe p b s).fetch = s.fetch := by dsimp only [landProbe]; simp
@[simp] theorem landProbe_nextUid (p : ProbeNo) (b : Bool) (s : State) : (landProbe p b s).nextUid = s.nextUid := by dsimp only [landProbe]; simp
@[simp] theorem landProbe_unit (p : ProbeNo) (b : Bool) (s : State) : (landProbe p b s).unit = s.unit := by dsimp only [landProbe]; simp
@[simp] theorem landProbe_div (p : ProbeNo) (b : Bool) (s : State) : (landProbe p b s).div = s.div := by dsimp only [landProbe]; simp
@[simp] theorem landProbe_log (p : ProbeNo) (b : Bool) (s : State) : (landProbe p b s).log = s.log := by dsimp only [landProbe]; simp
@[simp] theorem landProbe_free (p : ProbeNo) (b : Bool) (s : State) : (landProbe p b s).free = s.free := by dsimp only [landProbe]; simp
@[simp] theorem faultProbe_pending (p : ProbeNo) (a : Byte) (c : Cause) (d : Nat) (s : State) : (faultProbe p a c d s).pending = s.pending := by dsimp only [faultProbe]; (repeat' split) <;> simp
@[simp] theorem faultProbe_mem (p : ProbeNo) (a : Byte) (c : Cause) (d : Nat) (s : State) : (faultProbe p a c d s).mem = s.mem := by dsimp only [faultProbe]; (repeat' split) <;> simp
@[simp] theorem faultProbe_regs (p : ProbeNo) (a : Byte) (c : Cause) (d : Nat) (s : State) : (faultProbe p a c d s).regs = s.regs := by dsimp only [faultProbe]; (repeat' split) <;> simp
@[simp] theorem faultProbe_settings (p : ProbeNo) (a : Byte) (c : Cause) (d : Nat) (s : State) : (faultProbe p a c d s).settings = s.settings := by dsimp only [faultProbe]; (repeat' split) <;> simp
@[simp] theorem faultProbe_corr (p : ProbeNo) (a : Byte) (c : Cause) (d : Nat) (s : State) : (faultProbe p a c d s).corr = s.corr := by dsimp only [faultProbe]; (repeat' split) <;> simp
@[simp] theorem faultProbe_fetch (p : ProbeNo) (a : Byte) (c : Cause) (d : Nat) (s : State) : (faultProbe p a c d s).fetch = s.fetch := by dsimp only [faultProbe]; (repeat' split) <;> simp
@[simp] theorem faultProbe_nextUid (p : ProbeNo) (a : Byte) (c : Cause) (d : Nat) (s : State) : (faultProbe p a c d s).nextUid = s.nextUid := by dsimp only [faultProbe]; (repeat' split) <;> simp
@[simp] theorem faultProbe_div (p : ProbeNo) (a : Byte) (c : Cause) (d : Nat) (s : State) : (faultProbe p a c d s).div = s.div := by dsimp only [faultProbe]; (repeat' split) <;> simp
@[simp] theorem faultProbe_log (p : ProbeNo) (a : Byte) (c : Cause) (d : Nat) (s : State) : (faultProbe p a c d s).log = s.log := by dsimp only [faultProbe]; (repeat' split) <;> simp
@[simp] theorem faultProbe_notice (p : ProbeNo) (a : Byte) (c : Cause) (d : Nat) (s : State) : (faultProbe p a c d s).notice = s.notice := by dsimp only [faultProbe]; (repeat' split) <;> simp
@[simp] theorem faultProbe_free (p : ProbeNo) (a : Byte) (c : Cause) (d : Nat) (s : State) : (faultProbe p a c d s).free = s.free := by dsimp only [faultProbe]; (repeat' split) <;> simp
@[simp] theorem stopEnded_pending (s : State) : (stopEnded s).pending = s.pending := by dsimp only [stopEnded]; simp
@[simp] theorem stopEnded_mem (s : State) : (stopEnded s).mem = s.mem := by dsimp only [stopEnded]; simp
@[simp] theorem stopEnded_regs (s : State) : (stopEnded s).regs = s.regs := by dsimp only [stopEnded]; simp
@[simp] theorem stopEnded_settings (s : State) : (stopEnded s).settings = s.settings := by dsimp only [stopEnded]; simp
@[simp] theorem stopEnded_corr (s : State) : (stopEnded s).corr = s.corr := by dsimp only [stopEnded]; simp
@[simp] theorem stopEnded_rc (s : State) : (stopEnded s).rc = s.rc := by dsimp only [stopEnded]; simp
@[simp] theorem stopEnded_fetch (s : State) : (stopEnded s).fetch = s.fetch := by dsimp only [stopEnded]; simp
@[simp] theorem stopEnded_window (s : State) : (stopEnded s).window = s.window := by dsimp only [stopEnded]; simp
@[simp] theorem stopEnded_nextUid (s : State) : (stopEnded s).nextUid = s.nextUid := by dsimp only [stopEnded]; simp
@[simp] theorem stopEnded_div (s : State) : (stopEnded s).div = s.div := by dsimp only [stopEnded]; simp
@[simp] theorem stopEnded_log (s : State) : (stopEnded s).log = s.log := by dsimp only [stopEnded]; simp
@[simp] theorem stopEnded_notice (s : State) : (stopEnded s).notice = s.notice := by dsimp only [stopEnded]; simp
@[simp] theorem stopEnded_free (s : State) : (stopEnded s).free = s.free := by dsimp only [stopEnded]; simp
@[simp] theorem continueHold_pending (s : State) : (continueHold s).pending = s.pending := by dsimp only [continueHold]; (repeat' split) <;> simp
@[simp] theorem continueHold_mem (s : State) : (continueHold s).mem = s.mem := by dsimp only [continueHold]; (repeat' split) <;> simp
@[simp] theorem continueHold_regs (s : State) : (continueHold s).regs = s.regs := by dsimp only [continueHold]; (repeat' split) <;> simp
@[simp] theorem continueHold_settings (s : State) : (continueHold s).settings = s.settings := by dsimp only [continueHold]; (repeat' split) <;> simp
@[simp] theorem continueHold_corr (s : State) : (continueHold s).corr = s.corr := by dsimp only [continueHold]; (repeat' split) <;> simp
@[simp] theorem continueHold_fetch (s : State) : (continueHold s).fetch = s.fetch := by dsimp only [continueHold]; (repeat' split) <;> simp
@[simp] theorem continueHold_window (s : State) : (continueHold s).window = s.window := by dsimp only [continueHold]; (repeat' split) <;> simp
@[simp] theorem continueHold_nextUid (s : State) : (continueHold s).nextUid = s.nextUid := by dsimp only [continueHold]; (repeat' split) <;> simp
@[simp] theorem continueHold_link (s : State) : (continueHold s).link = s.link := by dsimp only [continueHold]; (repeat' split) <;> simp
@[simp] theorem continueHold_checks (s : State) : (continueHold s).checks = s.checks := by dsimp only [continueHold]; (repeat' split) <;> simp
@[simp] theorem continueHold_unit (s : State) : (continueHold s).unit = s.unit := by dsimp only [continueHold]; (repeat' split) <;> simp
@[simp] theorem continueHold_div (s : State) : (continueHold s).div = s.div := by dsimp only [continueHold]; (repeat' split) <;> simp
@[simp] theorem continueHold_log (s : State) : (continueHold s).log = s.log := by dsimp only [continueHold]; (repeat' split) <;> simp
@[simp] theorem continueHold_notice (s : State) : (continueHold s).notice = s.notice := by dsimp only [continueHold]; (repeat' split) <;> simp
@[simp] theorem continueHold_free (s : State) : (continueHold s).free = s.free := by dsimp only [continueHold]; (repeat' split) <;> simp
@[simp] theorem roomRelease_pending (s : State) : (roomRelease s).pending = s.pending := by dsimp only [roomRelease, readRelease]; (repeat' split) <;> simp
@[simp] theorem roomRelease_mem (s : State) : (roomRelease s).mem = s.mem := by dsimp only [roomRelease, readRelease]; (repeat' split) <;> simp
@[simp] theorem roomRelease_regs (s : State) : (roomRelease s).regs = s.regs := by dsimp only [roomRelease, readRelease]; (repeat' split) <;> simp
@[simp] theorem roomRelease_settings (s : State) : (roomRelease s).settings = s.settings := by dsimp only [roomRelease, readRelease]; (repeat' split) <;> simp
@[simp] theorem roomRelease_corr (s : State) : (roomRelease s).corr = s.corr := by dsimp only [roomRelease, readRelease]; (repeat' split) <;> simp
@[simp] theorem roomRelease_rc (s : State) : (roomRelease s).rc = s.rc := by dsimp only [roomRelease, readRelease]; (repeat' split) <;> simp
@[simp] theorem roomRelease_fetch (s : State) : (roomRelease s).fetch = s.fetch := by dsimp only [roomRelease, readRelease]; (repeat' split) <;> simp
@[simp] theorem roomRelease_window (s : State) : (roomRelease s).window = s.window := by dsimp only [roomRelease, readRelease]; (repeat' split) <;> simp
@[simp] theorem roomRelease_nextUid (s : State) : (roomRelease s).nextUid = s.nextUid := by dsimp only [roomRelease, readRelease]; (repeat' split) <;> simp
@[simp] theorem roomRelease_link (s : State) : (roomRelease s).link = s.link := by dsimp only [roomRelease, readRelease]; (repeat' split) <;> simp
@[simp] theorem roomRelease_checks (s : State) : (roomRelease s).checks = s.checks := by dsimp only [roomRelease, readRelease]; (repeat' split) <;> simp
@[simp] theorem roomRelease_unit (s : State) : (roomRelease s).unit = s.unit := by dsimp only [roomRelease, readRelease]; (repeat' split) <;> simp
@[simp] theorem roomRelease_div (s : State) : (roomRelease s).div = s.div := by dsimp only [roomRelease, readRelease]; (repeat' split) <;> simp
@[simp] theorem roomRelease_notice (s : State) : (roomRelease s).notice = s.notice := by dsimp only [roomRelease, readRelease]; (repeat' split) <;> simp
@[simp] theorem roomRelease_free (s : State) : (roomRelease s).free = s.free := by dsimp only [roomRelease, readRelease]; (repeat' split) <;> simp
@[simp] theorem roomReady_pending (s : State) : (roomReady s).pending = s.pending := by dsimp only [roomReady]; (repeat' split) <;> simp
@[simp] theorem roomReady_mem (s : State) : (roomReady s).mem = s.mem := by dsimp only [roomReady]; (repeat' split) <;> simp
@[simp] theorem roomReady_regs (s : State) : (roomReady s).regs = s.regs := by dsimp only [roomReady]; (repeat' split) <;> simp
@[simp] theorem roomReady_settings (s : State) : (roomReady s).settings = s.settings := by dsimp only [roomReady]; (repeat' split) <;> simp
@[simp] theorem roomReady_corr (s : State) : (roomReady s).corr = s.corr := by dsimp only [roomReady]; (repeat' split) <;> simp
@[simp] theorem roomReady_fetch (s : State) : (roomReady s).fetch = s.fetch := by dsimp only [roomReady]; (repeat' split) <;> simp
@[simp] theorem roomReady_window (s : State) : (roomReady s).window = s.window := by dsimp only [roomReady]; (repeat' split) <;> simp
@[simp] theorem roomReady_nextUid (s : State) : (roomReady s).nextUid = s.nextUid := by dsimp only [roomReady]; (repeat' split) <;> simp
@[simp] theorem roomReady_link (s : State) : (roomReady s).link = s.link := by dsimp only [roomReady]; (repeat' split) <;> simp
@[simp] theorem roomReady_checks (s : State) : (roomReady s).checks = s.checks := by dsimp only [roomReady]; (repeat' split) <;> simp
@[simp] theorem roomReady_unit (s : State) : (roomReady s).unit = s.unit := by dsimp only [roomReady]; (repeat' split) <;> simp
@[simp] theorem roomReady_div (s : State) : (roomReady s).div = s.div := by dsimp only [roomReady]; (repeat' split) <;> simp
@[simp] theorem roomReady_log (s : State) : (roomReady s).log = s.log := by dsimp only [roomReady]; (repeat' split) <;> simp
@[simp] theorem roomReady_notice (s : State) : (roomReady s).notice = s.notice := by dsimp only [roomReady]; (repeat' split) <;> simp
@[simp] theorem roomReady_free (s : State) : (roomReady s).free = s.free := by dsimp only [roomReady]; (repeat' split) <;> simp
@[simp] theorem landFrom_pending (ws : List Word) (ps : List PointRec) (l : Option LimitRec) (k : MeasKind) (i : Nat) (s : State) : (landFrom ws ps l k i s).pending = s.pending := by dsimp only [landFrom, placeLandingRefused, placeMeasure]; (repeat' split) <;> simp
@[simp] theorem landFrom_mem (ws : List Word) (ps : List PointRec) (l : Option LimitRec) (k : MeasKind) (i : Nat) (s : State) : (landFrom ws ps l k i s).mem = s.mem := by dsimp only [landFrom, placeLandingRefused, placeMeasure]; (repeat' split) <;> simp
@[simp] theorem landFrom_regs (ws : List Word) (ps : List PointRec) (l : Option LimitRec) (k : MeasKind) (i : Nat) (s : State) : (landFrom ws ps l k i s).regs = s.regs := by dsimp only [landFrom, placeLandingRefused, placeMeasure]; (repeat' split) <;> simp
@[simp] theorem landFrom_settings (ws : List Word) (ps : List PointRec) (l : Option LimitRec) (k : MeasKind) (i : Nat) (s : State) : (landFrom ws ps l k i s).settings = s.settings := by dsimp only [landFrom, placeLandingRefused, placeMeasure]; (repeat' split) <;> simp
@[simp] theorem landFrom_corr (ws : List Word) (ps : List PointRec) (l : Option LimitRec) (k : MeasKind) (i : Nat) (s : State) : (landFrom ws ps l k i s).corr = s.corr := by dsimp only [landFrom, placeLandingRefused, placeMeasure]; (repeat' split) <;> simp
@[simp] theorem landFrom_link (ws : List Word) (ps : List PointRec) (l : Option LimitRec) (k : MeasKind) (i : Nat) (s : State) : (landFrom ws ps l k i s).link = s.link := by dsimp only [landFrom, placeLandingRefused, placeMeasure]; (repeat' split) <;> simp
@[simp] theorem landFrom_checks (ws : List Word) (ps : List PointRec) (l : Option LimitRec) (k : MeasKind) (i : Nat) (s : State) : (landFrom ws ps l k i s).checks = s.checks := by dsimp only [landFrom, placeLandingRefused, placeMeasure]; (repeat' split) <;> simp
@[simp] theorem landFrom_unit (ws : List Word) (ps : List PointRec) (l : Option LimitRec) (k : MeasKind) (i : Nat) (s : State) : (landFrom ws ps l k i s).unit = s.unit := by dsimp only [landFrom, placeLandingRefused, placeMeasure]; (repeat' split) <;> simp
@[simp] theorem landFrom_div (ws : List Word) (ps : List PointRec) (l : Option LimitRec) (k : MeasKind) (i : Nat) (s : State) : (landFrom ws ps l k i s).div = s.div := by dsimp only [landFrom, placeLandingRefused, placeMeasure]; (repeat' split) <;> simp
@[simp] theorem landFrom_log (ws : List Word) (ps : List PointRec) (l : Option LimitRec) (k : MeasKind) (i : Nat) (s : State) : (landFrom ws ps l k i s).log = s.log := by dsimp only [landFrom, placeLandingRefused, placeMeasure]; (repeat' split) <;> simp
@[simp] theorem landFrom_notice (ws : List Word) (ps : List PointRec) (l : Option LimitRec) (k : MeasKind) (i : Nat) (s : State) : (landFrom ws ps l k i s).notice = s.notice := by dsimp only [landFrom, placeLandingRefused, placeMeasure]; (repeat' split) <;> simp
@[simp] theorem landFrom_free (ws : List Word) (ps : List PointRec) (l : Option LimitRec) (k : MeasKind) (i : Nat) (s : State) : (landFrom ws ps l k i s).free = s.free := by dsimp only [landFrom, placeLandingRefused, placeMeasure]; (repeat' split) <;> simp
@[simp] theorem keepOutRead_pending (ws : List Word) (ps : List PointRec) (l : Option LimitRec) (k : MeasKind) (i : Nat) (w : Word) (s : State) : (keepOutRead ws ps l k i w s).pending = s.pending := by dsimp only [keepOutRead, placeLandingRefused, placeMeasure]; (repeat' split) <;> simp
@[simp] theorem keepOutRead_mem (ws : List Word) (ps : List PointRec) (l : Option LimitRec) (k : MeasKind) (i : Nat) (w : Word) (s : State) : (keepOutRead ws ps l k i w s).mem = s.mem := by dsimp only [keepOutRead, placeLandingRefused, placeMeasure]; (repeat' split) <;> simp
@[simp] theorem keepOutRead_regs (ws : List Word) (ps : List PointRec) (l : Option LimitRec) (k : MeasKind) (i : Nat) (w : Word) (s : State) : (keepOutRead ws ps l k i w s).regs = s.regs := by dsimp only [keepOutRead, placeLandingRefused, placeMeasure]; (repeat' split) <;> simp
@[simp] theorem keepOutRead_settings (ws : List Word) (ps : List PointRec) (l : Option LimitRec) (k : MeasKind) (i : Nat) (w : Word) (s : State) : (keepOutRead ws ps l k i w s).settings = s.settings := by dsimp only [keepOutRead, placeLandingRefused, placeMeasure]; (repeat' split) <;> simp
@[simp] theorem keepOutRead_corr (ws : List Word) (ps : List PointRec) (l : Option LimitRec) (k : MeasKind) (i : Nat) (w : Word) (s : State) : (keepOutRead ws ps l k i w s).corr = s.corr := by dsimp only [keepOutRead, placeLandingRefused, placeMeasure]; (repeat' split) <;> simp
@[simp] theorem keepOutRead_link (ws : List Word) (ps : List PointRec) (l : Option LimitRec) (k : MeasKind) (i : Nat) (w : Word) (s : State) : (keepOutRead ws ps l k i w s).link = s.link := by dsimp only [keepOutRead, placeLandingRefused, placeMeasure]; (repeat' split) <;> simp
@[simp] theorem keepOutRead_checks (ws : List Word) (ps : List PointRec) (l : Option LimitRec) (k : MeasKind) (i : Nat) (w : Word) (s : State) : (keepOutRead ws ps l k i w s).checks = s.checks := by dsimp only [keepOutRead, placeLandingRefused, placeMeasure]; (repeat' split) <;> simp
@[simp] theorem keepOutRead_unit (ws : List Word) (ps : List PointRec) (l : Option LimitRec) (k : MeasKind) (i : Nat) (w : Word) (s : State) : (keepOutRead ws ps l k i w s).unit = s.unit := by dsimp only [keepOutRead, placeLandingRefused, placeMeasure]; (repeat' split) <;> simp
@[simp] theorem keepOutRead_div (ws : List Word) (ps : List PointRec) (l : Option LimitRec) (k : MeasKind) (i : Nat) (w : Word) (s : State) : (keepOutRead ws ps l k i w s).div = s.div := by dsimp only [keepOutRead, placeLandingRefused, placeMeasure]; (repeat' split) <;> simp
@[simp] theorem keepOutRead_log (ws : List Word) (ps : List PointRec) (l : Option LimitRec) (k : MeasKind) (i : Nat) (w : Word) (s : State) : (keepOutRead ws ps l k i w s).log = s.log := by dsimp only [keepOutRead, placeLandingRefused, placeMeasure]; (repeat' split) <;> simp
@[simp] theorem keepOutRead_notice (ws : List Word) (ps : List PointRec) (l : Option LimitRec) (k : MeasKind) (i : Nat) (w : Word) (s : State) : (keepOutRead ws ps l k i w s).notice = s.notice := by dsimp only [keepOutRead, placeLandingRefused, placeMeasure]; (repeat' split) <;> simp
@[simp] theorem keepOutRead_free (ws : List Word) (ps : List PointRec) (l : Option LimitRec) (k : MeasKind) (i : Nat) (w : Word) (s : State) : (keepOutRead ws ps l k i w s).free = s.free := by dsimp only [keepOutRead, placeLandingRefused, placeMeasure]; (repeat' split) <;> simp
@[simp] theorem recordsRead_pending (ws : List Word) (ps : List PointRec) (g : Bool) (l : Option LimitRec) (s : State) : (recordsRead ws ps g l s).pending = s.pending := by dsimp only [recordsRead, placeProgramError]; (repeat' split) <;> simp
@[simp] theorem recordsRead_mem (ws : List Word) (ps : List PointRec) (g : Bool) (l : Option LimitRec) (s : State) : (recordsRead ws ps g l s).mem = s.mem := by dsimp only [recordsRead, placeProgramError]; (repeat' split) <;> simp
@[simp] theorem recordsRead_regs (ws : List Word) (ps : List PointRec) (g : Bool) (l : Option LimitRec) (s : State) : (recordsRead ws ps g l s).regs = s.regs := by dsimp only [recordsRead, placeProgramError]; (repeat' split) <;> simp
@[simp] theorem recordsRead_settings (ws : List Word) (ps : List PointRec) (g : Bool) (l : Option LimitRec) (s : State) : (recordsRead ws ps g l s).settings = s.settings := by dsimp only [recordsRead, placeProgramError]; (repeat' split) <;> simp
@[simp] theorem recordsRead_corr (ws : List Word) (ps : List PointRec) (g : Bool) (l : Option LimitRec) (s : State) : (recordsRead ws ps g l s).corr = s.corr := by dsimp only [recordsRead, placeProgramError]; (repeat' split) <;> simp
@[simp] theorem recordsRead_link (ws : List Word) (ps : List PointRec) (g : Bool) (l : Option LimitRec) (s : State) : (recordsRead ws ps g l s).link = s.link := by dsimp only [recordsRead, placeProgramError]; (repeat' split) <;> simp
@[simp] theorem recordsRead_checks (ws : List Word) (ps : List PointRec) (g : Bool) (l : Option LimitRec) (s : State) : (recordsRead ws ps g l s).checks = s.checks := by dsimp only [recordsRead, placeProgramError]; (repeat' split) <;> simp
@[simp] theorem recordsRead_unit (ws : List Word) (ps : List PointRec) (g : Bool) (l : Option LimitRec) (s : State) : (recordsRead ws ps g l s).unit = s.unit := by dsimp only [recordsRead, placeProgramError]; (repeat' split) <;> simp
@[simp] theorem recordsRead_div (ws : List Word) (ps : List PointRec) (g : Bool) (l : Option LimitRec) (s : State) : (recordsRead ws ps g l s).div = s.div := by dsimp only [recordsRead, placeProgramError]; (repeat' split) <;> simp
@[simp] theorem recordsRead_log (ws : List Word) (ps : List PointRec) (g : Bool) (l : Option LimitRec) (s : State) : (recordsRead ws ps g l s).log = s.log := by dsimp only [recordsRead, placeProgramError]; (repeat' split) <;> simp
@[simp] theorem recordsRead_notice (ws : List Word) (ps : List PointRec) (g : Bool) (l : Option LimitRec) (s : State) : (recordsRead ws ps g l s).notice = s.notice := by dsimp only [recordsRead, placeProgramError]; (repeat' split) <;> simp
@[simp] theorem recordsRead_free (ws : List Word) (ps : List PointRec) (g : Bool) (l : Option LimitRec) (s : State) : (recordsRead ws ps g l s).free = s.free := by dsimp only [recordsRead, placeProgramError]; (repeat' split) <;> simp
@[simp] theorem readPoints_pending (ws : List Word) (ps : List PointRec) (s : State) : (readPoints ws ps s).pending = s.pending := by dsimp only [readPoints, placeProgramError]; (repeat' split) <;> simp
@[simp] theorem readPoints_mem (ws : List Word) (ps : List PointRec) (s : State) : (readPoints ws ps s).mem = s.mem := by dsimp only [readPoints, placeProgramError]; (repeat' split) <;> simp
@[simp] theorem readPoints_regs (ws : List Word) (ps : List PointRec) (s : State) : (readPoints ws ps s).regs = s.regs := by dsimp only [readPoints, placeProgramError]; (repeat' split) <;> simp
@[simp] theorem readPoints_settings (ws : List Word) (ps : List PointRec) (s : State) : (readPoints ws ps s).settings = s.settings := by dsimp only [readPoints, placeProgramError]; (repeat' split) <;> simp
@[simp] theorem readPoints_corr (ws : List Word) (ps : List PointRec) (s : State) : (readPoints ws ps s).corr = s.corr := by dsimp only [readPoints, placeProgramError]; (repeat' split) <;> simp
@[simp] theorem readPoints_link (ws : List Word) (ps : List PointRec) (s : State) : (readPoints ws ps s).link = s.link := by dsimp only [readPoints, placeProgramError]; (repeat' split) <;> simp
@[simp] theorem readPoints_checks (ws : List Word) (ps : List PointRec) (s : State) : (readPoints ws ps s).checks = s.checks := by dsimp only [readPoints, placeProgramError]; (repeat' split) <;> simp
@[simp] theorem readPoints_unit (ws : List Word) (ps : List PointRec) (s : State) : (readPoints ws ps s).unit = s.unit := by dsimp only [readPoints, placeProgramError]; (repeat' split) <;> simp
@[simp] theorem readPoints_div (ws : List Word) (ps : List PointRec) (s : State) : (readPoints ws ps s).div = s.div := by dsimp only [readPoints, placeProgramError]; (repeat' split) <;> simp
@[simp] theorem readPoints_log (ws : List Word) (ps : List PointRec) (s : State) : (readPoints ws ps s).log = s.log := by dsimp only [readPoints, placeProgramError]; (repeat' split) <;> simp
@[simp] theorem readPoints_notice (ws : List Word) (ps : List PointRec) (s : State) : (readPoints ws ps s).notice = s.notice := by dsimp only [readPoints, placeProgramError]; (repeat' split) <;> simp
@[simp] theorem readPoints_free (ws : List Word) (ps : List PointRec) (s : State) : (readPoints ws ps s).free = s.free := by dsimp only [readPoints, placeProgramError]; (repeat' split) <;> simp
@[simp] theorem groupRead_pending (ws : List Word) (w : Word) (s : State) : (groupRead ws w s).pending = s.pending := by dsimp only [groupRead, placeProgramError]; (repeat' split) <;> simp
@[simp] theorem groupRead_mem (ws : List Word) (w : Word) (s : State) : (groupRead ws w s).mem = s.mem := by dsimp only [groupRead, placeProgramError]; (repeat' split) <;> simp
@[simp] theorem groupRead_regs (ws : List Word) (w : Word) (s : State) : (groupRead ws w s).regs = s.regs := by dsimp only [groupRead, placeProgramError]; (repeat' split) <;> simp
@[simp] theorem groupRead_settings (ws : List Word) (w : Word) (s : State) : (groupRead ws w s).settings = s.settings := by dsimp only [groupRead, placeProgramError]; (repeat' split) <;> simp
@[simp] theorem groupRead_corr (ws : List Word) (w : Word) (s : State) : (groupRead ws w s).corr = s.corr := by dsimp only [groupRead, placeProgramError]; (repeat' split) <;> simp
@[simp] theorem groupRead_link (ws : List Word) (w : Word) (s : State) : (groupRead ws w s).link = s.link := by dsimp only [groupRead, placeProgramError]; (repeat' split) <;> simp
@[simp] theorem groupRead_checks (ws : List Word) (w : Word) (s : State) : (groupRead ws w s).checks = s.checks := by dsimp only [groupRead, placeProgramError]; (repeat' split) <;> simp
@[simp] theorem groupRead_unit (ws : List Word) (w : Word) (s : State) : (groupRead ws w s).unit = s.unit := by dsimp only [groupRead, placeProgramError]; (repeat' split) <;> simp
@[simp] theorem groupRead_div (ws : List Word) (w : Word) (s : State) : (groupRead ws w s).div = s.div := by dsimp only [groupRead, placeProgramError]; (repeat' split) <;> simp
@[simp] theorem groupRead_log (ws : List Word) (w : Word) (s : State) : (groupRead ws w s).log = s.log := by dsimp only [groupRead, placeProgramError]; (repeat' split) <;> simp
@[simp] theorem groupRead_notice (ws : List Word) (w : Word) (s : State) : (groupRead ws w s).notice = s.notice := by dsimp only [groupRead, placeProgramError]; (repeat' split) <;> simp
@[simp] theorem groupRead_free (ws : List Word) (w : Word) (s : State) : (groupRead ws w s).free = s.free := by dsimp only [groupRead, placeProgramError]; (repeat' split) <;> simp
@[simp] theorem entryRead_pending (ws : List Word) (s : State) : (entryRead ws s).pending = s.pending := by dsimp only [entryRead, actMeasure, actCall, actReturn, actMainOnly, actMark, actSetBank, actClean, actPark, actResume, placeProgramError]; (repeat' split) <;> simp
@[simp] theorem entryRead_mem (ws : List Word) (s : State) : (entryRead ws s).mem = s.mem := by dsimp only [entryRead, actMeasure, actCall, actReturn, actMainOnly, actMark, actSetBank, actClean, actPark, actResume, placeProgramError]; (repeat' split) <;> simp
@[simp] theorem entryRead_regs (ws : List Word) (s : State) : (entryRead ws s).regs = s.regs := by dsimp only [entryRead, actMeasure, actCall, actReturn, actMainOnly, actMark, actSetBank, actClean, actPark, actResume, placeProgramError]; (repeat' split) <;> simp
@[simp] theorem entryRead_settings (ws : List Word) (s : State) : (entryRead ws s).settings = s.settings := by dsimp only [entryRead, actMeasure, actCall, actReturn, actMainOnly, actMark, actSetBank, actClean, actPark, actResume, placeProgramError]; (repeat' split) <;> simp
@[simp] theorem entryRead_corr (ws : List Word) (s : State) : (entryRead ws s).corr = s.corr := by dsimp only [entryRead, actMeasure, actCall, actReturn, actMainOnly, actMark, actSetBank, actClean, actPark, actResume, placeProgramError]; (repeat' split) <;> simp
@[simp] theorem entryRead_link (ws : List Word) (s : State) : (entryRead ws s).link = s.link := by dsimp only [entryRead, actMeasure, actCall, actReturn, actMainOnly, actMark, actSetBank, actClean, actPark, actResume, placeProgramError]; (repeat' split) <;> simp
@[simp] theorem entryRead_checks (ws : List Word) (s : State) : (entryRead ws s).checks = s.checks := by dsimp only [entryRead, actMeasure, actCall, actReturn, actMainOnly, actMark, actSetBank, actClean, actPark, actResume, placeProgramError]; (repeat' split) <;> simp
@[simp] theorem entryRead_unit (ws : List Word) (s : State) : (entryRead ws s).unit = s.unit := by dsimp only [entryRead, actMeasure, actCall, actReturn, actMainOnly, actMark, actSetBank, actClean, actPark, actResume, placeProgramError]; (repeat' split) <;> simp
@[simp] theorem entryRead_div (ws : List Word) (s : State) : (entryRead ws s).div = s.div := by dsimp only [entryRead, actMeasure, actCall, actReturn, actMainOnly, actMark, actSetBank, actClean, actPark, actResume, placeProgramError]; (repeat' split) <;> simp
@[simp] theorem entryRead_log (ws : List Word) (s : State) : (entryRead ws s).log = s.log := by dsimp only [entryRead, actMeasure, actCall, actReturn, actMainOnly, actMark, actSetBank, actClean, actPark, actResume, placeProgramError]; (repeat' split) <;> simp
@[simp] theorem entryRead_notice (ws : List Word) (s : State) : (entryRead ws s).notice = s.notice := by dsimp only [entryRead, actMeasure, actCall, actReturn, actMainOnly, actMark, actSetBank, actClean, actPark, actResume, placeProgramError]; (repeat' split) <;> simp
@[simp] theorem entryRead_free (ws : List Word) (s : State) : (entryRead ws s).free = s.free := by dsimp only [entryRead, actMeasure, actCall, actReturn, actMainOnly, actMark, actSetBank, actClean, actPark, actResume, placeProgramError]; (repeat' split) <;> simp
@[simp] theorem txnRead_pending (d : List Word) (s : State) : (txnRead d s).pending = s.pending := by dsimp only [txnRead, placeProgramError]; (repeat' split) <;> simp
@[simp] theorem txnRead_mem (d : List Word) (s : State) : (txnRead d s).mem = s.mem := by dsimp only [txnRead, placeProgramError]; (repeat' split) <;> simp
@[simp] theorem txnRead_regs (d : List Word) (s : State) : (txnRead d s).regs = s.regs := by dsimp only [txnRead, placeProgramError]; (repeat' split) <;> simp
@[simp] theorem txnRead_settings (d : List Word) (s : State) : (txnRead d s).settings = s.settings := by dsimp only [txnRead, placeProgramError]; (repeat' split) <;> simp
@[simp] theorem txnRead_corr (d : List Word) (s : State) : (txnRead d s).corr = s.corr := by dsimp only [txnRead, placeProgramError]; (repeat' split) <;> simp
@[simp] theorem txnRead_link (d : List Word) (s : State) : (txnRead d s).link = s.link := by dsimp only [txnRead, placeProgramError]; (repeat' split) <;> simp
@[simp] theorem txnRead_checks (d : List Word) (s : State) : (txnRead d s).checks = s.checks := by dsimp only [txnRead, placeProgramError]; (repeat' split) <;> simp
@[simp] theorem txnRead_unit (d : List Word) (s : State) : (txnRead d s).unit = s.unit := by dsimp only [txnRead, placeProgramError]; (repeat' split) <;> simp
@[simp] theorem txnRead_div (d : List Word) (s : State) : (txnRead d s).div = s.div := by dsimp only [txnRead, placeProgramError]; (repeat' split) <;> simp
@[simp] theorem txnRead_log (d : List Word) (s : State) : (txnRead d s).log = s.log := by dsimp only [txnRead, placeProgramError]; (repeat' split) <;> simp
@[simp] theorem txnRead_notice (d : List Word) (s : State) : (txnRead d s).notice = s.notice := by dsimp only [txnRead, placeProgramError]; (repeat' split) <;> simp
@[simp] theorem txnRead_free (d : List Word) (s : State) : (txnRead d s).free = s.free := by dsimp only [txnRead, placeProgramError]; (repeat' split) <;> simp
@[simp] theorem startRun_pending (x : Area) (s : State) : (startRun x s).pending = s.pending := by dsimp only [startRun, enterStarting]; (repeat' split) <;> simp
@[simp] theorem startRun_mem (x : Area) (s : State) : (startRun x s).mem = s.mem := by dsimp only [startRun, enterStarting]; (repeat' split) <;> simp
@[simp] theorem startRun_regs (x : Area) (s : State) : (startRun x s).regs = s.regs := by dsimp only [startRun, enterStarting]; (repeat' split) <;> simp
@[simp] theorem startRun_settings (x : Area) (s : State) : (startRun x s).settings = s.settings := by dsimp only [startRun, enterStarting]; (repeat' split) <;> simp
@[simp] theorem startRun_corr (x : Area) (s : State) : (startRun x s).corr = s.corr := by dsimp only [startRun, enterStarting]; (repeat' split) <;> simp
@[simp] theorem startRun_nextUid (x : Area) (s : State) : (startRun x s).nextUid = s.nextUid := by dsimp only [startRun, enterStarting]; (repeat' split) <;> simp
@[simp] theorem startRun_link (x : Area) (s : State) : (startRun x s).link = s.link := by dsimp only [startRun, enterStarting]; (repeat' split) <;> simp
@[simp] theorem startRun_free (x : Area) (s : State) : (startRun x s).free = s.free := by dsimp only [startRun, enterStarting]; (repeat' split) <;> simp
@[simp] theorem runWordRead_pending (ws : List Word) (s : State) : (runWordRead ws s).pending = s.pending := by dsimp only [runWordRead, areaSwitch, recordRunWord]; (repeat' split) <;> simp
@[simp] theorem runWordRead_mem (ws : List Word) (s : State) : (runWordRead ws s).mem = s.mem := by dsimp only [runWordRead, areaSwitch, recordRunWord]; (repeat' split) <;> simp
@[simp] theorem runWordRead_regs (ws : List Word) (s : State) : (runWordRead ws s).regs = s.regs := by dsimp only [runWordRead, areaSwitch, recordRunWord]; (repeat' split) <;> simp
@[simp] theorem runWordRead_settings (ws : List Word) (s : State) : (runWordRead ws s).settings = s.settings := by dsimp only [runWordRead, areaSwitch, recordRunWord]; (repeat' split) <;> simp
@[simp] theorem runWordRead_nextUid (ws : List Word) (s : State) : (runWordRead ws s).nextUid = s.nextUid := by dsimp only [runWordRead, areaSwitch, recordRunWord]; (repeat' split) <;> simp
@[simp] theorem runWordRead_link (ws : List Word) (s : State) : (runWordRead ws s).link = s.link := by dsimp only [runWordRead, areaSwitch, recordRunWord]; (repeat' split) <;> simp
@[simp] theorem runWordRead_free (ws : List Word) (s : State) : (runWordRead ws s).free = s.free := by dsimp only [runWordRead, areaSwitch, recordRunWord]; (repeat' split) <;> simp
@[simp] theorem areaWritten_pending (s : State) : (areaWritten s).pending = s.pending := by dsimp only [areaWritten, areaWrite, areaNotice]; (repeat' split) <;> simp
@[simp] theorem areaWritten_mem (s : State) : (areaWritten s).mem = s.mem := by dsimp only [areaWritten, areaWrite, areaNotice]; (repeat' split) <;> simp
@[simp] theorem areaWritten_regs (s : State) : (areaWritten s).regs = s.regs := by dsimp only [areaWritten, areaWrite, areaNotice]; (repeat' split) <;> simp
@[simp] theorem areaWritten_settings (s : State) : (areaWritten s).settings = s.settings := by dsimp only [areaWritten, areaWrite, areaNotice]; (repeat' split) <;> simp
@[simp] theorem areaWritten_corr (s : State) : (areaWritten s).corr = s.corr := by dsimp only [areaWritten, areaWrite, areaNotice]; (repeat' split) <;> simp
@[simp] theorem areaWritten_fetch (s : State) : (areaWritten s).fetch = s.fetch := by dsimp only [areaWritten, areaWrite, areaNotice]; (repeat' split) <;> simp
@[simp] theorem areaWritten_window (s : State) : (areaWritten s).window = s.window := by dsimp only [areaWritten, areaWrite, areaNotice]; (repeat' split) <;> simp
@[simp] theorem areaWritten_nextUid (s : State) : (areaWritten s).nextUid = s.nextUid := by dsimp only [areaWritten, areaWrite, areaNotice]; (repeat' split) <;> simp
@[simp] theorem areaWritten_link (s : State) : (areaWritten s).link = s.link := by dsimp only [areaWritten, areaWrite, areaNotice]; (repeat' split) <;> simp
@[simp] theorem areaWritten_checks (s : State) : (areaWritten s).checks = s.checks := by dsimp only [areaWritten, areaWrite, areaNotice]; (repeat' split) <;> simp
@[simp] theorem areaWritten_unit (s : State) : (areaWritten s).unit = s.unit := by dsimp only [areaWritten, areaWrite, areaNotice]; (repeat' split) <;> simp
@[simp] theorem areaWritten_div (s : State) : (areaWritten s).div = s.div := by dsimp only [areaWritten, areaWrite, areaNotice]; (repeat' split) <;> simp
@[simp] theorem areaWritten_log (s : State) : (areaWritten s).log = s.log := by dsimp only [areaWritten, areaWrite, areaNotice]; (repeat' split) <;> simp
@[simp] theorem areaWritten_free (s : State) : (areaWritten s).free = s.free := by dsimp only [areaWritten, areaWrite, areaNotice]; (repeat' split) <;> simp
@[simp] theorem readyRead_pending (w : Word) (s : State) : (readyRead w s).pending = s.pending := by dsimp only [readyRead]; (repeat' split) <;> simp
@[simp] theorem readyRead_mem (w : Word) (s : State) : (readyRead w s).mem = s.mem := by dsimp only [readyRead]; (repeat' split) <;> simp
@[simp] theorem readyRead_regs (w : Word) (s : State) : (readyRead w s).regs = s.regs := by dsimp only [readyRead]; (repeat' split) <;> simp
@[simp] theorem readyRead_settings (w : Word) (s : State) : (readyRead w s).settings = s.settings := by dsimp only [readyRead]; (repeat' split) <;> simp
@[simp] theorem readyRead_corr (w : Word) (s : State) : (readyRead w s).corr = s.corr := by dsimp only [readyRead]; (repeat' split) <;> simp
@[simp] theorem readyRead_fetch (w : Word) (s : State) : (readyRead w s).fetch = s.fetch := by dsimp only [readyRead]; (repeat' split) <;> simp
@[simp] theorem readyRead_window (w : Word) (s : State) : (readyRead w s).window = s.window := by dsimp only [readyRead]; (repeat' split) <;> simp
@[simp] theorem readyRead_nextUid (w : Word) (s : State) : (readyRead w s).nextUid = s.nextUid := by dsimp only [readyRead]; (repeat' split) <;> simp
@[simp] theorem readyRead_link (w : Word) (s : State) : (readyRead w s).link = s.link := by dsimp only [readyRead]; (repeat' split) <;> simp
@[simp] theorem readyRead_checks (w : Word) (s : State) : (readyRead w s).checks = s.checks := by dsimp only [readyRead]; (repeat' split) <;> simp
@[simp] theorem readyRead_unit (w : Word) (s : State) : (readyRead w s).unit = s.unit := by dsimp only [readyRead]; (repeat' split) <;> simp
@[simp] theorem readyRead_div (w : Word) (s : State) : (readyRead w s).div = s.div := by dsimp only [readyRead]; (repeat' split) <;> simp
@[simp] theorem readyRead_log (w : Word) (s : State) : (readyRead w s).log = s.log := by dsimp only [readyRead]; (repeat' split) <;> simp
@[simp] theorem readyRead_notice (w : Word) (s : State) : (readyRead w s).notice = s.notice := by dsimp only [readyRead]; (repeat' split) <;> simp
@[simp] theorem readyRead_free (w : Word) (s : State) : (readyRead w s).free = s.free := by dsimp only [readyRead]; (repeat' split) <;> simp
@[simp] theorem stoppingWritten_pending (s : State) : (stoppingWritten s).pending = s.pending := by dsimp only [stoppingWritten]; (repeat' split) <;> simp
@[simp] theorem stoppingWritten_mem (s : State) : (stoppingWritten s).mem = s.mem := by dsimp only [stoppingWritten]; (repeat' split) <;> simp
@[simp] theorem stoppingWritten_regs (s : State) : (stoppingWritten s).regs = s.regs := by dsimp only [stoppingWritten]; (repeat' split) <;> simp
@[simp] theorem stoppingWritten_settings (s : State) : (stoppingWritten s).settings = s.settings := by dsimp only [stoppingWritten]; (repeat' split) <;> simp
@[simp] theorem stoppingWritten_corr (s : State) : (stoppingWritten s).corr = s.corr := by dsimp only [stoppingWritten]; (repeat' split) <;> simp
@[simp] theorem stoppingWritten_fetch (s : State) : (stoppingWritten s).fetch = s.fetch := by dsimp only [stoppingWritten]; (repeat' split) <;> simp
@[simp] theorem stoppingWritten_window (s : State) : (stoppingWritten s).window = s.window := by dsimp only [stoppingWritten]; (repeat' split) <;> simp
@[simp] theorem stoppingWritten_nextUid (s : State) : (stoppingWritten s).nextUid = s.nextUid := by dsimp only [stoppingWritten]; (repeat' split) <;> simp
@[simp] theorem stoppingWritten_link (s : State) : (stoppingWritten s).link = s.link := by dsimp only [stoppingWritten]; (repeat' split) <;> simp
@[simp] theorem stoppingWritten_checks (s : State) : (stoppingWritten s).checks = s.checks := by dsimp only [stoppingWritten]; (repeat' split) <;> simp
@[simp] theorem stoppingWritten_unit (s : State) : (stoppingWritten s).unit = s.unit := by dsimp only [stoppingWritten]; (repeat' split) <;> simp
@[simp] theorem stoppingWritten_div (s : State) : (stoppingWritten s).div = s.div := by dsimp only [stoppingWritten]; (repeat' split) <;> simp
@[simp] theorem stoppingWritten_log (s : State) : (stoppingWritten s).log = s.log := by dsimp only [stoppingWritten]; (repeat' split) <;> simp
@[simp] theorem stoppingWritten_free (s : State) : (stoppingWritten s).free = s.free := by dsimp only [stoppingWritten]; (repeat' split) <;> simp
@[simp] theorem startChecks_pending (ws : List Word) (s : State) : (startChecks ws s).pending = s.pending := by dsimp only [startChecks, startInto, recordRunWord, failStart]; (repeat' split) <;> simp
@[simp] theorem startChecks_mem (ws : List Word) (s : State) : (startChecks ws s).mem = s.mem := by dsimp only [startChecks, startInto, recordRunWord, failStart]; (repeat' split) <;> simp
@[simp] theorem startChecks_regs (ws : List Word) (s : State) : (startChecks ws s).regs = s.regs := by dsimp only [startChecks, startInto, recordRunWord, failStart]; (repeat' split) <;> simp
@[simp] theorem startChecks_settings (ws : List Word) (s : State) : (startChecks ws s).settings = s.settings := by dsimp only [startChecks, startInto, recordRunWord, failStart]; (repeat' split) <;> simp
@[simp] theorem startChecks_nextUid (ws : List Word) (s : State) : (startChecks ws s).nextUid = s.nextUid := by dsimp only [startChecks, startInto, recordRunWord, failStart]; (repeat' split) <;> simp
@[simp] theorem startChecks_free (ws : List Word) (s : State) : (startChecks ws s).free = s.free := by dsimp only [startChecks, startInto, recordRunWord, failStart]; (repeat' split) <;> simp
@[simp] theorem bankRead_pending (n : Nat) (ws : List Word) (s : State) : (bankRead n ws s).pending = s.pending := by dsimp only [bankRead, loadNext]; split <;> simp
@[simp] theorem bankRead_mem (n : Nat) (ws : List Word) (s : State) : (bankRead n ws s).mem = s.mem := by dsimp only [bankRead, loadNext]; split <;> simp
@[simp] theorem bankRead_regs (n : Nat) (ws : List Word) (s : State) : (bankRead n ws s).regs = s.regs := by dsimp only [bankRead, loadNext]; split <;> simp
@[simp] theorem bankRead_settings (n : Nat) (ws : List Word) (s : State) : (bankRead n ws s).settings = s.settings := by dsimp only [bankRead, loadNext]; split <;> simp
@[simp] theorem bankRead_corr (n : Nat) (ws : List Word) (s : State) : (bankRead n ws s).corr = s.corr := by dsimp only [bankRead, loadNext]; split <;> simp
@[simp] theorem bankRead_fetch (n : Nat) (ws : List Word) (s : State) : (bankRead n ws s).fetch = s.fetch := by dsimp only [bankRead, loadNext]; split <;> simp
@[simp] theorem bankRead_window (n : Nat) (ws : List Word) (s : State) : (bankRead n ws s).window = s.window := by dsimp only [bankRead, loadNext]; split <;> simp
@[simp] theorem bankRead_nextUid (n : Nat) (ws : List Word) (s : State) : (bankRead n ws s).nextUid = s.nextUid := by dsimp only [bankRead, loadNext]; split <;> simp
@[simp] theorem bankRead_link (n : Nat) (ws : List Word) (s : State) : (bankRead n ws s).link = s.link := by dsimp only [bankRead, loadNext]; split <;> simp
@[simp] theorem bankRead_checks (n : Nat) (ws : List Word) (s : State) : (bankRead n ws s).checks = s.checks := by dsimp only [bankRead, loadNext]; split <;> simp
@[simp] theorem bankRead_div (n : Nat) (ws : List Word) (s : State) : (bankRead n ws s).div = s.div := by dsimp only [bankRead, loadNext]; split <;> simp
@[simp] theorem bankRead_log (n : Nat) (ws : List Word) (s : State) : (bankRead n ws s).log = s.log := by dsimp only [bankRead, loadNext]; split <;> simp
@[simp] theorem bankRead_notice (n : Nat) (ws : List Word) (s : State) : (bankRead n ws s).notice = s.notice := by dsimp only [bankRead, loadNext]; split <;> simp
@[simp] theorem bankRead_free (n : Nat) (ws : List Word) (s : State) : (bankRead n ws s).free = s.free := by dsimp only [bankRead, loadNext]; split <;> simp
@[simp] theorem diversionRead_pending (n : Nat) (ws : List Word) (s : State) : (diversionRead n ws s).pending = s.pending := by dsimp only [diversionRead, loadRunWord, loadNext]; (repeat' split) <;> simp
@[simp] theorem diversionRead_mem (n : Nat) (ws : List Word) (s : State) : (diversionRead n ws s).mem = s.mem := by dsimp only [diversionRead, loadRunWord, loadNext]; (repeat' split) <;> simp
@[simp] theorem diversionRead_regs (n : Nat) (ws : List Word) (s : State) : (diversionRead n ws s).regs = s.regs := by dsimp only [diversionRead, loadRunWord, loadNext]; (repeat' split) <;> simp
@[simp] theorem diversionRead_settings (n : Nat) (ws : List Word) (s : State) : (diversionRead n ws s).settings = s.settings := by dsimp only [diversionRead, loadRunWord, loadNext]; (repeat' split) <;> simp
@[simp] theorem diversionRead_corr (n : Nat) (ws : List Word) (s : State) : (diversionRead n ws s).corr = s.corr := by dsimp only [diversionRead, loadRunWord, loadNext]; (repeat' split) <;> simp
@[simp] theorem diversionRead_fetch (n : Nat) (ws : List Word) (s : State) : (diversionRead n ws s).fetch = s.fetch := by dsimp only [diversionRead, loadRunWord, loadNext]; (repeat' split) <;> simp
@[simp] theorem diversionRead_window (n : Nat) (ws : List Word) (s : State) : (diversionRead n ws s).window = s.window := by dsimp only [diversionRead, loadRunWord, loadNext]; (repeat' split) <;> simp
@[simp] theorem diversionRead_nextUid (n : Nat) (ws : List Word) (s : State) : (diversionRead n ws s).nextUid = s.nextUid := by dsimp only [diversionRead, loadRunWord, loadNext]; (repeat' split) <;> simp
@[simp] theorem diversionRead_link (n : Nat) (ws : List Word) (s : State) : (diversionRead n ws s).link = s.link := by dsimp only [diversionRead, loadRunWord, loadNext]; (repeat' split) <;> simp
@[simp] theorem diversionRead_checks (n : Nat) (ws : List Word) (s : State) : (diversionRead n ws s).checks = s.checks := by dsimp only [diversionRead, loadRunWord, loadNext]; (repeat' split) <;> simp
@[simp] theorem diversionRead_unit (n : Nat) (ws : List Word) (s : State) : (diversionRead n ws s).unit = s.unit := by dsimp only [diversionRead, loadRunWord, loadNext]; (repeat' split) <;> simp
@[simp] theorem diversionRead_log (n : Nat) (ws : List Word) (s : State) : (diversionRead n ws s).log = s.log := by dsimp only [diversionRead, loadRunWord, loadNext]; (repeat' split) <;> simp
@[simp] theorem diversionRead_notice (n : Nat) (ws : List Word) (s : State) : (diversionRead n ws s).notice = s.notice := by dsimp only [diversionRead, loadRunWord, loadNext]; (repeat' split) <;> simp
@[simp] theorem diversionRead_free (n : Nat) (ws : List Word) (s : State) : (diversionRead n ws s).free = s.free := by dsimp only [diversionRead, loadRunWord, loadNext]; (repeat' split) <;> simp
@[simp] theorem loadingRead_pending (b : Nat) (ws : List Word) (s : State) : (loadingRead b ws s).pending = s.pending := by dsimp only [loadingRead, loadRunWord, loadNext, anchorRead]; (repeat' split) <;> simp
@[simp] theorem loadingRead_mem (b : Nat) (ws : List Word) (s : State) : (loadingRead b ws s).mem = s.mem := by dsimp only [loadingRead, loadRunWord, loadNext, anchorRead]; (repeat' split) <;> simp
@[simp] theorem loadingRead_regs (b : Nat) (ws : List Word) (s : State) : (loadingRead b ws s).regs = s.regs := by dsimp only [loadingRead, loadRunWord, loadNext, anchorRead]; (repeat' split) <;> simp
@[simp] theorem loadingRead_nextUid (b : Nat) (ws : List Word) (s : State) : (loadingRead b ws s).nextUid = s.nextUid := by dsimp only [loadingRead, loadRunWord, loadNext, anchorRead]; (repeat' split) <;> simp
@[simp] theorem loadingRead_free (b : Nat) (ws : List Word) (s : State) : (loadingRead b ws s).free = s.free := by dsimp only [loadingRead, loadRunWord, loadNext, anchorRead]; (repeat' split) <;> simp
@[simp] theorem requestFailed_pending (r : Request) (s : State) : (requestFailed r s).pending = s.pending := by dsimp only [requestFailed, dropFrontNotice, releaseFailed]; (repeat' split) <;> simp
@[simp] theorem requestFailed_mem (r : Request) (s : State) : (requestFailed r s).mem = s.mem := by dsimp only [requestFailed, dropFrontNotice, releaseFailed]; (repeat' split) <;> simp
@[simp] theorem requestFailed_regs (r : Request) (s : State) : (requestFailed r s).regs = s.regs := by dsimp only [requestFailed, dropFrontNotice, releaseFailed]; (repeat' split) <;> simp
@[simp] theorem requestFailed_settings (r : Request) (s : State) : (requestFailed r s).settings = s.settings := by dsimp only [requestFailed, dropFrontNotice, releaseFailed]; (repeat' split) <;> simp
@[simp] theorem requestFailed_corr (r : Request) (s : State) : (requestFailed r s).corr = s.corr := by dsimp only [requestFailed, dropFrontNotice, releaseFailed]; (repeat' split) <;> simp
@[simp] theorem requestFailed_window (r : Request) (s : State) : (requestFailed r s).window = s.window := by dsimp only [requestFailed, dropFrontNotice, releaseFailed]; (repeat' split) <;> simp
@[simp] theorem requestFailed_nextUid (r : Request) (s : State) : (requestFailed r s).nextUid = s.nextUid := by dsimp only [requestFailed, dropFrontNotice, releaseFailed]; (repeat' split) <;> simp
@[simp] theorem requestFailed_link (r : Request) (s : State) : (requestFailed r s).link = s.link := by dsimp only [requestFailed, dropFrontNotice, releaseFailed]; (repeat' split) <;> simp
@[simp] theorem requestFailed_checks (r : Request) (s : State) : (requestFailed r s).checks = s.checks := by dsimp only [requestFailed, dropFrontNotice, releaseFailed]; (repeat' split) <;> simp
@[simp] theorem requestFailed_free (r : Request) (s : State) : (requestFailed r s).free = s.free := by dsimp only [requestFailed, dropFrontNotice, releaseFailed]; (repeat' split) <;> simp
@[simp] theorem haltMemoryError_pending (s : State) : (haltMemoryError s).pending = s.pending := by dsimp only [haltMemoryError]; (repeat' split) <;> simp
@[simp] theorem haltMemoryError_mem (s : State) : (haltMemoryError s).mem = s.mem := by dsimp only [haltMemoryError]; (repeat' split) <;> simp
@[simp] theorem haltMemoryError_regs (s : State) : (haltMemoryError s).regs = s.regs := by dsimp only [haltMemoryError]; (repeat' split) <;> simp
@[simp] theorem haltMemoryError_settings (s : State) : (haltMemoryError s).settings = s.settings := by dsimp only [haltMemoryError]; (repeat' split) <;> simp
@[simp] theorem haltMemoryError_corr (s : State) : (haltMemoryError s).corr = s.corr := by dsimp only [haltMemoryError]; (repeat' split) <;> simp
@[simp] theorem haltMemoryError_nextUid (s : State) : (haltMemoryError s).nextUid = s.nextUid := by dsimp only [haltMemoryError]; (repeat' split) <;> simp
@[simp] theorem haltMemoryError_link (s : State) : (haltMemoryError s).link = s.link := by dsimp only [haltMemoryError]; (repeat' split) <;> simp
@[simp] theorem haltMemoryError_free (s : State) : (haltMemoryError s).free = s.free := by dsimp only [haltMemoryError]; (repeat' split) <;> simp

end Sys2Proof.Machine
end

