-- ==== Sys2Proof/Laws/Memory.lean ====
section
/-! SUPPORT. Shared memory: every memory operation keeps the canonical form, a byte read after a write is the byte written, and
a write leaves every other byte alone. -/

namespace Sys2Proof.Machine

open Sys2Proof

theorem memWfFrom_mono {lo hi : Nat} (h : lo ≤ hi) {m : List Host.Cell} (hm : memWfFrom hi m = true) :
    memWfFrom lo m = true := by
  cases m with
  | nil => rfl
  | cons c t =>
    simp only [memWfFrom, Bool.and_eq_true, decide_eq_true_eq] at hm ⊢
    exact ⟨⟨by omega, hm.1.2⟩, hm.2⟩

theorem memSet_wfFrom {lo x : Nat} (v : Byte) (hx : lo ≤ x) {m : List Host.Cell} (hm : memWfFrom lo m = true) :
    memWfFrom lo (memSet m x v) = true := by
  induction m generalizing lo with
  | nil => simp only [memSet]; split <;> simp_all [memWfFrom]
  | cons c t ih =>
    obtain ⟨k, b⟩ := c
    simp only [memWfFrom, Bool.and_eq_true, decide_eq_true_eq] at hm
    obtain ⟨⟨hlo, hb⟩, ht⟩ := hm
    simp only [memSet]
    split
    · split
      · simp only [memWfFrom, Bool.and_eq_true, decide_eq_true_eq]
        exact ⟨⟨hlo, hb⟩, ht⟩
      · simp only [memWfFrom, Bool.and_eq_true, decide_eq_true_eq]
        exact ⟨⟨hx, ‹_›⟩, ⟨by omega, hb⟩, ht⟩
    · split
      · split
        · exact memWfFrom_mono (by omega) ht
        · subst_vars
          simp only [memWfFrom, Bool.and_eq_true, decide_eq_true_eq]
          exact ⟨⟨hlo, ‹_›⟩, ht⟩
      · simp only [memWfFrom, Bool.and_eq_true, decide_eq_true_eq]
        exact ⟨⟨hlo, hb⟩, ih (by omega) ht⟩

/-- A byte write keeps the canonical form. -/
theorem memSet_wf (x : Nat) (v : Byte) {m : List Host.Cell} (hm : Memory.wf m = true) : Memory.wf (memSet m x v) = true :=
  memSet_wfFrom v (Nat.zero_le x) hm

/-- A word write keeps the canonical form. -/
theorem memSetWord_wf (x : Nat) (w : Word) {m : List Host.Cell} (hm : Memory.wf m = true) :
    Memory.wf (memSetWord m x w) = true :=
  memSet_wf _ _ (memSet_wf _ _ (memSet_wf _ _ (memSet_wf _ _ hm)))

/-- Writing consecutive words keeps the canonical form. -/
theorem memSetWords_wf (x : Nat) (ws : List Word) {m : List Host.Cell} (hm : Memory.wf m = true) :
    Memory.wf (memSetWords m x ws) = true := by
  induction ws generalizing m x with
  | nil => exact hm
  | cons w ws ih => exact ih _ (memSetWord_wf x w hm)

/-- A served request keeps the canonical form. -/
theorem performReq_wf (r : Request) {m : List Host.Cell} (hm : Memory.wf m = true) : Memory.wf (performReq m r) = true := by
  unfold performReq
  split
  · exact hm
  · split
    · exact memSetWords_wf _ _ hm
    · exact hm

/-- Fill words written in passing keep the canonical form. -/
theorem performFills_wf (rs : List Request) {m : List Host.Cell} (hm : Memory.wf m = true) :
    Memory.wf (performFills m rs) = true := by
  induction rs generalizing m with
  | nil => exact hm
  | cons r rs ih =>
    simp only [performFills]
    split
    · exact ih (performReq_wf r hm)
    · exact ih hm

/-- Writes abandoned by a reset keep the canonical form. -/
theorem abandonWrites_wf (n : Nat) (rs : List Request) {m : List Host.Cell} (hm : Memory.wf m = true) :
    Memory.wf (abandonWrites m n rs) = true := by
  induction rs generalizing m n with
  | nil => exact hm
  | cons r rs ih =>
    simp only [abandonWrites]
    split
    · exact hm
    · split
      · exact ih _ (performReq_wf r hm)
      · split
        · exact memSetWords_wf _ _ hm
        · exact hm

/-- The host's own write keeps the canonical form. -/
theorem hostWriteWord_wf (x : Nat) (w : Word) {s : State} (hm : Memory.wf s.mem = true) :
    Memory.wf (hostWriteWord x w s).mem = true := memSetWord_wf x w hm

/-! ## Reads after writes -/

theorem memByte_below {lo x : Nat} (hx : x < lo) {m : List Host.Cell} (hm : memWfFrom lo m = true) : memByte m x = 0 := by
  induction m generalizing lo with
  | nil => rfl
  | cons c t ih =>
    obtain ⟨k, b⟩ := c
    simp only [memWfFrom, Bool.and_eq_true, decide_eq_true_eq] at hm
    simp only [memByte]
    rw [if_neg (by omega)]
    exact ih (by omega) hm.2

theorem memByte_memSet_from {lo : Nat} (x y : Nat) (v : Byte) {m : List Host.Cell} (hm : memWfFrom lo m = true) :
    memByte (memSet m x v) y = if y = x then v else memByte m y := by
  induction m generalizing lo with
  | nil => simp only [memSet]; split <;> simp_all [memByte]
  | cons c t ih =>
    obtain ⟨k, b⟩ := c
    simp only [memWfFrom, Bool.and_eq_true, decide_eq_true_eq] at hm
    obtain ⟨_, ht⟩ := hm
    simp only [memSet]
    split
    · rename_i hlt
      split
      · rename_i hv
        by_cases hy : y = x
        · subst hy
          simp only [memByte, if_true]
          rw [if_neg (by omega), hv]
          exact memByte_below (by omega) ht
        · simp [hy]
      · simp only [memByte]
    · split
      · rename_i hk
        subst hk
        split
        · rename_i hv
          by_cases hy : y = x
          · subst hy; simp only [if_true, hv]; exact memByte_below (by omega) ht
          · simp [hy, memByte]
        · by_cases hy : y = x <;> simp [memByte, hy]
      · simp only [memByte]
        rw [ih ht]
        by_cases hy : y = x
        · subst hy; simp [*]
        · simp [hy]

/-- A byte read after a byte write. -/
theorem memByte_memSet (x y : Nat) (v : Byte) {m : List Host.Cell} (hm : Memory.wf m = true) :
    memByte (memSet m x v) y = if y = x then v else memByte m y := memByte_memSet_from x y v hm

/-- A word write leaves every byte outside its four alone. -/
theorem memByte_memSetWord_outside {x y : Nat} (w : Word) (h : y < x ∨ x + 4 ≤ y) {m : List Host.Cell}
    (hm : Memory.wf m = true) : memByte (memSetWord m x w) y = memByte m y := by
  unfold memSetWord
  rw [memByte_memSet _ _ _ (memSet_wf _ _ (memSet_wf _ _ (memSet_wf _ _ hm))), if_neg (by omega),
    memByte_memSet _ _ _ (memSet_wf _ _ (memSet_wf _ _ hm)), if_neg (by omega),
    memByte_memSet _ _ _ (memSet_wf _ _ hm), if_neg (by omega), memByte_memSet _ _ _ hm, if_neg (by omega)]

/-- Writing consecutive words leaves every byte outside them alone. -/
theorem memByte_memSetWords_outside {y : Nat} (x : Nat) (ws : List Word) (h : y < x ∨ x + 4 * ws.length ≤ y)
    {m : List Host.Cell} (hm : Memory.wf m = true) : memByte (memSetWords m x ws) y = memByte m y := by
  induction ws generalizing m x with
  | nil => rfl
  | cons w ws ih =>
    simp only [List.length_cons] at h
    simp only [memSetWords]
    rw [ih (x + 4) (by omega) (memSetWord_wf x w hm), memByte_memSetWord_outside w (by omega) hm]

/-- A word outside the words written reads as before. -/
theorem memWord_memSetWords_outside (x y : Nat) (ws : List Word) (h : y + 4 ≤ x ∨ x + 4 * ws.length ≤ y)
    {m : List Host.Cell} (hm : Memory.wf m = true) : memWord (memSetWords m x ws) y = memWord m y := by
  simp only [memWord]
  rw [memByte_memSetWords_outside x ws (by omega) hm, memByte_memSetWords_outside x ws (by omega) hm,
    memByte_memSetWords_outside x ws (by omega) hm, memByte_memSetWords_outside x ws (by omega) hm]

/-- A word read after it was written. -/
theorem memWord_memSetWord (x : Nat) (w : Word) {m : List Host.Cell} (hm : Memory.wf m = true) :
    memWord (memSetWord m x w) x = w := by
  have hb : ∀ y, memByte (memSetWord m x w) y =
      if y = x + 3 then wordByte w 3 else if y = x + 2 then wordByte w 2 else if y = x + 1 then wordByte w 1
      else if y = x then wordByte w 0 else memByte m y := by
    intro y
    unfold memSetWord
    rw [memByte_memSet _ _ _ (memSet_wf _ _ (memSet_wf _ _ (memSet_wf _ _ hm))),
      memByte_memSet _ _ _ (memSet_wf _ _ (memSet_wf _ _ hm)), memByte_memSet _ _ _ (memSet_wf _ _ hm), memByte_memSet _ _ _ hm]
  unfold memWord
  have h3 : memByte (memSetWord m x w) (x + 3) = wordByte w 3 := by rw [hb, if_pos rfl]
  have h2 : memByte (memSetWord m x w) (x + 2) = wordByte w 2 := by rw [hb, if_neg (by omega), if_pos rfl]
  have h1 : memByte (memSetWord m x w) (x + 1) = wordByte w 1 := by
    rw [hb, if_neg (by omega), if_neg (by omega), if_pos rfl]
  have h0 : memByte (memSetWord m x w) x = wordByte w 0 := by
    rw [hb, if_neg (by omega), if_neg (by omega), if_neg (by omega), if_pos rfl]
  rw [h3, h2, h1, h0]
  apply BitVec.eq_of_getLsbD_eq
  intro i hi
  simp only [wordByte, BitVec.getLsbD_append, BitVec.getLsbD_extractLsb']
  rcases (by omega : i < 8 ∨ (8 ≤ i ∧ i < 16) ∨ (16 ≤ i ∧ i < 24) ∨ 24 ≤ i) with h | h | h | h
  · simp [h]
  · simp [show ¬ i < 8 by omega, show i - 8 < 8 by omega, show 8 + (i - 8) = i by omega]
  · simp [show ¬ i < 8 by omega, show ¬ i - 8 < 8 by omega, show i - 8 - 8 < 8 by omega, show 16 + (i - 8 - 8) = i by omega]
  · simp [show ¬ i < 8 by omega, show ¬ i - 8 < 8 by omega, show ¬ i - 8 - 8 < 8 by omega,
      show i - 8 - 8 - 8 < 8 by omega, show 24 + (i - 8 - 8 - 8) = i by omega]

/-- The first request of a kind, found between the requests before it and those after it. -/
theorem splitReq_append (k : ReqKind) (before after : List Request) (r : Request) (hk : r.kind = k)
    (hb : ∀ q ∈ before, q.kind ≠ k) : splitReq k (before ++ r :: after) = some (before, r, after) := by
  induction before with
  | nil => simp [splitReq, hk]
  | cons a t ih => simp [splitReq, hb a (.head _), ih fun q hq => hb q (.tail _ hq)]

/-- Reset memory has the canonical form. -/
theorem reset_mem_wf : Memory.wf State.reset.mem = true := rfl

end Sys2Proof.Machine
end

