-- ==== Sys2Proof/Laws/PerInstr.lean ====
section
/-! SUPPORT. Statements made of every command as syntax, one lemma per constructor: which operands can arise, and that a card-bus
write spells only commands whose operands can. -/

namespace Sys2Proof.Laws

open Sys2Proof

/-- The operands an event can bring, said without the check: an undefined code is none of 1 to 6 (R3), a crossing's tick lies in
1 to 2,147,483,648 (R129, R136), and every other operand value can arise. -/
def operandsArise : Instr → Prop
  | .undefinedCommandCode code => code.toNat = 0 ∨ 6 < code.toNat
  | .rampCrossing ticks => 1 ≤ ticks ∧ ticks ≤ 2147483648
  | .startA | .startB | .continueRun | .stop | .room | .softReset => True
  | .anchorWrite _ | .stateWrite _ | .causeRead | .irqEnableWrite _ | .ignoredRegisterWrite _ _ => True
  | .por | .pin | .rawLineChange _ _ | .firstLevelTaken _ => True
  | .guardOpened | .guardClosed | .boardLost | .boardSeated | .linkDown | .linkUp => True
  | .timeStampTick | .timeWrap => True
  | .landed _ _ | .lifted _ _ | .parked _ _ | .cleaned _ _ | .fault _ _ _ | .stopped => True
  | .orderDeadlineExpiry _ | .stopDeadlineExpiry => True
  | .loadingReadComplete | .fetchReadComplete => True
  | .returnReleased | .endDrained | .pauseDrained | .resumeReleased => True
  | .areaWriteComplete | .readyPoll | .readyReadComplete | .runWordReadComplete => True
  | .stoppingWriteComplete | .haltWriteComplete | .memoryError _ _ => True
  | .checkEnd _ _ | .measurementTake | .settleElapsed | .sample _ | .rampTimeLimit => True
  | .attemptJudged _ | .classificationReturned | .captureHandoff | .captureWriteComplete => True
  | .headTaken | .markRemoved | .recordWriteComplete | .releaseReadComplete | .releasePoll => True
  | .noticeWriteComplete => True

/-- The operand check accepts a command exactly where its operands can arise; and no written code 1 to 6 spells an undefined
code (R3, spec 12.5). -/
def WellFormedness.Statement (i : Instr) : Prop :=
  (i.wellFormed = true ↔ operandsArise i) ∧ ∀ code : Byte, commandOfCode code = i → i.wellFormed = true

/-- A command code spells a well-formed command (R3, spec 12.5). -/
theorem commandOfCode_wellFormed (code : Byte) : (commandOfCode code).wellFormed = true := by
  revert code
  decide

/-- A command all of whose operand values can arise. -/
theorem statement_of_always (i : Instr) (hw : i.wellFormed = true) (ho : operandsArise i) : WellFormedness.Statement i :=
  ⟨⟨fun _ => ho, fun _ => hw⟩, fun _ _ => hw⟩

/-- The check of a command code against the six codes. -/
theorem isCommandCode_false (code : Byte) : isCommandCode code = false ↔ code.toNat = 0 ∨ 6 < code.toNat := by
  simp only [isCommandCode, Bool.and_eq_false_iff, decide_eq_false_iff_not]
  omega

theorem WellFormedness.undefinedCommandCode (code : Byte) : WellFormedness.Statement (.undefinedCommandCode code) :=
  ⟨by simpa [Instr.wellFormed, operandsArise] using isCommandCode_false code,
    fun c h => h ▸ commandOfCode_wellFormed c⟩

theorem WellFormedness.rampCrossing (ticks : Nat) : WellFormedness.Statement (.rampCrossing ticks) :=
  ⟨by simp [Instr.wellFormed, operandsArise, isTickCount], fun c h => h ▸ commandOfCode_wellFormed c⟩

theorem WellFormedness.startA : WellFormedness.Statement .startA :=
  statement_of_always _ rfl trivial

theorem WellFormedness.startB : WellFormedness.Statement .startB :=
  statement_of_always _ rfl trivial

theorem WellFormedness.continueRun : WellFormedness.Statement .continueRun :=
  statement_of_always _ rfl trivial

theorem WellFormedness.stop : WellFormedness.Statement .stop :=
  statement_of_always _ rfl trivial

theorem WellFormedness.room : WellFormedness.Statement .room :=
  statement_of_always _ rfl trivial

theorem WellFormedness.softReset : WellFormedness.Statement .softReset :=
  statement_of_always _ rfl trivial

theorem WellFormedness.anchorWrite (value : Word) : WellFormedness.Statement (.anchorWrite value) :=
  statement_of_always _ rfl trivial

theorem WellFormedness.stateWrite (value : Word) : WellFormedness.Statement (.stateWrite value) :=
  statement_of_always _ rfl trivial

theorem WellFormedness.causeRead : WellFormedness.Statement .causeRead :=
  statement_of_always _ rfl trivial

theorem WellFormedness.irqEnableWrite (value : Word) : WellFormedness.Statement (.irqEnableWrite value) :=
  statement_of_always _ rfl trivial

theorem WellFormedness.ignoredRegisterWrite (reg : IgnoredRegister) (value : Word) : WellFormedness.Statement (.ignoredRegisterWrite reg value) :=
  statement_of_always _ rfl trivial

theorem WellFormedness.por : WellFormedness.Statement .por :=
  statement_of_always _ rfl trivial

theorem WellFormedness.pin : WellFormedness.Statement .pin :=
  statement_of_always _ rfl trivial

theorem WellFormedness.rawLineChange (line : MachineLine) (level : Bool) : WellFormedness.Statement (.rawLineChange line level) :=
  statement_of_always _ rfl trivial

theorem WellFormedness.firstLevelTaken (line : MachineLine) : WellFormedness.Statement (.firstLevelTaken line) :=
  statement_of_always _ rfl trivial

theorem WellFormedness.guardOpened : WellFormedness.Statement .guardOpened :=
  statement_of_always _ rfl trivial

theorem WellFormedness.guardClosed : WellFormedness.Statement .guardClosed :=
  statement_of_always _ rfl trivial

theorem WellFormedness.boardLost : WellFormedness.Statement .boardLost :=
  statement_of_always _ rfl trivial

theorem WellFormedness.boardSeated : WellFormedness.Statement .boardSeated :=
  statement_of_always _ rfl trivial

theorem WellFormedness.linkDown : WellFormedness.Statement .linkDown :=
  statement_of_always _ rfl trivial

theorem WellFormedness.linkUp : WellFormedness.Statement .linkUp :=
  statement_of_always _ rfl trivial

theorem WellFormedness.timeStampTick : WellFormedness.Statement .timeStampTick :=
  statement_of_always _ rfl trivial

theorem WellFormedness.timeWrap : WellFormedness.Statement .timeWrap :=
  statement_of_always _ rfl trivial

theorem WellFormedness.landed (p : ProbeNo) (tag : BitVec 4) : WellFormedness.Statement (.landed p tag) :=
  statement_of_always _ rfl trivial

theorem WellFormedness.lifted (p : ProbeNo) (tag : BitVec 4) : WellFormedness.Statement (.lifted p tag) :=
  statement_of_always _ rfl trivial

theorem WellFormedness.parked (p : ProbeNo) (tag : BitVec 4) : WellFormedness.Statement (.parked p tag) :=
  statement_of_always _ rfl trivial

theorem WellFormedness.cleaned (p : ProbeNo) (tag : BitVec 4) : WellFormedness.Statement (.cleaned p tag) :=
  statement_of_always _ rfl trivial

theorem WellFormedness.fault (p : ProbeNo) (tag : BitVec 4) (code : Byte) : WellFormedness.Statement (.fault p tag code) :=
  statement_of_always _ rfl trivial

theorem WellFormedness.stopped : WellFormedness.Statement .stopped :=
  statement_of_always _ rfl trivial

theorem WellFormedness.orderDeadlineExpiry (p : ProbeNo) : WellFormedness.Statement (.orderDeadlineExpiry p) :=
  statement_of_always _ rfl trivial

theorem WellFormedness.stopDeadlineExpiry : WellFormedness.Statement .stopDeadlineExpiry :=
  statement_of_always _ rfl trivial

theorem WellFormedness.loadingReadComplete : WellFormedness.Statement .loadingReadComplete :=
  statement_of_always _ rfl trivial

theorem WellFormedness.fetchReadComplete : WellFormedness.Statement .fetchReadComplete :=
  statement_of_always _ rfl trivial

theorem WellFormedness.returnReleased : WellFormedness.Statement .returnReleased :=
  statement_of_always _ rfl trivial

theorem WellFormedness.endDrained : WellFormedness.Statement .endDrained :=
  statement_of_always _ rfl trivial

theorem WellFormedness.pauseDrained : WellFormedness.Statement .pauseDrained :=
  statement_of_always _ rfl trivial

theorem WellFormedness.resumeReleased : WellFormedness.Statement .resumeReleased :=
  statement_of_always _ rfl trivial

theorem WellFormedness.areaWriteComplete : WellFormedness.Statement .areaWriteComplete :=
  statement_of_always _ rfl trivial

theorem WellFormedness.readyPoll : WellFormedness.Statement .readyPoll :=
  statement_of_always _ rfl trivial

theorem WellFormedness.readyReadComplete : WellFormedness.Statement .readyReadComplete :=
  statement_of_always _ rfl trivial

theorem WellFormedness.runWordReadComplete : WellFormedness.Statement .runWordReadComplete :=
  statement_of_always _ rfl trivial

theorem WellFormedness.stoppingWriteComplete : WellFormedness.Statement .stoppingWriteComplete :=
  statement_of_always _ rfl trivial

theorem WellFormedness.haltWriteComplete : WellFormedness.Statement .haltWriteComplete :=
  statement_of_always _ rfl trivial

theorem WellFormedness.memoryError (kind : ReqKind) (words : Nat) : WellFormedness.Statement (.memoryError kind words) :=
  statement_of_always _ rfl trivial

theorem WellFormedness.checkEnd (p : ProbeNo) (loop : Option Nat) : WellFormedness.Statement (.checkEnd p loop) :=
  statement_of_always _ rfl trivial

theorem WellFormedness.measurementTake : WellFormedness.Statement .measurementTake :=
  statement_of_always _ rfl trivial

theorem WellFormedness.settleElapsed : WellFormedness.Statement .settleElapsed :=
  statement_of_always _ rfl trivial

theorem WellFormedness.sample (value : BitVec 20) : WellFormedness.Statement (.sample value) :=
  statement_of_always _ rfl trivial

theorem WellFormedness.rampTimeLimit : WellFormedness.Statement .rampTimeLimit :=
  statement_of_always _ rfl trivial

theorem WellFormedness.attemptJudged (micros : Nat) : WellFormedness.Statement (.attemptJudged micros) :=
  statement_of_always _ rfl trivial

theorem WellFormedness.classificationReturned : WellFormedness.Statement .classificationReturned :=
  statement_of_always _ rfl trivial

theorem WellFormedness.captureHandoff : WellFormedness.Statement .captureHandoff :=
  statement_of_always _ rfl trivial

theorem WellFormedness.captureWriteComplete : WellFormedness.Statement .captureWriteComplete :=
  statement_of_always _ rfl trivial

theorem WellFormedness.headTaken : WellFormedness.Statement .headTaken :=
  statement_of_always _ rfl trivial

theorem WellFormedness.markRemoved : WellFormedness.Statement .markRemoved :=
  statement_of_always _ rfl trivial

theorem WellFormedness.recordWriteComplete : WellFormedness.Statement .recordWriteComplete :=
  statement_of_always _ rfl trivial

theorem WellFormedness.releaseReadComplete : WellFormedness.Statement .releaseReadComplete :=
  statement_of_always _ rfl trivial

theorem WellFormedness.releasePoll : WellFormedness.Statement .releasePoll :=
  statement_of_always _ rfl trivial

theorem WellFormedness.noticeWriteComplete : WellFormedness.Statement .noticeWriteComplete :=
  statement_of_always _ rfl trivial

end Sys2Proof.Laws
end

