-- ==== Sys2Proof/Laws/Probes.lean ====
section
/-! SUPPORT. What the operations on the Probe Table, the Memory Port and the interlock can do, said once for each. -/

namespace Sys2Proof.Machine

open Sys2Proof

/-! ## One thing per probe -/

@[simp] theorem Per.get_set_same {α : Type} (x : Per α) (p : ProbeNo) (a : α) : (x.set p a).get p = a := by
  unfold Per.set; split <;> rfl

@[simp] theorem Per.get_set_other {α : Type} (x : Per α) {p q : ProbeNo} (h : q ≠ p) (a : α) : (x.set p a).get q = x.get q := by
  unfold Per.set; split <;> (unfold Per.get; split <;> simp_all)

@[simp] theorem Per.get_map {α β : Type} (f : α → β) (x : Per α) (p : ProbeNo) : (x.map f).get p = f (x.get p) := by
  unfold Per.get; split <;> rfl

@[simp] theorem Per.get_make {α : Type} (f : ProbeNo → α) (p : ProbeNo) : (Per.make f).get p = f p := by
  unfold Per.get; split <;> rfl

@[simp] theorem Per.get_all {α : Type} (a : α) (p : ProbeNo) : (Per.all a).get p = a := by
  unfold Per.get; split <;> rfl

/-! ## Probe records and the send sequence -/

@[simp] theorem probe_setProbe_same (p : ProbeNo) (r : Probe) (s : State) : probe (setProbe p r s) p = r := by simp [probe, setProbe]

@[simp] theorem probe_setProbe_other {p q : ProbeNo} (h : q ≠ p) (r : Probe) (s : State) :
    probe (setProbe p r s) q = probe s q := by simp [probe, setProbe, h]

@[simp] theorem probe_mapProbes (f : Probe → Probe) (p : ProbeNo) (s : State) : probe (mapProbes f s) p = f (probe s p) := by
  simp [probe, mapProbes]

@[simp] theorem probe_endOrder_same (p : ProbeNo) (r : Probe) (s : State) : probe (endOrder p r s) p = r := by
  simp [probe, endOrder]

@[simp] theorem probe_endOrder_other {p q : ProbeNo} (h : q ≠ p) (r : Probe) (s : State) :
    probe (endOrder p r s) q = probe s q := by simp [probe, endOrder, h]

@[simp] theorem endOrder_sent (p : ProbeNo) (r : Probe) (s : State) : (endOrder p r s).link.sent = s.link.sent.erase p := rfl

@[simp] theorem probe_takeOrder_same (p : ProbeNo) (o : Order) (s : State) :
    probe (takeOrder p o s) p = orderedProbe s.settings o (probe s p) := by simp [probe, takeOrder]

@[simp] theorem probe_takeOrder_other {p q : ProbeNo} (h : q ≠ p) (o : Order) (s : State) :
    probe (takeOrder p o s) q = probe s q := by simp [probe, takeOrder, h]

@[simp] theorem takeOrder_sent (p : ProbeNo) (o : Order) (s : State) : (takeOrder p o s).link.sent = s.link.sent ++ [p] := rfl

@[simp] theorem probe_voidOrders (p : ProbeNo) (s : State) : probe (voidOrders s) p = voidedProbe (probe s p) := by
  simp [probe, voidOrders]

@[simp] theorem voidOrders_sent (s : State) : (voidOrders s).link.sent = [] := rfl

@[simp] theorem setProbe_sent (p : ProbeNo) (r : Probe) (s : State) : (setProbe p r s).link.sent = s.link.sent := rfl

@[simp] theorem mapProbes_sent (f : Probe → Probe) (s : State) : (mapProbes f s).link.sent = s.link.sent := rfl

/-- What taking an order leaves of a record (R100). -/
theorem orderedProbe_order (t : Settings) (o : Order) (r : Probe) :
    (orderedProbe t o r).order = some o ∧ (orderedProbe t o r).tag = r.tag + 1 ∧ (orderedProbe t o r).verified = false
      ∧ (orderedProbe t o r).touch = r.touch ∧ (orderedProbe t o r).miss = r.miss ∧ (orderedProbe t o r).due = r.due := by
  cases o <;> exact ⟨rfl, rfl, rfl, rfl, rfl, rfl⟩

/-- A voided record has no order and keeps its tag and counts (R108). -/
theorem voidedProbe_order (r : Probe) :
    (voidedProbe r).order = none ∧ (voidedProbe r).tag = r.tag ∧ (voidedProbe r).touch = r.touch
      ∧ (voidedProbe r).miss = r.miss ∧ (voidedProbe r).due = r.due := by
  unfold voidedProbe
  split
  · exact ⟨‹_›, rfl, rfl, rfl, rfl⟩
  · exact ⟨rfl, rfl, rfl, rfl, rfl⟩

/-! ## The Memory Port -/

/-- A request of the kind split off is of that kind, and the list is put together again from the parts. -/
theorem splitReq_some {k : ReqKind} {rs before after : List Request} {r : Request}
    (h : splitReq k rs = some (before, r, after)) : rs = before ++ r :: after ∧ r.kind = k ∧ ∀ q ∈ before, q.kind ≠ k := by
  induction rs generalizing before with
  | nil => cases h
  | cons q rs ih =>
    unfold splitReq at h
    split at h
    · cases h; exact ⟨rfl, ‹_›, by simp⟩
    · split at h
      · cases h
      · cases h
        obtain ⟨rfl, hk, hb⟩ := ih ‹_›
        exact ⟨rfl, hk, by simpa using ⟨‹_›, hb⟩⟩

/-- All that serving a request does: memory and the outstanding requests (R13). -/
theorem serve_some {k : ReqKind} {s s1 : State} {r : Request} {ws : List Word} (h : serve k s = some (r, ws, s1)) :
    r.kind = k ∧ r ∈ s.port.reqs ∧ r.inWindow = true ∧ s1 = { s with mem := s1.mem, port := { s.port with reqs := s1.port.reqs } } := by
  unfold serve at h
  split at h
  · cases h
  · obtain ⟨hr, hk, -⟩ := splitReq_some ‹_›
    split at h
    · rename_i hc
      cases h
      exact ⟨hk, by simp [hr], by simp_all, rfl⟩
    · cases h

/-- All that a failing request does before its block hears of it: memory and the outstanding requests (R14). -/
theorem serveFailing_some {k : ReqKind} {n : Nat} {s s1 : State} {r : Request} (h : serveFailing k n s = some (r, s1)) :
    r.kind = k ∧ r ∈ s.port.reqs ∧ s1 = { s with mem := s1.mem, port := { s.port with reqs := s1.port.reqs } } := by
  unfold serveFailing at h
  split at h
  · cases h
  · obtain ⟨hr, hk, -⟩ := splitReq_some ‹_›
    split at h
    · cases h; exact ⟨hk, by simp [hr], rfl⟩
    · cases h

/-! ## The interlock -/

/-- With the source off the interlock has nothing to do (R133). -/
theorem interlock_of_source_off {s : State} (h : s.unit.sourceOn = false) : interlock s = s := by simp [interlock, h]

/-- The interlock does nothing or aborts the measurement (R133, R140). -/
theorem interlock_cases (s : State) : interlock s = s ∨ interlock s = abortMeasurement s := by
  unfold interlock; split
  · exact .inr rfl
  · exact .inl rfl

end Sys2Proof.Machine
end

