-- ==== Sys2Proof/Laws/Window.lean ====
section
/-! SUPPORT. What the operations on the Step Window, parking, the fetcher's placeholders and the logger's head can do, said once for
each. -/

namespace Sys2Proof.Machine

open Sys2Proof

/-! ## Orders and entries -/

/-- A request for an order is taken exactly under the conditions of R99, and then does what takeOrder says. -/
theorem requestOrder_eq_some_iff {p : ProbeNo} {o : Order} {s t : State} :
    requestOrder p o s = some t ↔ (mayOrder p o s = true ∧ t = takeOrder p o s) := by
  unfold requestOrder
  split
  · exact ⟨fun x => ⟨‹_›, (Option.some.inj x).symm⟩, fun x => x.2 ▸ rfl⟩
  · exact ⟨fun x => (by cases x), fun x => absurd x.1 ‹_›⟩

/-- The entry of a number is in the window and has the number. -/
theorem entryOf_some {s : State} {u : Nat} {e : Entry} (h : entryOf s u = some e) : e ∈ s.window ∧ e.uid = u :=
  ⟨List.mem_of_find?_eq_some h, by simpa using List.find?_some h⟩

/-- An entry changed in the window stands there changed. -/
theorem mem_updateEntry {s : State} {u : Nat} {e : Entry} (f : Entry → Entry) (he : e ∈ s.window) (hu : e.uid = u) :
    f e ∈ (updateEntry u f s).window := List.mem_map.2 ⟨e, he, by simp [hu]⟩

/-- Failing an unmeasured entry leaves it FAILED with its cause and detail (R85). -/
theorem failEntry_failed {s : State} {u : Nat} {e : Entry} (c : Cause) (d : Nat) (h : entryOf s u = some e)
    (hu : unmeasured e = true) : failedEntry c d e ∈ (failEntry u c d s).window := by
  obtain ⟨hm, he⟩ := entryOf_some h
  simp only [failEntry, h, hu, if_true]
  split
  · simpa using mem_updateEntry (failedEntry c d) hm he
  · exact mem_updateEntry (failedEntry c d) hm he

/-- Which entries stand behind an entry of the window: those after its first place. -/
theorem isYounger_split {s : State} {u h : Nat} {before rest : List Entry} {a : Entry} (ha : a.uid = u)
    (hb : ∀ x ∈ before, x.uid ≠ u) (hw : s.window = before ++ a :: rest) :
    isYounger s u h = rest.any fun e => decide (e.uid = h) := by
  have h : ∀ l : List Entry, (∀ x ∈ l, x.uid ≠ u) →
      (l ++ a :: rest).dropWhile (fun e => decide (e.uid ≠ u)) = a :: rest := by
    intro l
    induction l with
    | nil => intro _; simp [ha]
    | cons x xs ih => intro hl; simpa [hl x (by simp)] using ih fun y hy => hl y (by simp [hy])
  simp only [isYounger, hw, h before hb, List.drop_one, List.tail_cons]

/-! ## Placeholders and pairs of roles -/

/-- A PROGRAM failure placeholder is the youngest entry, and the transaction ends (R54). -/
theorem placeProgramError_eq (d : ProgramError) (ws : List Word) (s : State) :
    ∃ e, placeProgramError d ws s = { s with
        window := s.window ++ [e], nextUid := s.nextUid + 1
        fetch := { s.fetch with index := s.fetch.index + 1, txn := none } }
      ∧ e.kind = .programError ∧ e.state = .failed ∧ e.cause = some .programError ∧ e.detail = programErrorCode d
      ∧ e.roles = [] ∧ e.members = [] ∧ e.snap = snapshotNow s := by
  refine ⟨_, rfl, ?_, ?_, rfl, rfl, ?_, ?_, ?_⟩ <;> unfold asWritten <;> split <;> rfl

/-- Check 8 fails exactly where some pair of placed roles conflicts (R71). -/
theorem internalConflict_iff (k : MeasKind) (d : Nat) (l : List Placed) :
    internalConflict k d l = true ↔
      ∃ (i j : Nat) (x y : Placed), i < j ∧ l[i]? = some x ∧ l[j]? = some y ∧ placedConflict k d x y = true := by
  induction l with
  | nil => simp [internalConflict]
  | cons a l ih =>
    simp only [internalConflict, Bool.or_eq_true, ih, List.any_eq_true]
    constructor
    · rintro (⟨y, hy, h⟩ | ⟨i, j, x, y, h1, h2, h3, h4⟩)
      · obtain ⟨j, hj⟩ := List.mem_iff_getElem?.1 hy
        exact ⟨0, j + 1, a, y, by omega, rfl, by simpa using hj, h⟩
      · exact ⟨i + 1, j + 1, x, y, by omega, by simpa using h2, by simpa using h3, h4⟩
    · rintro ⟨i, j, x, y, h1, h2, h3, h4⟩
      obtain ⟨j, rfl⟩ : ∃ j', j = j' + 1 := ⟨j - 1, by omega⟩
      cases i with
      | zero => simp at h2 h3; subst h2; exact .inl ⟨y, List.mem_of_getElem? h3, h4⟩
      | succ i => exact .inr ⟨i, j, x, y, by omega, by simpa using h2, by simpa using h3, h4⟩

/-! ## The logger -/

/-- Room exists exactly where (release − fill − 1) modulo L is at least 1 (R174). -/
theorem hasRoom_iff (s : State) :
    hasRoom s = true ↔ 1 ≤ ((s.log.release : Int) - s.log.fill - 1) % (s.settings.logSize : Int) := by
  have h : ∀ x : Int, decide (1 ≤ x.toNat) = true ↔ 1 ≤ x := fun x => by rw [decide_eq_true_iff]; omega
  exact h _

/-- Beginning the oldest notice's write changes nothing but the outstanding requests, and keeps these (R180). -/
theorem startNotice_eq (s : State) : ∃ more, startNotice s = { s with port := { s.port with reqs := s.port.reqs ++ more } } := by
  unfold startNotice
  split
  · exact ⟨[], by simp⟩
  · split
    · exact ⟨[], by simp⟩
    · exact ⟨_, rfl⟩

/-- All that requesting a notice does: nothing while the ring is not in force, else the request is queued, or held behind 16
(R179, R180). -/
theorem requestNotice_eq (k : NoticeKind) (a b : Word) (m : NoticeMark) (s : State) :
    ∃ more, requestNotice k a b m s = { s with
      port := { s.port with reqs := s.port.reqs ++ more }
      notice := { s.notice with
        queue := s.notice.queue ++ (if s.notice.inForce = true ∧ s.notice.queue.length < 16 then [⟨k, a, b, s.rc.time, m⟩] else [])
        held := s.notice.held ++
          (if s.notice.inForce = true ∧ 16 ≤ s.notice.queue.length then [⟨k, a, b, s.rc.time, m⟩] else []) } } := by
  let n : Notice := ⟨k, a, b, s.rc.time, m⟩
  by_cases hf : s.notice.inForce = true
  · have hn : ¬(!s.notice.inForce) = true := by simp [hf]
    by_cases hq : s.notice.queue.length < 16
    · obtain ⟨more, h⟩ := startNotice_eq { s with notice := { s.notice with queue := s.notice.queue ++ [n] } }
      have e : requestNotice k a b m s = startNotice { s with notice := { s.notice with queue := s.notice.queue ++ [n] } } := by
        rw [requestNotice, if_neg hn, if_pos hq]
      exact ⟨more, by rw [if_pos ⟨hf, hq⟩, if_neg (by omega), List.append_nil, e, h]⟩
    · have e : requestNotice k a b m s = { s with notice := { s.notice with held := s.notice.held ++ [n] } } := by
        rw [requestNotice, if_neg hn, if_neg hq]
      exact ⟨[], by rw [if_neg (by omega), if_pos ⟨hf, Nat.not_lt.1 hq⟩, List.append_nil, List.append_nil, e]⟩
  · have e : requestNotice k a b m s = s := by rw [requestNotice, if_pos (by simp [hf])]
    exact ⟨[], by
      rw [if_neg (fun h => hf h.1), if_neg (fun h => hf h.1), List.append_nil, List.append_nil, List.append_nil, e]⟩

/-- All that forming and filtering the record of a head does (R174, R175). -/
theorem writeRecord_eq (e : Entry) (s : State) :
    (keepsRecord s.settings e = true → writeRecord e s = { s with
      log := { s.log with nextSeq := s.log.nextSeq + 1, writingSeq := s.log.nextSeq, busy := true }
      port := { s.port with reqs := s.port.reqs ++
        [⟨.record, s.settings.logBase + 64 * s.log.fill, .write (recordWords s.log.nextSeq s.rc.time e), true, s.port.epoch⟩] } })
    ∧ (keepsRecord s.settings e = false → writeRecord e s = s) :=
  ⟨fun h => by rw [writeRecord, if_pos h]; rfl, fun h => by rw [writeRecord, if_neg (by simp [h])]⟩

/-- A STEP_FAILED notice is requested exactly for a FAILED head while NOTICE_FAILURES is set (R174). -/
theorem noticeFailure_eq (seq : Nat) (e : Entry) (s : State) :
    (s.settings.noticeFailures = true ∧ e.state = .failed → noticeFailure seq e s =
      requestNotice .stepFailed (BitVec.ofNat 32 (causeCodeOpt e.cause)) (BitVec.ofNat 32 seq) .plain s)
    ∧ (s.settings.noticeFailures = false ∨ e.state ≠ .failed → noticeFailure seq e s = s) := by
  unfold noticeFailure
  exact ⟨fun h => if_pos (by simp [h]), fun h => if_neg (by rcases h with h | h <;> simp [h])⟩

/-- All that the logger does with a head it takes (R35, R174). -/
theorem takeHead_taken (e : Entry) (s : State) : HeadTaken e s (takeHead e s) := by
  have hk : keepsRecord s.settings e = true ↔
      (recordKindCode e.kind ≠ 1 ∨ entryClass e ≠ .pass ∨ s.settings.logPasses = true) := by
    simp [keepsRecord, or_assoc]
  -- what the notice's request then leaves
  have key : ∀ s2 : State, s2.settings = s.settings → s2.window = s.window → s2.mem = s.mem → s2.link = s.link →
      s2.unit = s.unit → s2.fetch = s.fetch → s2.div = s.div →
      s2.rc = { s.rc with summary := countRemoval e s.rc.summary } → s2.notice = s.notice →
      (keepsRecord s.settings e = true → s2.log =
          { s.log with nextSeq := s.log.nextSeq + 1, writingSeq := s.log.nextSeq, busy := true }
        ∧ ⟨.record, s.settings.logBase + 64 * s.log.fill, .write (recordWords s.log.nextSeq s.rc.time e), true,
          s.port.epoch⟩ ∈ s2.port.reqs) →
      (keepsRecord s.settings e = false → s2.log = s.log) →
      HeadTaken e s (removeHead e (noticeFailure s.log.nextSeq e s2)) := by
    intro s2 h1 h2 h3 h4 h5 h6 h7 h8 h9 h10 h11
    have hpass : recordKindCode e.kind = 1 → entryClass e = .pass → s.settings.logPasses = false → s2.log = s.log :=
      fun ha hb hc => h11 (by rw [Bool.eq_false_iff]; intro h; rcases hk.1 h with h | h | h <;> simp_all)
    obtain ⟨hn1, hn2⟩ := noticeFailure_eq s.log.nextSeq e s2
    refine ⟨_, rfl, ?_⟩
    by_cases hf : s.settings.noticeFailures = true ∧ e.state = .failed
    · obtain ⟨more, hn⟩ := requestNotice_eq .stepFailed (BitVec.ofNat 32 (causeCodeOpt e.cause)) (BitVec.ofNat 32 s.log.nextSeq)
        .plain s2
      rw [hn1 (by rw [h1]; exact hf), hn]
      refine ⟨by simp [h2], h3, h4, h5, h6, h7, h8, fun h => ⟨(h10 (hk.2 h)).1, ?_⟩, hpass, ?_, ?_⟩
      · exact List.mem_append_left _ (h10 (hk.2 h)).2
      · rintro (h | h) <;> simp_all
      · intro _ _ hi hq
        simp [h8, h9, hi, hq]
    · have hf' : s.settings.noticeFailures = false ∨ e.state ≠ .failed := by
        by_cases h : s.settings.noticeFailures = true
        · exact .inr fun h' => hf ⟨h, h'⟩
        · exact .inl (by simpa using h)
      rw [hn2 (by rw [h1]; exact hf')]
      exact ⟨by simp [h2], h3, h4, h5, h6, h7, h8, fun h => h10 (hk.2 h), hpass, fun _ => h9, fun ha hb => absurd ⟨ha, hb⟩ hf⟩
  obtain ⟨hw1, hw2⟩ := writeRecord_eq e s
  unfold takeHead
  cases h : keepsRecord s.settings e
  · rw [hw2 h]
    exact key _ rfl rfl rfl rfl rfl rfl rfl rfl rfl (by simp [h]) fun _ => rfl
  · rw [hw1 h]
    exact key _ rfl rfl rfl rfl rfl rfl rfl rfl rfl (fun _ => ⟨rfl, by simp⟩) (by simp [h])

/-! ## Failing, and notices, in the terms of the statements -/

/-- Failing an unmeasured entry changes the window as EntryFailed says (R85). -/
theorem failEntry_entryFailed {s : State} {u : Nat} {e : Entry} (c : Cause) (d : Nat) (h : entryOf s u = some e)
    (hu : unmeasured e = true) : EntryFailed u c d s (failEntry u c d s) := by
  have hf : ∀ f : Entry, failedEntry c d f = { f with
      state := .failed, cause := some c, detail := d
      roles := f.roles.map fun r =>
        if r.state = .ordered ∨ r.state = .checking ∨ r.state = .retouching then { r with state := .waiting } else r
      members := f.members.map fun m => if m.state = .ordered then { m with state := .waiting } else m } := fun f => by
    have hr : (failedEntry c d f).roles = f.roles.map fun r =>
        if r.state = .ordered ∨ r.state = .checking ∨ r.state = .retouching then { r with state := .waiting } else r :=
      List.map_congr_left fun r _ => by cases hs : r.state <;> simp
    have hm : (failedEntry c d f).members = f.members.map fun m =>
        if m.state = .ordered then { m with state := .waiting } else m :=
      List.map_congr_left fun m _ => by cases hs : m.state <;> simp
    rw [← hr, ← hm, failedEntry]
  have hw : EntryFailed u c d s (updateEntry u (failedEntry c d) s) := by simp only [EntryFailed, updateEntry, hf]
  simp only [failEntry, h, hu, if_true]
  split
  · simpa [EntryFailed] using hw
  · exact hw

/-- Requesting a notice is what NoticeRequested says (R179, R180). -/
theorem requestNotice_requested (k : NoticeKind) (a b : Word) (m : NoticeMark) (s : State) :
    NoticeRequested ⟨k, a, b, s.rc.time, m⟩ s (requestNotice k a b m s) := by
  obtain ⟨more, h⟩ := requestNotice_eq k a b m s
  rw [h]
  refine ⟨fun x => ?_, fun x y => ?_, fun x y => ?_⟩
  · simp [x]
    exact x.symm ▸ rfl
  · simp [x, y]
  · simp [x, y]

/-! ## Parking every probe (R22, R25) -/

/-- What giving one probe a PARK does (R22, R25): nothing, or the order taken and marked as the Run Controller's own. -/
theorem parkOne_eq (p : ProbeNo) (s : State) :
    ((probe s p).state = .parked ∨ s.rc.parking.get p = .failed ∨ mayOrder p .park s = false → parkOne p s = s)
    ∧ ((probe s p).state ≠ .parked → s.rc.parking.get p ≠ .failed → mayOrder p .park s = true →
      parkOne p s = setParkMark p .issued (takeOrder p .park s)) := by
  refine ⟨fun h => ?_, fun h1 h2 h3 => ?_⟩
  · unfold parkOne requestOrder
    rcases h with h | h | h <;> simp [h]
  · simp [parkOne, requestOrder, h1, h2, h3]

/-- Giving one probe a PARK leaves the record, the mark and the chance of a PARK of every other as they were. -/
theorem parkOne_other {p q : ProbeNo} (h : q ≠ p) (s : State) :
    probe (parkOne p s) q = probe s q ∧ (parkOne p s).rc.parking.get q = s.rc.parking.get q
    ∧ mayOrder q .park (parkOne p s) = mayOrder q .park s := by
  by_cases hc : (probe s p).state = .parked ∨ s.rc.parking.get p = .failed ∨ mayOrder p .park s = false
  · simp [(parkOne_eq p s).1 hc]
  · obtain ⟨h1, h2, h3⟩ : (probe s p).state ≠ .parked ∧ s.rc.parking.get p ≠ .failed ∧ mayOrder p .park s = true := by
      simpa using hc
    have hp : probe (setParkMark p .issued (takeOrder p .park s)) q = probe s q := probe_takeOrder_other h .park s
    rw [(parkOne_eq p s).2 h1 h2 h3]
    refine ⟨hp, by simp [setParkMark, takeOrder, h], ?_⟩
    simp only [mayOrder, hp]
    rfl

/-- Giving one probe a PARK does to that probe what its own record, mark and chance of a PARK say. -/
theorem parkOne_congr {p : ProbeNo} {s t : State} (h1 : probe s p = probe t p) (h2 : s.rc.parking.get p = t.rc.parking.get p)
    (h3 : mayOrder p .park s = mayOrder p .park t) (h4 : s.settings = t.settings) :
    probe (parkOne p s) p = probe (parkOne p t) p ∧ (parkOne p s).rc.parking.get p = (parkOne p t).rc.parking.get p := by
  by_cases hc : (probe t p).state = .parked ∨ t.rc.parking.get p = .failed ∨ mayOrder p .park t = false
  · rw [(parkOne_eq p t).1 hc, (parkOne_eq p s).1 (by rw [h1, h2, h3]; exact hc)]
    exact ⟨h1, h2⟩
  · obtain ⟨g1, g2, g3⟩ : (probe t p).state ≠ .parked ∧ t.rc.parking.get p ≠ .failed ∧ mayOrder p .park t = true := by
      simpa using hc
    rw [(parkOne_eq p t).2 g1 g2 g3, (parkOne_eq p s).2 (by rwa [h1]) (by rwa [h2]) (by rwa [h3])]
    constructor
    · show probe (takeOrder p .park s) p = probe (takeOrder p .park t) p
      simp [h1, h4]
    · simp [setParkMark]

/-- Parking every probe does to each what parking it alone does. -/
theorem parkAll_at (p : ProbeNo) (s : State) :
    probe (parkAll s) p = probe (parkOne p s) p ∧ (parkAll s).rc.parking.get p = (parkOne p s).rc.parking.get p := by
  have skip : ∀ (l : List ProbeNo) (s : State), p ∉ l →
      probe (l.foldl (fun s q => parkOne q s) s) p = probe s p
      ∧ (l.foldl (fun s q => parkOne q s) s).rc.parking.get p = s.rc.parking.get p := by
    intro l
    induction l with
    | nil => exact fun s _ => ⟨rfl, rfl⟩
    | cons a l ih =>
      intro s hn
      obtain ⟨h1, h2⟩ : p ≠ a ∧ p ∉ l := by simpa using hn
      obtain ⟨i1, i2⟩ := ih (parkOne a s) h2
      obtain ⟨o1, o2, -⟩ := parkOne_other h1 s
      exact ⟨i1.trans o1, i2.trans o2⟩
  have main : ∀ (l : List ProbeNo) (s : State), l.Nodup → p ∈ l →
      probe (l.foldl (fun s q => parkOne q s) s) p = probe (parkOne p s) p
      ∧ (l.foldl (fun s q => parkOne q s) s).rc.parking.get p = (parkOne p s).rc.parking.get p := by
    intro l
    induction l with
    | nil => intro s _ h; cases h
    | cons a l ih =>
      intro s hd hm
      obtain ⟨ha, hl⟩ := List.nodup_cons.1 hd
      by_cases hp : p = a
      · subst hp; exact skip l (parkOne p s) ha
      · obtain ⟨i1, i2⟩ := ih (parkOne a s) hl (by simpa [hp] using hm)
        obtain ⟨o1, o2, o3⟩ := parkOne_other hp s
        obtain ⟨c1, c2⟩ := parkOne_congr o1 o2 o3 (parkOne_settings a s)
        exact ⟨i1.trans c1, i2.trans c2⟩
  have all : ∀ q : ProbeNo, q ∈ allProbes := by decide
  unfold parkAll
  exact main allProbes s (by decide) (all p)

/-- Parking every probe changes, of run control, the marks of the Run Controller's own PARKs only. -/
theorem parkAll_rc (s : State) : ∃ m, (parkAll s).rc = { s.rc with parking := m } := by
  have h : ∀ (l : List ProbeNo) (x : State), (∃ m, x.rc = { s.rc with parking := m }) →
      ∃ m, (l.foldl (fun s p => parkOne p s) x).rc = { s.rc with parking := m } := by
    intro l
    induction l with
    | nil => exact fun x hx => hx
    | cons a l ih =>
      intro x ⟨m, hm⟩
      refine ih (parkOne a x) ?_
      by_cases hc : (probe x a).state = .parked ∨ x.rc.parking.get a = .failed ∨ mayOrder a .park x = false
      · exact ⟨m, by rw [(parkOne_eq a x).1 hc, hm]⟩
      · obtain ⟨g1, g2, g3⟩ : (probe x a).state ≠ .parked ∧ x.rc.parking.get a ≠ .failed ∧ mayOrder a .park x = true := by
          simpa using hc
        exact ⟨x.rc.parking.set a .issued, by simp [(parkOne_eq a x).2 g1 g2 g3, setParkMark, takeOrder, hm]⟩
  exact h allProbes s ⟨s.rc.parking, rfl⟩

end Sys2Proof.Machine
end

