-- ==== Sys2Proof/Tests/Slice0.lean ====
section
/-! SUPPORT. The model's own tests: the operand check refuses what no event brings, the worked examples of the manual, and for each
obligation concrete states that meet the hypotheses of each of its clauses, at the places where clauses meet. -/

namespace Sys2Proof.Tests

open Sys2Proof Sys2Proof.Machine

/-! ## Helpers -/

/-- The outcome is a next state of which the check holds. -/
def after (o : Host.Outcome State Fault Refusal) (f : State → Bool) : Bool :=
  match o with
  | .next t => f t
  | .fault _ | .refused _ => false

/-- A run in progress: link up, guard closed, board present, the settings taken. -/
def running : State := { State.reset with
  rc := { RunControl.reset with
    run := .running, underWay := true, loadedGood := true, guardLine := ⟨false, false, true⟩, boardLine := ⟨true, true, true⟩ }
  fetch := { Fetcher.reset with stopped := false }
  link := ⟨Per.all Probe.reset, none, true, []⟩ }

/-- The same in another run state. -/
def inRun (r : RunState) : State := { running with rc := { running.rc with run := r } }

/-- The same with the guard line at other levels. -/
def guardAt (raw filtered : Bool) (s : State) : State := { s with rc := { s.rc with guardLine := ⟨raw, filtered, true⟩ } }

/-- The same with the board line at other levels. -/
def boardAt (raw filtered : Bool) (s : State) : State := { s with rc := { s.rc with boardLine := ⟨raw, filtered, true⟩ } }

/-- The same with words written in shared memory. -/
def withWords (x : Nat) (ws : List Word) (s : State) : State := { s with mem := memSetWords s.mem x ws }

/-- The same with the notice ring in force. -/
def ringOn (s : State) : State := { s with notice := { s.notice with inForce := true } }

/-- The same with a notice being written at the front of the queue. -/
def noticeInFlight (m : NoticeMark) (s : State) : State :=
  let s1 := ringOn s
  issue .notice 0 (.write [1, 0, 0, 0]) { s1 with notice := { s1.notice with queue := [⟨.paused, 0, 0, 0, m⟩] } }

/-- The same with one probe record changed. -/
def withProbe (p : ProbeNo) (f : Probe → Probe) (s : State) : State := setProbe p (f (probe s p)) s

/-- The same with every probe PARKED. -/
def allAtPark (s : State) : State := { s with link := { s.link with probes := Per.all { Probe.reset with state := .parked } } }

/-- The same with a number of plain notices queued in a ring in force. -/
def queued (n : Nat) (s : State) : State :=
  { s with notice := { s.notice with inForce := true, queue := List.replicate n ⟨.paused, 0, 0, 0, .plain⟩ } }

/-- The same with touch and miss limits, the ring in force. -/
def limited (touch miss : Nat) (s : State) : State :=
  ringOn { s with settings := { s.settings with touchLimit := touch, missLimit := miss } }

/-- A probe with an outstanding order. -/
def ordered (o : Order) (r : Probe) : Probe := { r with state := .moving, order := some o, tag := 5, deadline := some 100 }

/-- A probe standing verified at a point. -/
def standingAt (x y : Int) (r : Probe) : Probe := { r with state := .landed, pos := some (x, y), verified := true }

/-- A role of a test step. -/
def role (n : RoleName) (p : ProbeNo) (x y : Int) (st : RoleState) : Role := ⟨n, p, 0, x, y, .top, 7, 40, st, 0⟩

/-- A RES2 step on P0 at (0, 0) and P1 at (5,000, 0). -/
def res2Entry (u : Nat) (es : EntryState) (rs : RoleState) : Entry where
  uid := u
  snap := ⟨⟨.a, 0, 3⟩, 0, 0⟩
  board := 0
  kind := .measure
  state := es
  cause := none
  detail := 0
  entryByte := 1
  measByte := 1
  slots := []
  roles := [role .forceHi 0 0 0 rs, role .forceLo 1 5000 0 rs]
  members := []
  mask := 0
  cycles := 0
  markValue := 0
  nets := [7, 8]
  limit := none
  bank := 0
  capture := false
  result := none

/-- A service entry for one probe. -/
def serviceEntryOf (k : EntryKind) (p : ProbeNo) (st : MemberState) : Entry :=
  { res2Entry 3 .pending .waiting with kind := k, roles := [], members := [⟨p, st⟩], mask := 1, cycles := 2, nets := [] }

/-- An entry that has failed with a cause. -/
def failedStep (c : Cause) : Entry := { res2Entry 1 .failed .waiting with cause := some c, detail := 1 }

/-- A run whose window holds the entries. -/
def withWindow (es : List Entry) (s : State) : State := { s with window := es, nextUid := 10 }

/-- A step record of the unit. -/
def stepRec (ph : UnitPhase) (k : MeasKind) : StepRec where
  phase := ph
  entry := 1
  kind := k
  bank := 0
  hi := 0
  lo := 1
  hasGuard := false
  range := 3
  tried := [3]
  changes := 0
  start := 9
  elapsed := 1000
  attempt := ⟨[], 0, false, 0, false⟩
  rangeLimited := false
  final := none

/-- A run with the unit measuring its step. -/
def measuring (r : StepRec) (e : Entry) : State :=
  let s := withWindow [e] running
  { s with unit := { s.unit with step := some r, sourceOn := true } }

/-- A bank that auto-ranges over 0..6 with N = 2^k samples and no settle time. -/
def autoBank (k : Nat) : Bank := { Bank.reset with
  k := k, start := 3, floor := 0, ceiling := 6, autoEnable := true, maxChanges := 2, tMax := 50000, autoInForce := true
  startInForce := 3, retouchLimit := 1 }

/-- The same with the bank in force. -/
def withBank (b : Bank) (s : State) : State := { s with unit := { s.unit with banks := [b, b, b, b] } }

/-! ## The operand check -/

theorem test_command_code_is_no_undefined_code :
    (Instr.undefinedCommandCode 1).wellFormed = false ∧ (Instr.undefinedCommandCode 6).wellFormed = false
    ∧ (Instr.undefinedCommandCode 0).wellFormed = true ∧ (Instr.undefinedCommandCode 7).wellFormed = true := by decide

theorem test_crossing_outside_ramp_is_ill_formed :
    (Instr.rampCrossing 0).wellFormed = false ∧ (Instr.rampCrossing 2147483649).wellFormed = false
    ∧ (Instr.rampCrossing 1).wellFormed = true ∧ (Instr.rampCrossing 2147483648).wellFormed = true := by decide

theorem test_table_words_spell_nothing : decodeTableWord 32 1 = none ∧ State.reset.withFetchWord 32 1 = State.reset := by decide

/-- The six codes at COMMAND, spec 12.5. -/
theorem test_bus_writes_spell_commands :
    busWrite 0x08 1 = some .startA ∧ busWrite 0x08 2 = some .startB ∧ busWrite 0x08 3 = some .continueRun
    ∧ busWrite 0x08 4 = some .stop ∧ busWrite 0x08 5 = some .room ∧ busWrite 0x08 6 = some .softReset
    ∧ busWrite 0x08 0x107 = some (.undefinedCommandCode 7) ∧ busWrite 0x04 4096 = some (.anchorWrite 4096)
    ∧ busWrite 0x18 0 = none := by decide

/-! ## Worked examples of the manual -/

/-- The table of R63. -/
theorem test_rounding_half_away :
    roundHalfAway 536870911 1073741824 = 0 ∧ roundHalfAway 536870912 1073741824 = 1
    ∧ roundHalfAway (-536870912) 1073741824 = -1 ∧ roundHalfAway (-1610612736) 1073741824 = -2 := by decide

/-- The worked transform of chapter 4 and the edge of R62. -/
theorem test_transform :
    transform ⟨100000, 20000, 1073741287, 1073742⟩ (50000, 0) 12000 3500 = some (161996, 23562)
    ∧ transform Correction.reset (2147483647, 0) 0 5 = some (2147483647, 5)
    ∧ transform Correction.reset (2147483647, 0) 1 5 = none := by decide

/-- The table of R66: cell 2,500. -/
theorem test_keep_out_cells :
    let t := { Settings.reset with cell := 2500 }
    keepOutCell t (-1) 0 = none ∧ keepOutCell t 0 0 = some (0, 0) ∧ keepOutCell t 2499 0 = some (0, 0)
    ∧ keepOutCell t 2500 0 = some (1, 0) ∧ keepOutCell t 319999 0 = some (127, 0) ∧ keepOutCell t 320000 0 = none
    ∧ keepOutCell t 161996 23562 = some (64, 9) := by decide

/-- The table of R69. -/
theorem test_spacing :
    spacingConflict 5000 (3000, 4000) (0, 0) = false ∧ spacingConflict 5000 (2999, 4000) (0, 0) = true
    ∧ spacingConflict 1 (0, 0) (0, 0) = true ∧ spacingConflict 0 (0, 0) (0, 0) = false
    ∧ spacingConflict 2500 (161996, 23562) (163800, 25100) = true := by decide

/-- R125 and R126: the clamp of the nudge and the diagonal retouches. -/
theorem test_retouch_targets :
    nudge 0 = 5 ∧ nudge 23 = 5 ∧ nudge 24 = 6 ∧ nudge 400 = 100 ∧ nudge 65535 = 100
    ∧ retouchTarget 6 40 100 200 = (90, 190) ∧ retouchTarget 7 40 100 200 = (110, 190)
    ∧ retouchTarget 1 400 2147483600 0 = (2147483647, 0) := by decide

/-- The table of mean roundings of chapter 9. -/
theorem test_means :
    meanOf 1 (-7) = -7 ∧ meanOf 4 6 = 2 ∧ meanOf 4 (-6) = -1 ∧ meanOf 4 (-7) = -2 ∧ meanOf 16 400010 = 25001
    ∧ meanOf 256 (-134217728) = -524288 ∧ meanOf 256 134217472 = 524287 := by decide

/-- The worked two-wire resistance and negative nominal of chapter 9. -/
theorem test_resistances :
    attemptValue .res2 3 { Bank.reset with k := 4 } 1250 ⟨[], 400010, false, 0, false⟩ = 998790
    ∧ limitBounds (.nomtol 1000000 100 100) = some (990000, 1010000)
    ∧ limitBounds (.nomtol (-333) 100 100) = some (-336, -330) ∧ limitBounds (.nomtol 333 100 100) = some (329, 337)
    ∧ classify .res4 (some (.nomtol (-333) 100 100)) ⟨[], 0, false, 0, false⟩ (-330) = .pass
    ∧ classify .res4 (some (.nomtol (-333) 100 100)) ⟨[], 0, false, 0, false⟩ (-329) = .failHigh
    ∧ resistanceOf 1 (-2097148) = -209715 := by decide

/-- The worked capacitance and diode of chapter 9, and the half of R147. -/
theorem test_capacitance_and_diode :
    attemptValue .cap 4 (autoBank 0) 2500 ⟨[], 0, false, 4700, true⟩ = 467500
    ∧ attemptWish .cap (autoBank 0) ⟨[], 0, false, 4700, true⟩ = .keep
    ∧ attemptWish .cap (autoBank 0) ⟨[], 0, false, 47, true⟩ = .up
    ∧ capacitanceOf 6 3 2000 = 2
    ∧ attemptValue .diode 2 (autoBank 0) 0 ⟨[], 162513, false, 0, false⟩ = 650052
    ∧ classify .diode (some (.abs 550000 750000)) ⟨[], 162513, false, 0, false⟩ 650052 = .pass
    ∧ classify .diode (some (.abs 550000 750000)) ⟨[], 524287, true, 0, false⟩ 2097148 = .overrange := by decide

/-- The continuity table of chapter 9. -/
theorem test_continuity :
    let c := fun (isolated : Bool) (m : Int) (sat : Bool) =>
      classify .cont (some (.cont 2000 100000 isolated)) ⟨[], m, sat, 0, false⟩ (resistanceOf 1 (voltsOf m))
    resistanceOf 1 (voltsOf (-3)) = -1
    ∧ c false 500 false = .pass ∧ c true 500 false = .failLow ∧ c false (-3) false = .pass ∧ c true (-3) false = .failLow
    ∧ c false 10000 false = .marginal ∧ c true 10000 false = .marginal
    ∧ c false 300000 false = .failHigh ∧ c true 300000 false = .pass
    ∧ c false 524287 true = .failHigh ∧ c true 524287 true = .pass := by decide

/-- A word lies little-endian, low byte lowest; writing 0 removes its bytes. -/
theorem test_little_endian :
    memSetWord [] 8 0x04030201 = [(8, 1), (9, 2), (10, 3), (11, 4)] ∧ memWord [(8, 1), (9, 2), (10, 3), (11, 4)] 8 = 0x04030201
    ∧ memSetWord [(8, 1), (9, 2), (10, 3), (11, 4)] 8 0 = [] := by decide

/-! ## Registers and resets: witnesses -/

theorem witness_StepRunsFrontCommand : running.pending = [] := by decide

theorem test_reads_after_reset :
    readIdent State.reset = 0x00010334 ∧ readState State.reset = 0x01010000 ∧ readAnchor State.reset = 0
    ∧ readCommand State.reset = 0 ∧ readIrqEnable State.reset = 0 := by decide

/-- The codes of spec 12.5 at their places: GUARD_HOLD remembering BOARD_WAIT, area B, end code BOARD_LOST. -/
theorem test_state_codes :
    readState { inRun .guardHold with rc := { (inRun .guardHold).rc with
      remembered := .boardWait, endCode := .boardLost, area := .b } } = 0x06011956 := by decide

theorem witness_AnchorAndStateRegisters :
    (State.reset.rc.run = .idle ∧ (inRun .halted).rc.run = .halted)
    ∧ ((inRun .starting).rc.run ≠ .idle ∧ (inRun .starting).rc.run ≠ .halted)
    ∧ ((inRun .guardHold).rc.run ≠ .paused ∧ (inRun .guardHold).rc.stoppedReceived = false)
    ∧ ((guardAt true true (inRun .guardHold)).rc.guardLine.filtered = true ∧ running.rc.run ≠ .guardHold)
    ∧ (inRun .stopping).rc.run = .stopping ∧ (0 : Byte).toNat = 0 ∧ 6 < (7 : Byte).toNat ∧ 6 < (255 : Byte).toNat := by decide

theorem test_anchor_write :
    after (exec (.anchorWrite 4097) State.reset) (fun t => decide (t.regs.anchor = 4097)) = true
    ∧ after (exec (.anchorWrite 4097) running) (fun t => decide (t.regs.anchor = 0) && t.regs.refused) = true := by decide

theorem test_state_write_clears_by_ones :
    after (exec (.stateWrite 0x00010000) State.reset) (fun t => !t.regs.porFlag) = true
    ∧ after (exec (.stateWrite 0x000E0000) State.reset) (fun t => t.regs.porFlag) = true := by decide

/-- GUARD and NOTICE pending and enabled, MEMORY_ERROR pending only: the read answers 2 and clears GUARD alone. -/
theorem test_cause_read :
    let s := { running with
      regs := { running.regs with irqEnable := ⟨false, true, true, true, true⟩ }
      notice := { running.notice with pend := ⟨true, true, false, false, true⟩ } }
    irqLine s = true ∧ after (exec .causeRead s) (fun t =>
      decide (t.regs.causeRead = 2) && decide (t.notice.pend = ⟨true, false, false, false, true⟩)) = true := by decide

theorem witness_IrqEnableAndLine :
    (∃ t, exec .por running = .next t) ∧ (∃ t, exec .pin running = .next t) ∧ (∃ t, exec .softReset running = .next t) :=
  ⟨⟨_, rfl⟩, ⟨_, rfl⟩, ⟨_, rfl⟩⟩

theorem test_irq_enable_write :
    after (exec (.irqEnableWrite 0xFFFFFFE9) running) (fun t => decide (t.regs.irqEnable = ⟨true, false, false, true, false⟩)
      && decide (readIrqEnable t = 9)) = true := by decide

theorem test_soft_reset_keeps_counts :
    after (exec .softReset (withProbe 2 (fun r => { r with state := .landed, touch := 9, due := true }) running)) (fun t =>
      decide ((probe t 2).touch = 9) && (probe t 2).due && decide ((probe t 2).state = .unknown)
        && t.regs.softFlag && t.regs.porFlag && decide (t.link.stop = some 500)) = true
    ∧ after (exec .pin running) (fun t => t.regs.pinFlag && !t.regs.porFlag) = true := by decide

/-- Address 63 and 68 lie outside a write of the word at 64; nothing else is outstanding. -/
theorem witness_ResetEffects :
    let s := issue .areaWrite 64 (.write [1]) running
    (∀ r ∈ s.port.reqs, ∀ ws, r.body = .write ws → 63 < r.addr ∨ r.addr + 4 * ws.length ≤ 63)
    ∧ (∀ r ∈ s.port.reqs, ∀ ws, r.body = .write ws → 68 < r.addr ∨ r.addr + 4 * ws.length ≤ 68) := by
  constructor <;> intro r hr ws h <;> simp [issue, running, State.reset] at hr <;> subst hr <;> cases h <;> simp

/-! ## Starting and ending a run: witnesses -/

/-- IDLE or HALTED with an anchor written. -/
def anchored (a : Word) (r : RunState) : State := { inRun r with regs := { running.regs with anchor := a } }

/-- The greatest good anchor, and bad ones on both sides of it. -/
theorem witness_StartTaken :
    ((anchored 33550336 .idle).rc.run = .idle ∧ (anchored 33550336 .idle).regs.anchor.toNat % 4096 = 0
      ∧ (anchored 33550336 .idle).regs.anchor.toNat < 33554432)
    ∧ ((anchored 33554432 .halted).rc.run = .halted ∧ 33554432 ≤ (anchored 33554432 .halted).regs.anchor.toNat)
    ∧ ((anchored 4097 .idle).rc.run = .idle ∧ (anchored 4097 .idle).regs.anchor.toNat % 4096 ≠ 0) := by decide

theorem test_start :
    after (exec .startA (anchored 4096 .idle)) (fun t => decide (t.rc.run = .starting)
      && decide (t.port.reqs = [⟨.loading, 4096, .read 36, true, 0⟩]) && decide (t.port.epoch = 1)) = true
    ∧ after (exec .startB (anchored 4097 .idle)) (fun t => decide (t.rc.run = .halted) && decide (t.rc.endCode = .badAnchor)
      && decide (t.port.reqs = []) && t.notice.pend.runEnd) = true := by decide

/-- STARTING with a loading read in flight. -/
def loading (st : LoadStep) (words : Nat) : State :=
  issue .loading 4096 (.read words) { inRun .starting with rc := { (inRun .starting).rc with loadStep := some st } }

/-- A good anchor block at 4,096: a log of 64 records, a capture ring of 4,096 bytes, LOAD_WEAR set. -/
def withAnchorBlock (s : State) : State := withWords 4192 [64, 0, 4096] (withWords 4232 [8] s)

/-- The first, a middle and the last record of each table. -/
theorem witness_LoadingReadsInOrder :
    (∃ r ws s1, serve .loading (loading (.bank 2) 8) = some (r, ws, s1) ∧ r.live = true
      ∧ (loading (.bank 2) 8).rc.run = .starting ∧ (loading (.bank 2) 8).rc.loadStep = some (.bank 2))
    ∧ (∃ r ws s1, serve .loading (loading (.bank 3) 8) = some (r, ws, s1) ∧ r.live = true
      ∧ (loading (.bank 3) 8).rc.loadStep = some (.bank 3))
    ∧ (∃ r ws s1, serve .loading (loading .nulls 128) = some (r, ws, s1) ∧ r.live = true
      ∧ (loading .nulls 128).rc.loadStep = some .nulls)
    ∧ (∃ r ws s1, serve .loading (loading (.diversion 6) 4) = some (r, ws, s1) ∧ r.live = true
      ∧ (loading (.diversion 6) 4).rc.loadStep = some (.diversion 6))
    ∧ (∃ r ws s1, serve .loading (loading (.diversion 7) 4) = some (r, ws, s1) ∧ r.live = true
      ∧ (loading (.diversion 7) 4).rc.loadStep = some (.diversion 7) ∧ s1.settings.loadWear = false)
    ∧ (∃ r ws s1, serve .loading { loading (.diversion 7) 4 with settings := { Settings.reset with loadWear := true } }
        = some (r, ws, s1) ∧ r.live = true ∧ s1.settings.loadWear = true)
    ∧ (∃ r ws s1, serve .loading (loading .wear 16) = some (r, ws, s1) ∧ r.live = true
      ∧ (loading .wear 16).rc.loadStep = some .wear)
    ∧ (∃ r ws s1, serve .loading (loading .anchor 36) = some (r, ws, s1) ∧ r.live = true
      ∧ (loading .anchor 36).rc.loadStep = some .anchor ∧ settingsGood (parseSettings r.addr ws) = false)
    ∧ (∃ r ws s1, serve .loading (withAnchorBlock (loading .anchor 36)) = some (r, ws, s1) ∧ r.live = true
      ∧ settingsGood (parseSettings r.addr ws) = true) :=
  ⟨⟨_, _, _, rfl, rfl, rfl, rfl⟩, ⟨_, _, _, rfl, rfl, rfl⟩, ⟨_, _, _, rfl, rfl, rfl⟩, ⟨_, _, _, rfl, rfl, rfl⟩,
    ⟨_, _, _, rfl, rfl, rfl, rfl⟩, ⟨_, _, _, rfl, rfl, rfl⟩, ⟨_, _, _, rfl, rfl, rfl⟩, ⟨_, _, _, rfl, rfl, rfl, by decide⟩,
    ⟨_, _, _, rfl, rfl, by decide⟩⟩

theorem test_loading_read :
    after (exec .loadingReadComplete (withAnchorBlock (loading .anchor 36))) (fun t =>
      decide (t.rc.loadStep = some (.bank 0)) && t.notice.inForce && decide (t.settings.logSize = 64) && t.settings.loadWear
        && decide (t.settings.moveDeadline = 1) && decide (t.settings.cell = 100) && t.rc.loadedGood
        && decide (⟨.noticeFill, 4364, .write [0], true, 0⟩ ∈ t.port.reqs)) = true
    ∧ after (exec .loadingReadComplete (loading .anchor 36)) (fun t => decide (t.rc.endCode = .badAnchor) && !t.rc.loadedGood) = true := by
  decide

/-- One bank record is one read; the next is asked for at its own place, and a read that fails gives nothing (R13, R14). -/
theorem test_bank_read :
    after (exec .loadingReadComplete (withWords 4096 [0x01000200] (loading (.bank 1) 8))) (fun t =>
      decide ((bankOf t 1).start = 2) && decide ((bankOf t 1).ceiling = 1) && decide (bankOf t 0 = Bank.reset)
        && decide (t.port.reqs = [⟨.loading, 64, .read 8, true, 0⟩])) = true
    ∧ after (exec (.memoryError .loading 5) (withWords 4096 [0x01000200] (loading (.bank 1) 8))) (fun t =>
      decide (bankOf t 1 = Bank.reset) && decide (t.rc.endCode = .memoryError)) = true := by decide

/-- The edges of the clamps of a bank record, a null and a diversion entry (R10, R129, R130, R159). -/
theorem test_table_records :
    (parseBank [0x03070509, 0x00080701, 0x00C70001, 0]).k = 8 ∧ (parseBank [0x03070509, 0x00080701, 0x00C70001, 0]).floor = 6
    ∧ (parseBank [0x03070509, 0x00080701, 0x00C70001, 0]).autoInForce = false
    ∧ (parseBank [0x03070509, 0x00080701, 0x00C70001, 0]).startInForce = 5
    ∧ (parseBank [0x03070509, 0x00080701, 0x00C70001, 0]).retouchLimit = 7
    ∧ (parseBank [0x03070509, 0x00080701, 0x00C70001, 0]).vth = 200
    ∧ (parseBank [0x03070509, 0x00080701, 0x00C70001, 0]).tMax = 1
    ∧ (parseBank [0x04020608, 1]).startInForce = 4 ∧ (parseBank [0x04020608, 1]).autoInForce = true
    ∧ ((parseNulls 100000 (List.replicate 63 0 ++ [100001])).get 7).get 7 = 100000
    ∧ parseDivEntry [0x01100402, 192] = ⟨.halt, 192, 3, 15, .halt⟩ ∧ parseDivEntry [0x00020101, 64] = ⟨.divert, 64, 1, 2, .continue_⟩ := by
  decide

/-- Each finding of R18, the first that applies, and a start that succeeds in each way. -/
theorem witness_StartChecksAndRunBegin :
    let s := loading .runWord 16
    (∃ r ws s1, serve .loading (withWords 4104 [63] s) = some (r, ws, s1) ∧ r.live = true ∧ s.rc.run = .starting
      ∧ s.rc.loadStep = some .runWord ∧ fieldNat ws 8 % 64 ≠ 0)
    ∧ (∃ r ws s1, serve .loading s = some (r, ws, s1) ∧ r.live = true ∧ (fieldWord ws 0).getLsbD 0 = false)
    ∧ (∃ r ws s1, serve .loading { withWords 4096 [1] s with link := { s.link with up := false } } = some (r, ws, s1)
      ∧ r.live = true ∧ fieldNat ws 8 % 64 = 0 ∧ (fieldWord ws 0).getLsbD 0 = true ∧ s1.link.up = false
      ∧ s1.rc.haltSeqs = [])
    ∧ (∃ r ws s1, serve .loading (withWords 4096 [1] s) = some (r, ws, s1) ∧ r.live = true
      ∧ (fieldWord ws 0).getLsbD 0 = true ∧ s1.link.up = true ∧ s1.rc.boardLine.filtered = true ∧ s1.rc.guardSeenOpen = false)
    ∧ (∃ r ws s1, serve .loading (withWords 4096 [1] (boardAt false false { s with
        rc := { s.rc with guardSeenOpen := true } })) = some (r, ws, s1) ∧ r.live = true
      ∧ s1.rc.boardLine.filtered = false ∧ s1.rc.guardSeenOpen = true)
    ∧ (∃ r ws s1, serve .loading (queued 15 s) = some (r, ws, s1) ∧ s1.notice.inForce = true ∧ s1.notice.queue.length < 16)
    ∧ (∃ r ws s1, serve .loading (queued 16 s) = some (r, ws, s1) ∧ s1.notice.inForce = true ∧ 16 ≤ s1.notice.queue.length)
    ∧ (∃ r ws s1, serve .loading (queued 15 { withWords 4096 [1] s with
        rc := { s.rc with underWay := false }, link := { s.link with up := false } }) = some (r, ws, s1)
      ∧ (fieldWord ws 0).getLsbD 0 = true ∧ s1.link.up = false ∧ s1.rc.haltSeqs = [] ∧ s1.rc.underWay = false
      ∧ s1.notice.inForce = true ∧ s1.notice.queue.length < 16) :=
  ⟨⟨_, _, _, rfl, rfl, rfl, rfl, by decide⟩, ⟨_, _, _, rfl, rfl, by decide⟩, ⟨_, _, _, rfl, rfl, by decide, by decide, rfl, rfl⟩,
    ⟨_, _, _, rfl, rfl, by decide, rfl, rfl, rfl⟩, ⟨_, _, _, rfl, rfl, rfl, rfl⟩, ⟨_, _, _, rfl, rfl, by decide⟩,
    ⟨_, _, _, rfl, rfl, by decide⟩, ⟨_, _, _, rfl, by decide, rfl, rfl, rfl, rfl, by decide⟩⟩

/-- The notices of the outcomes of R18 (R181). -/
theorem test_start_notices :
    let s := ringOn (loading .runWord 16)
    let q := fun s => match exec .loadingReadComplete s with
      | .next t => t.notice.queue
      | .fault _ | .refused _ => []
    q s = [⟨.runEnded, 3, 0, 0, .plain⟩]
    ∧ q { withWords 4096 [1] s with rc := { s.rc with underWay := false }, link := { s.link with up := false } }
      = [⟨.runEnded, 8, 0, 0, .halt⟩]
    ∧ q (withWords 4096 [1] (boardAt false false s)) = [⟨.boardWaitEntered, 1, 0, 0, .plain⟩] := by decide

theorem witness_StartChecksAndRunBegin_probes :
    (probe (withProbe 3 (fun r => { r with state := .faulted }) running) 3).state = .faulted
    ∧ (probe running 3).state ≠ .faulted
    ∧ (∃ r ∈ (readRelease running).port.reqs, r.kind ≠ .fetch) := ⟨by decide, by decide, _, .head _, by decide⟩

/-- GUARD_HOLD that has seen STOPPED and a closed guard, remembering a state. -/
def holding (r : RunState) : State :=
  { inRun .guardHold with rc := { (inRun .guardHold).rc with remembered := r, stoppedReceived := true } }

theorem witness_ContinueAndRoom :
    (inRun .paused).rc.run = .paused
    ∧ ((holding .running).rc.run = .guardHold ∧ (holding .running).rc.stoppedReceived = true
      ∧ (holding .running).rc.guardLine.filtered = false)
    ∧ (holding .running).rc.remembered = .running ∧ (holding .paused).rc.remembered = .paused
    ∧ (holding .chainWait).rc.remembered = .chainWait ∧ (holding .boardWait).rc.remembered = .boardWait := by decide

theorem test_continue :
    after (exec .continueRun (holding .chainWait)) (fun t => decide (t.rc.run = .chainWait)
      && decide (t.port.reqs = [⟨.ready, 576, .read 1, true, 0⟩])) = true
    ∧ after (exec .continueRun (inRun .guardHold)) (fun t => decide (t.rc.run = .guardHold) && t.regs.refused) = true := by decide

theorem witness_StopEntersStopping :
    let s := measuring (stepRec .acquiring .res2) (res2Entry 1 .measuring .contactOk)
    (s.rc.run ≠ .idle ∧ s.rc.run ≠ .stopping ∧ s.rc.run ≠ .halted ∧ s.unit.step ≠ none)
    ∧ (inRun .halted).rc.run = .halted := by decide

/-- STOPPING with probes to park and with none, the wear table known or not, a run under way or not, the ring in force or not. -/
theorem witness_StopEntersStopping_parking :
    let s := inRun .stopping
    (s.rc.run = .stopping ∧ s.rc.stopSeq = none ∧ (probe s 7).state ≠ .parked ∧ s.rc.parking.get 7 ≠ .failed
      ∧ s.rc.parkGivenUp = false ∧ (probe s 7).order = none ∧ s.link.stop = none ∧ s.rc.guardLine.filtered = false
      ∧ s.link.up = true)
    ∧ requestOrder 7 .park (guardAt true true s) = none
    ∧ ((∀ p, (probe (allAtPark s) p).order = none) ∧ (allAtPark s).rc.haltSeqs = []
      ∧ (∀ p, (probe (allAtPark s) p).state = .parked) ∧ (allAtPark s).rc.loadedGood = true
      ∧ (allAtPark s).rc.pendingEnd ≠ .badAnchor ∧ (allAtPark s).rc.underWay = true ∧ (allAtPark s).notice.inForce = false)
    ∧ (ringOn s).notice.inForce = true := by decide

theorem test_stopping_completes :
    let s := allAtPark (inRun .stopping)
    let t := { s with rc := { s.rc with loadedGood := false } }
    let u := { t with rc := { t.rc with underWay := false, pendingEnd := .aborted, endCauses := 3 } }
    (stoppingSettle s).port.reqs = [⟨.stoppingWrite, 0, .write [0, 0], true, 0⟩]
    ∧ (stoppingSettle t).port.reqs = [⟨.stoppingWrite, 544, .write [0, 0, 0, 0, 0], true, 0⟩]
    ∧ (stoppingSettle (ringOn u)).notice.queue = [⟨.runEnded, 2, 3, 0, .stopping⟩]
    ∧ (stoppingSettle u).rc.run = .idle := by decide

theorem test_stop :
    after (exec .stop (measuring (stepRec .acquiring .res2) (res2Entry 1 .measuring .contactOk))) (fun t =>
      decide (t.rc.run = .stopping) && decide (t.window = []) && !t.unit.sourceOn && decide ((probe t 7).order = some .park)) = true
    ∧ after (exec .stop State.reset) (fun t => t.regs.refused && decide (t.rc.run = .idle)) = true := by decide

theorem witness_ContinueAndRoom_room :
    State.reset.rc.run = .idle ∧ (inRun .starting).rc.run = .starting ∧ (inRun .halted).rc.run = .halted
    ∧ ((inRun .stopping).rc.run ≠ .idle ∧ (inRun .stopping).rc.run ≠ .starting ∧ (inRun .stopping).rc.run ≠ .halted) := by decide

/-- A ROOM beside a read of its own in flight asks for one more; beside the room test's read it reads at once. -/
theorem test_room :
    after (exec .room (inRun .chainWait)) (fun t => decide (t.port.reqs =
      [⟨.release, 260, .read 1, true, 0⟩, ⟨.ready, 576, .read 1, true, 0⟩])) = true
    ∧ after (exec .room (readRelease running)) (fun t => t.log.readAgain && decide (t.port.reqs.length = 1)) = true
    ∧ after (exec .room (waitForRoom running)) (fun t => !t.log.readAgain && decide (t.port.reqs.length = 2)) = true := by decide

/-! ## The end of an area and chaining: witnesses -/

/-- A run whose fetcher holds an entry. -/
def heldRun (h : HeldEntry) : State :=
  { running with fetch := { running.fetch with held := some h, stack := [⟨64, 2, 10, 20, 1⟩], index := 5 } }

theorem witness_HeldEntriesReleased :
    ((heldRun .ret).fetch.held = some .ret ∧ (heldRun .ret).window = [] ∧ (heldRun .ret).rc.run = .running
      ∧ (heldRun .ret).fetch.stack = [] ++ [⟨64, 2, 10, 20, 1⟩])
    ∧ (heldRun .endOfArea).fetch.held = some .endOfArea
    ∧ ((heldRun .pause).fetch.held = some .pause ∧ (heldRun .pause).notice.inForce = false)
    ∧ ((queued 15 (heldRun .pause)).notice.inForce = true ∧ (queued 15 (heldRun .pause)).notice.queue.length < 16)
    ∧ 16 ≤ (queued 16 (heldRun .pause)).notice.queue.length := by decide

theorem test_held_entries :
    after (exec .returnReleased (heldRun .ret)) (fun t => decide (t.fetch.list = 64) && decide (t.fetch.index = 2)
      && decide (t.fetch.stack = []) && decide (t.fetch.txn = some .entry)) = true
    ∧ after (exec .endDrained (heldRun .endOfArea)) (fun t => decide (t.rc.areaSeq = some .summary) && t.fetch.stopped) = true
    ∧ after (exec .pauseDrained (ringOn (heldRun .pause))) (fun t => decide (t.rc.run = .paused) && decide (t.fetch.index = 6)
      && decide (t.notice.queue = [⟨.paused, 0, 0, 0, .plain⟩])) = true := by decide

/-- A run whose area-completion write is in flight. -/
def areaWriting (ph : AreaPhase) : State :=
  issue .areaWrite 544 (.write [1]) { running with fetch := Fetcher.reset, rc := { running.rc with areaSeq := some ph } }

/-- A run about to make the move of R21. -/
def moving (follow boardChange : Bool) : State :=
  { running with rc := { running.rc with areaSeq := some .move, follow := follow, boardChange := boardChange } }

/-- The AREA_DONE notice in flight. -/
def areaNoticeInFlight : State :=
  noticeInFlight .area { running with rc := { running.rc with areaSeq := some .notice } }

theorem witness_AreaWritesAndMove :
    (∃ r ws s1, serve .areaWrite (areaWriting .summary) = some (r, ws, s1) ∧ r.live = true
      ∧ (areaWriting .summary).rc.areaSeq = some .summary)
    ∧ (∃ r ws s1, serve .areaWrite (areaWriting .ready) = some (r, ws, s1) ∧ r.live = true
      ∧ (areaWriting .ready).rc.areaSeq = some .ready)
    ∧ (∃ r ws s1, serve .areaWrite (areaWriting .doneCount) = some (r, ws, s1) ∧ r.live = true
      ∧ (areaWriting .doneCount).rc.areaSeq = some .doneCount)
    ∧ (∃ r ws s1, serve .notice areaNoticeInFlight = some (r, ws, s1) ∧ r.live = true
      ∧ areaNoticeInFlight.rc.areaSeq = some .notice ∧ areaNoticeInFlight.notice.queue = [⟨.paused, 0, 0, 0, .area⟩])
    ∧ (∃ r ws s1, serve .areaWrite (queued 15 (areaWriting .doneCount)) = some (r, ws, s1) ∧ s1.notice.inForce = true
      ∧ s1.notice.queue.length < 16)
    ∧ (∃ r ws s1, serve .areaWrite (queued 16 (areaWriting .doneCount)) = some (r, ws, s1) ∧ 16 ≤ s1.notice.queue.length)
    ∧ ((moving false true).rc.areaSeq = some .move ∧ (moving false true).rc.run = .running
      ∧ (moving false true).rc.follow = false)
    ∧ ((moving true true).rc.follow = true ∧ (moving true true).rc.boardChange = true)
    ∧ ((moving true false).rc.follow = true ∧ (moving true false).rc.boardChange = false) :=
  ⟨⟨_, _, _, rfl, rfl, rfl⟩, ⟨_, _, _, rfl, rfl, rfl⟩, ⟨_, _, _, rfl, rfl, rfl⟩, ⟨_, _, _, rfl, rfl, rfl, rfl⟩,
    ⟨_, _, _, rfl, rfl, by decide⟩, ⟨_, _, _, rfl, by decide⟩, by decide⟩

theorem test_area_write :
    after (exec .areaWriteComplete (areaWriting .summary)) (fun t => decide (memWord t.mem 544 = 1)
      && decide (t.rc.areaSeq = some .ready) && decide (t.port.reqs = [⟨.areaWrite, 512, .write [0], true, 0⟩])) = true
    ∧ after (exec .areaWriteComplete areaNoticeInFlight) (fun t => decide (t.rc.run = .stopping)) = true
    ∧ after (exec .areaWriteComplete (ringOn (areaWriting .doneCount))) (fun t =>
      decide (t.notice.queue = [⟨.areaDone, 0, 1, 0, .area⟩])) = true := by decide

theorem test_area_move :
    (areaMove (ringOn (moving true true))).notice.queue = [⟨.boardWaitEntered, 2, 0, 0, .plain⟩]
    ∧ (areaMove (ringOn (moving true false))).notice.queue = [⟨.chainWaitEntered, 1, 0, 0, .plain⟩]
    ∧ (areaMove (queued 16 (moving true false))).notice.held = [⟨.chainWaitEntered, 1, 0, 0, .plain⟩] := by decide

/-- A board wait of a kind with the probes parked. -/
def waiting (k : WaitKind) (present seen : Bool) : State :=
  let s := boardAt present present (inRun .boardWait)
  { s with rc := { s.rc with waitKind := k, seenAbsent := seen }, link := ⟨Per.all { Probe.reset with state := .parked }, none, true, []⟩ }

/-- A board change with one probe not parked. -/
def unparked (p : ProbeNo) : State := withProbe p (fun r => { r with state := .lifted }) (waiting .change true true)

theorem witness_BoardWaitEnds :
    ((waiting .seatAtStart false false).rc.run = .boardWait ∧ (waiting .seatAtStart false false).rc.waitKind ≠ .change
      ∧ (waiting .seatAtStart false false).rc.boardLine.filtered = false)
    ∧ ((waiting .seatAtSwitch true false).rc.waitKind = .seatAtSwitch
      ∧ (waiting .seatAtSwitch true false).rc.boardLine.filtered = true)
    ∧ ((waiting .seatAtStart true false).rc.waitKind = .seatAtStart)
    ∧ ((waiting .change true true).rc.waitKind = .change ∧ (boardSettle (waiting .change true true)).rc.run = .chainWait)
    ∧ (boardSettle (waiting .change true false)).rc.run = .boardWait
    ∧ (waiting .change false false).rc.boardLine.filtered = false
    ∧ (∀ p, (probe (waiting .change true true) p).state = .parked)
    ∧ ((probe (unparked 7) 7).state ≠ .parked ∧ (unparked 7).rc.parking.get 7 ≠ .failed ∧ (probe (unparked 7) 7).order = none
      ∧ (unparked 7).link.stop = none ∧ (unparked 7).rc.guardLine.filtered = false ∧ (unparked 7).link.up = true)
    ∧ requestOrder 7 .park (guardAt true true (unparked 7)) = none := by decide

/-- A board change parks what is not parked and waits; over, it asks for its notice; and a read that ROOM asks for while the wait for
the first board goes on is made after run begin too (R4, R171). -/
theorem test_board_wait :
    (probe (boardSettle (unparked 7)) 7).order = some .park ∧ (boardSettle (unparked 7)).rc.parking.get 7 = .issued
    ∧ (boardSettle (unparked 7)).rc.run = .boardWait
    ∧ (boardSettle (ringOn (waiting .change true true))).notice.queue = [⟨.chainWaitEntered, 1, 0, 0, .plain⟩]
    ∧ (let s := readRelease (waiting .seatAtStart true false)
       after (exec .releaseReadComplete (boardSettle { s with log := { s.log with readAgain := true } })) fun t =>
         !t.log.readAgain && t.port.reqs.any fun r => decide (r.kind = .release) && r.live) = true := by decide

/-- CHAIN_WAIT with a READY read in flight. -/
def readyReading : State := issue .ready 576 (.read 1) (inRun .chainWait)

theorem witness_ChainWaitAndAreaSwitch :
    ((inRun .chainWait).rc.run = .chainWait ∧ hasLive .runWord (inRun .chainWait) = false
      ∧ hasLive .ready (inRun .chainWait) = false)
    ∧ (∃ r w s1, serve .ready readyReading = some (r, [w], s1) ∧ r.live = true ∧ readyReading.rc.readyAgain = false
      ∧ w.getLsbD 0 = false)
    ∧ (∃ r w s1, serve .ready (withWords 576 [1] readyReading) = some (r, [w], s1) ∧ r.live = true ∧ w.getLsbD 0 = true
      ∧ hasLive .runWord s1 = false)
    ∧ (∃ r w s1, serve .ready { readyReading with rc := { readyReading.rc with readyAgain := true } } = some (r, [w], s1)
      ∧ r.live = true) :=
  ⟨by decide, ⟨_, _, _, rfl, rfl, rfl, by decide⟩, ⟨_, _, _, rfl, rfl, by decide, by decide⟩, ⟨_, _, _, rfl, rfl⟩⟩

theorem test_ready :
    after (exec .readyReadComplete (withWords 576 [1] readyReading)) (fun t =>
      decide (t.port.reqs = [⟨.runWord, 576, .read 16, true, 0⟩])) = true
    ∧ after (exec .readyPoll readyReading) (fun t => decide (t.port.reqs.length = 1)) = true := by decide

/-- CHAIN_WAIT with the other run word's read in flight. -/
def switching (present : Bool) : State := issue .runWord 576 (.read 16) (boardAt present present (inRun .chainWait))

theorem witness_ChainWaitAndAreaSwitch_switch :
    (∃ r ws s1, serve .runWord (withWords 584 [1] (switching true)) = some (r, ws, s1) ∧ r.live = true
      ∧ (switching true).rc.run = .chainWait ∧ fieldNat ws 8 % 64 ≠ 0)
    ∧ (∃ r ws s1, serve .runWord (withWords 584 [128] (switching true)) = some (r, ws, s1) ∧ r.live = true
      ∧ fieldNat ws 8 % 64 = 0 ∧ s1.rc.boardLine.filtered = true)
    ∧ (∃ r ws s1, serve .runWord (switching false) = some (r, ws, s1) ∧ r.live = true ∧ s1.rc.boardLine.filtered = false) :=
  ⟨⟨_, _, _, rfl, rfl, rfl, by decide⟩, ⟨_, _, _, rfl, rfl, by decide, rfl⟩, ⟨_, _, _, rfl, rfl, rfl⟩⟩

theorem test_area_switch :
    after (exec .runWordReadComplete (withWords 584 [128] (switching true))) (fun t => decide (t.rc.area = .b)
      && decide (t.rc.run = .running) && decide (t.fetch.list = 128)
      && decide (t.port.reqs = [⟨.fetch, 128, .read 16, true, 0⟩])) = true
    ∧ after (exec .runWordReadComplete (ringOn (switching false))) (fun t =>
      decide (t.notice.queue = [⟨.boardWaitEntered, 1, 0, 0, .plain⟩])) = true := by decide

/-- A closing write of STOPPING in flight. -/
def closing (ph : ClosePhase) (under : Bool) : State :=
  issue .stoppingWrite 0 (.write [0, 0]) { inRun .stopping with
    rc := { (inRun .stopping).rc with stopSeq := some ph, underWay := under, pendingEnd := .aborted } }

/-- The RUN_ENDED notice of STOPPING in flight. -/
def closingNotice : State :=
  noticeInFlight .stopping { inRun .stopping with rc := { (inRun .stopping).rc with stopSeq := some .notice } }

/-- A write of a HALTED entry in flight. -/
def haltClosing (ph : ClosePhase) (under : Bool) : State :=
  issue .haltWrite 0 (.write [0, 0]) { inRun .halted with
    rc := { (inRun .halted).rc with haltSeqs := [⟨ph, 0, 512, under, Summary.zero, .linkLost, 0⟩] } }

theorem witness_HaltedEntryEffects :
    (inRun .halted).rc.run = .halted ∧ running.rc.run ≠ .halted ∧ (EndCode.linkLost ≠ .badAnchor)
    ∧ (running.rc.loadedGood = true ∧ running.rc.run ≠ .starting ∧ running.rc.haltSeqs = []) := by decide

/-- The first, the seventh and the last wear record, the summary and the notice. -/
theorem witness_ClosingWritesInOrder :
    (∃ r ws s1, serve .stoppingWrite (closing (.wear 6) true) = some (r, ws, s1) ∧ r.live = true
      ∧ (closing (.wear 6) true).rc.stopSeq = some (.wear 6))
    ∧ (∃ r ws s1, serve .stoppingWrite (closing (.wear 7) true) = some (r, ws, s1) ∧ r.live = true
      ∧ (closing (.wear 7) true).rc.stopSeq = some (.wear 7) ∧ (closing (.wear 7) true).rc.underWay = true)
    ∧ (∃ r ws s1, serve .stoppingWrite (closing (.wear 7) false) = some (r, ws, s1) ∧ r.live = true
      ∧ (closing (.wear 7) false).rc.underWay = false ∧ s1.notice.inForce = false)
    ∧ (∃ r ws s1, serve .stoppingWrite (ringOn (closing .summary true)) = some (r, ws, s1) ∧ r.live = true
      ∧ (closing .summary true).rc.stopSeq = some .summary ∧ s1.notice.inForce = true)
    ∧ (∃ r ws s1, serve .notice closingNotice = some (r, ws, s1) ∧ r.live = true
      ∧ closingNotice.rc.stopSeq = some .notice ∧ closingNotice.notice.queue = [⟨.paused, 0, 0, 0, .stopping⟩])
    ∧ (∃ r ws s1, serve .stoppingWrite (queued 16 (closing .summary true)) = some (r, ws, s1) ∧ s1.notice.inForce = true
      ∧ 16 ≤ s1.notice.queue.length)
    ∧ (∃ r ws s1 h, serve .haltWrite (haltClosing (.wear 0) true) = some (r, ws, s1)
      ∧ (haltClosing (.wear 0) true).rc.haltSeqs = [h] ∧ h.phase = .wear 0)
    ∧ (∃ r ws s1 h, serve .haltWrite (haltClosing (.wear 7) true) = some (r, ws, s1)
      ∧ (haltClosing (.wear 7) true).rc.haltSeqs = [h] ∧ h.phase = .wear 7 ∧ h.underWay = true)
    ∧ (∃ r ws s1 h, serve .haltWrite (ringOn (haltClosing .summary true)) = some (r, ws, s1)
      ∧ (haltClosing .summary true).rc.haltSeqs = [h] ∧ h.phase = .summary ∧ s1.notice.inForce = true
      ∧ s1.notice.queue.length < 16) :=
  ⟨⟨_, _, _, rfl, rfl, rfl⟩, ⟨_, _, _, rfl, rfl, rfl, rfl⟩, ⟨_, _, _, rfl, rfl, rfl, rfl⟩, ⟨_, _, _, rfl, rfl, rfl, rfl⟩,
    ⟨_, _, _, rfl, rfl, rfl, rfl⟩, ⟨_, _, _, rfl, rfl, by decide⟩, ⟨_, _, _, _, rfl, rfl, rfl⟩,
    ⟨_, _, _, _, rfl, rfl, rfl, rfl⟩, ⟨_, _, _, _, rfl, rfl, rfl, rfl, by decide⟩⟩

theorem test_closing_writes :
    after (exec .stoppingWriteComplete closingNotice) (fun t => decide (t.rc.run = .idle) && t.notice.pend.runEnd) = true
    ∧ after (exec .stoppingWriteComplete (queued 16 (closing .summary true))) (fun t =>
      decide (t.notice.held = [⟨.runEnded, 2, 0, 0, .stopping⟩]) && decide (t.rc.stopSeq = some .notice)) = true
    ∧ after (exec .haltWriteComplete (haltClosing (.wear 0) true)) (fun t => decide (t.port.reqs =
      [⟨.haltWrite, 8, .write [0, 0], true, 0⟩])) = true := by decide

/-! ## The lines, the link and the time stamp: witnesses -/

theorem witness_LevelsAndGuardClosing :
    (State.reset.rc.guardLine.taken = false ∧ State.reset.rc.boardLine.taken = false)
    ∧ (lineOf .guard running).taken = true
    ∧ ((guardAt false true running).rc.guardLine.taken = true ∧ (guardAt false true running).rc.guardLine.raw = false
      ∧ (guardAt false true running).rc.guardLine.filtered = true)
    ∧ (guardAt false true running).notice.inForce = false
    ∧ ((ringOn (guardAt false true running)).rc.run ≠ .idle ∧ (ringOn (guardAt false true running)).notice.inForce = true
      ∧ (ringOn (guardAt false true running)).notice.queue.length < 16) := by decide

theorem test_levels :
    after (exec (.rawLineChange .board true) State.reset) (fun t => t.rc.boardLine.raw && !t.rc.boardLine.filtered) = true
    ∧ after (exec (.firstLevelTaken .guard) { State.reset with rc := { State.reset.rc with guardLine := ⟨false, true, false⟩ } })
      (fun t => decide (t.rc.guardLine = ⟨false, false, true⟩) && !t.notice.pend.guard) = true
    ∧ after (exec .guardClosed (ringOn (guardAt false true (inRun .guardHold)))) (fun t => decide (t.rc.run = .guardHold)
      && t.notice.pend.guard && !t.rc.guardLine.filtered
      && decide (t.notice.queue = [⟨.guardClosed, 6, 0, 0, .plain⟩])) = true := by decide

/-- The guard about to open, a probe moving and another standing. -/
def opening (r : RunState) : State :=
  ringOn (guardAt true false (withProbe 1 (ordered (.move 5 6)) (withProbe 0 (standingAt 0 0) (inRun r))))

/-- The same with the unit measuring and a contact check held back for each of the two probes. -/
def openingMeasured : State :=
  let s := opening .running
  { s with
    unit := { s.unit with step := some (stepRec .acquiring .res2), sourceOn := true }
    checks := (s.checks.set 0 ⟨none, some ⟨1, 0, 0, true⟩⟩).set 1 ⟨none, some ⟨1, 1, 5, true⟩⟩ }

theorem witness_GuardOpeningStops :
    ((opening .running).rc.guardLine.taken = true ∧ (opening .running).rc.guardLine.raw = true
      ∧ (opening .running).rc.guardLine.filtered = false)
    ∧ (opening .running).link.stop = none ∧ (opening .running).link.up = true
    ∧ (probe (opening .running) 1).order ≠ none ∧ (probe (opening .running) 0).order = none
    ∧ (opening .stopping).rc.run = .stopping ∧ (opening .idle).rc.run = .idle
    ∧ (opening .halted).notice.inForce = true ∧ (opening .halted).notice.queue.length < 16
    ∧ openingMeasured.unit.step ≠ none := by decide

/-- The deferred check of the standing probe starts as the unit becomes idle, that of the voided one is dropped (R121). -/
theorem test_deferred_checks :
    after (exec .guardOpened openingMeasured) (fun t => decide (t.checks.get 0 = ⟨some ⟨1, 0, 0, true⟩, none⟩)
      && decide (t.checks.get 1 = ⟨none, none⟩) && !t.unit.sourceOn) = true := by decide

theorem test_guard_opened :
    after (exec .guardOpened (opening .chainWait)) (fun t => decide (t.rc.run = .guardHold) && decide (t.rc.remembered = .chainWait)
      && decide (t.link.stop = some 500) && decide ((probe t 1).state = .unknown) && decide ((probe t 0).state = .landed)
      && decide (t.notice.queue = [⟨.guardOpened, 4, 0, 0, .plain⟩])) = true
    ∧ after (exec .guardOpened (opening .starting)) (fun t => decide (t.rc.run = .starting) && t.rc.guardSeenOpen) = true := by
  decide

theorem test_guard_opened_stopping :
    after (exec .guardOpened (opening .stopping)) (fun t => t.rc.parkGivenUp && !t.rc.guardSeenOpen) = true := by decide

/-- A board about to be lost. -/
def losing (r remembered : RunState) : State :=
  let s := boardAt false true (inRun r)
  { s with rc := { s.rc with remembered := remembered } }

theorem witness_BoardLevelChanges :
    ((losing .running .idle).rc.boardLine.taken = true ∧ (losing .running .idle).rc.boardLine.raw = false
      ∧ (losing .running .idle).rc.boardLine.filtered = true ∧ (losing .running .idle).rc.run = .running
      ∧ (losing .running .idle).link.up = true ∧ (losing .running .idle).link.stop = none)
    ∧ ((losing .guardHold .paused).rc.run = .guardHold ∧ (losing .guardHold .paused).rc.remembered = .paused)
    ∧ ((losing .guardHold .chainWait).rc.remembered ≠ .running ∧ (losing .guardHold .chainWait).rc.remembered ≠ .paused)
    ∧ ((losing .stopping .idle).rc.run ≠ .guardHold)
    ∧ ((boardAt true false running).rc.boardLine.taken = true ∧ (boardAt true false running).rc.boardLine.raw = true
      ∧ (boardAt true false running).rc.boardLine.filtered = false) := by decide

theorem test_board_levels :
    after (exec .boardLost (losing .paused .idle)) (fun t => decide (t.rc.endCode = .boardLost) && decide (t.link.stop = some 500)) = true
    ∧ after (exec .boardLost (losing .chainWait .idle)) (fun t => decide (t.rc.run = .chainWait) && decide (t.link.stop = none)) = true
    ∧ after (exec .boardSeated (boardAt true false (waiting .seatAtSwitch false false))) (fun t => decide (t.rc.run = .running)) = true
    ∧ after (exec .boardSeated (boardAt true false (waiting .change false true))) (fun t => decide (t.rc.run = .chainWait)) = true := by
  decide

theorem witness_LinkChanges :
    (running.link.up = true ∧ running.rc.run ≠ .idle ∧ running.rc.run ≠ .halted)
    ∧ ((inRun .halted).rc.run = .halted)
    ∧ (State.reset.link.up = false ∧ State.reset.link.stop = none) := by decide

theorem test_link :
    after (exec .linkDown running) (fun t => decide (t.rc.endCode = .linkLost) && !t.link.up) = true
    ∧ after (exec .linkUp State.reset) (fun t => t.link.up && decide (t.link.stop = some 500)) = true := by decide

/-- A run at a time. -/
def atTime (w : Word) : State := { running with rc := { running.rc with time := w } }

theorem witness_TimeStampAdvances :
    State.reset.rc.run = .idle ∧ ((atTime 4294967294).rc.run ≠ .idle ∧ (atTime 4294967294).rc.time.toNat < 4294967295)
    ∧ (atTime 4294967295).rc.time.toNat = 4294967295
    ∧ ((ringOn (atTime 4294967295)).notice.inForce = true ∧ (ringOn (atTime 4294967295)).notice.queue.length < 16) := by decide

theorem test_time_stamp :
    after (exec .timeStampTick (atTime 4294967294)) (fun t => decide (t.rc.time = 4294967295)) = true
    ∧ after (exec .timeWrap (ringOn (atTime 4294967295))) (fun t => decide (t.rc.time = 0)
      && decide (t.notice.queue = [⟨.timeWrap, 0, 0, 0, .plain⟩])) = true := by decide

/-! ## Reports, orders and fetching: witnesses -/

/-- A run whose step has an order outstanding for P0. -/
def ordering (o : Order) (rs : RoleState) : State :=
  withProbe 0 (ordered o) (withWindow [res2Entry 1 .pending rs] running)

/-- A run whose service entry has its order outstanding for P0. -/
def servicing (k : EntryKind) (o : Order) : State :=
  withProbe 0 (ordered o) (withWindow [serviceEntryOf k 0 .ordered] running)

theorem witness_OrdersComplete :
    (∃ e i, (probe (ordering (.move 0 0) .ordered) 0).order = some (.move 0 0)
      ∧ holder (ordering (.move 0 0) .ordered) 0 = some e ∧ owningRole e 0 = some i)
    ∧ (∃ e i, (probe (ordering (.retouch 10 0) .retouching) 0).order = some (.retouch 10 0)
      ∧ holder (ordering (.retouch 10 0) .retouching) 0 = some e ∧ owningRole e 0 = some i)
    ∧ (∃ e, holder (ordering (.move 0 0) .waiting) 0 = some e ∧ owningRole e 0 = none)
    ∧ (holder (withProbe 0 (ordered (.move 0 0)) running) 0 = none)
    ∧ (probe (ordering .lift .waiting) 0).order = some .lift
    ∧ (∃ e, (probe (servicing .park .park) 0).order = some .park ∧ holder (servicing .park .park) 0 = some e
      ∧ e.kind = .park ∧ e.state = .pending ∧ ∀ m ∈ e.members, (m.probe = 0 ∧ m.state = .ordered) ∨ m.state = .complete)
    ∧ (∃ e, (probe (servicing .clean (.clean 2)) 0).order = some (.clean 2) ∧ holder (servicing .clean (.clean 2)) 0 = some e
      ∧ e.kind = .clean ∧ e.state = .pending ∧ ∀ m ∈ e.members, (m.probe = 0 ∧ m.state = .ordered) ∨ m.state = .complete) :=
  ⟨⟨_, _, rfl, rfl, rfl⟩, ⟨_, _, rfl, rfl, rfl⟩, ⟨_, rfl, by decide⟩, rfl, rfl, ⟨_, rfl, rfl, rfl, rfl, by decide⟩,
    ⟨_, rfl, rfl, rfl, rfl, by decide⟩⟩

/-- The touch limit reached, the miss limit reached, and both: the reasons of the service-due test (R116). -/
theorem witness_OrdersComplete_service :
    let s := ordering (.move 0 0) .ordered
    (TouchDue (limited 1 0 s).settings 1 ∧ ¬MissDue (limited 1 0 s).settings 0)
    ∧ (¬TouchDue (limited 2 3 s).settings 1 ∧ MissDue (limited 2 3 s).settings 3)
    ∧ (TouchDue (limited 1 3 s).settings 1 ∧ MissDue (limited 1 3 s).settings 3)
    ∧ (probe (limited 1 3 s) 0).due = false ∧ (limited 1 3 s).notice.inForce = true
    ∧ (limited 1 3 s).notice.queue.length < 16 := by
  unfold TouchDue MissDue; decide

/-- A touch count that stays at 65,535 is tested too (log entry 35). -/
theorem test_service_due :
    let s := ordering (.move 0 0) .ordered
    after (exec (.landed 0 5) (limited 1 0 s)) (fun t => (probe t 0).due
      && decide (t.notice.queue = [⟨.serviceDue, 0, 1, 0, .plain⟩])) = true
    ∧ after (exec (.landed 0 5) (limited 65535 3 (withProbe 0 (fun r => { r with touch := 65535, miss := 3 }) s))) (fun t =>
      decide ((probe t 0).touch = 65535) && decide (t.notice.queue = [⟨.serviceDue, 0, 3, 0, .plain⟩])) = true := by decide

theorem test_landed :
    after (exec (.landed 0 5) (ordering (.move 0 0) .ordered)) (fun t => decide ((probe t 0).touch = 1)
      && decide ((t.checks.get 0).running = some ⟨1, 0, 5, true⟩) && decide ((probe t 0).state = .landed)) = true
    ∧ after (exec (.landed 0 4) (ordering (.move 0 0) .ordered)) (fun t => decide (t.rc.summary.stale = 1)
      && decide ((probe t 0).state = .moving)) = true := by decide

theorem test_other_reports :
    after (exec (.lifted 0 5) (withProbe 0 (ordered .lift) running)) (fun t => decide ((probe t 0).state = .lifted)) = true
    ∧ after (exec (.parked 0 5) (servicing .park .park)) (fun t => decide ((probe t 0).state = .parked)
      && decide ((t.window.map (·.state)) = [.done])) = true
    ∧ after (exec (.cleaned 0 5) (withProbe 0 (fun r => { r with touch := 8, due := true }) (servicing .clean (.clean 2)))) (fun t =>
      decide ((probe t 0).touch = 0) && !(probe t 0).due && decide ((t.window.map (·.state)) = [.done])) = true := by decide

/-- A PARK entry of two probes, the first ordered, behind a finished step. -/
def parkingTwo : State :=
  withProbe 0 (ordered .park) (withWindow [res2Entry 1 .done .contactOk,
    { serviceEntryOf .park 0 .ordered with members := [⟨0, .ordered⟩, ⟨1, .waiting⟩], mask := 3 }] running)

/-- The holder of a reservation is the oldest entry that names the probe; an order that another kind of entry owns. -/
theorem witness_OrdersComplete_members :
    (∃ e, holder (withProbe 0 (ordered .park) (withWindow [{ serviceEntryOf .park 0 .ordered with
        members := [⟨0, .ordered⟩, ⟨1, .waiting⟩] }] running)) 0 = some e ∧ e.kind = .park)
    ∧ (∃ e, holder parkingTwo 0 = some e ∧ e.kind ≠ .park) ∧ (∃ e, holder (ordering .park .waiting) 0 = some e ∧ e.kind ≠ .clean)
    ∧ owningRole (res2Entry 1 .pending .ordered) 1 = some 1 ∧ owningRole (res2Entry 1 .pending .contactOk) 1 = none :=
  ⟨⟨_, rfl, rfl⟩, ⟨_, rfl, by decide⟩, ⟨_, rfl, by decide⟩, by decide, by decide⟩

/-- The first of two members completes: the entry stays PENDING. -/
theorem test_first_member :
    after (exec (.parked 0 5) { parkingTwo with window := parkingTwo.window.drop 1 }) (fun t =>
      decide ((t.window.map (·.state)) = [.pending]) && decide ((t.window.map (·.members)) = [[⟨0, .complete⟩, ⟨1, .ordered⟩]]))
      = true := by decide

/-- No order; another tag; another kind of order; no STOP. -/
theorem witness_StaleReportsOnlyCounted :
    (probe running 0).order = none ∧ (4 : BitVec 4) ≠ (probe (ordering (.move 0 0) .ordered) 0).tag
    ∧ ((probe (ordering .lift .waiting) 0).order = some .lift ∧ (∀ x y, Order.lift ≠ .move x y ∧ Order.lift ≠ .retouch x y)
      ∧ Order.lift ≠ .park ∧ ∀ n, Order.lift ≠ .clean n)
    ∧ ((probe (ordering (.move 0 0) .ordered) 0).order = some (.move 0 0) ∧ Order.move 0 0 ≠ .lift)
    ∧ running.link.stop = none := by
  refine ⟨by decide, by decide, ⟨by decide, fun x y => ⟨?_, ?_⟩, by decide, fun n => ?_⟩, by decide, by decide⟩ <;> simp

theorem test_stale_stopped_saturates :
    after (exec .stopped { running with rc := { running.rc with summary := ⟨0, 0, 0, 0, 4294967295⟩ } }) (fun t =>
      decide (t.rc.summary.stale = 4294967295)) = true := by decide

theorem witness_FaultAndExpiry :
    (∃ e, holder (ordering (.move 0 0) .ordered) 0 = some e ∧ entryOf (ordering (.move 0 0) .ordered) e.uid = some e
      ∧ unmeasured e = true ∧ (probe (ordering (.move 0 0) .ordered) 0).order ≠ none)
    ∧ (∃ e, holder (withWindow [res2Entry 1 .done .contactOk] running) 0 = some e ∧ unmeasured e = false)
    ∧ holder running 0 = none
    ∧ measuredProbe 0 (measuring (stepRec .acquiring .res2) (res2Entry 1 .measuring .contactOk)) = true
    ∧ (probe running 0).order = none :=
  ⟨⟨_, rfl, rfl, by decide, by decide⟩, ⟨_, rfl, by decide⟩, rfl, by decide, rfl⟩

theorem test_fault :
    after (exec (.fault 0 9 0) (measuring (stepRec .acquiring .res2) (res2Entry 1 .measuring .contactOk))) (fun t =>
      decide ((probe t 0).faultCode = 255) && decide (t.unit.step = none) && decide ((t.window.map (·.detail)) = [255])) = true
    ∧ after (exec (.orderDeadlineExpiry 0) (ordering (.move 0 0) .ordered)) (fun t => decide ((probe t 0).state = .faulted)
      && decide ((t.window.map (·.cause)) = [some .motionTimeout])
      && decide ((t.window.map fun e => (e.roles.map (·.state)).head?) = [some .waiting])) = true := by decide

/-- A PARK that the Run Controller has asked for in STOPPING. -/
def parkIssued : State :=
  let s := withProbe 0 (ordered .park) (inRun .stopping)
  { s with rc := { s.rc with parking := s.rc.parking.set 0 .issued } }

theorem witness_FaultAndExpiry_park :
    (probe parkIssued 0).order = some .park ∧ parkIssued.rc.parking.get 0 = .issued
    ∧ (probe (ordering (.move 0 0) .ordered) 0).order ≠ some .park := by decide

theorem test_park_failed :
    after (exec (.fault 0 5 3) parkIssued) (fun t => decide (t.rc.parking.get 0 = .failed) && decide (t.rc.run = .stopping)) = true
    ∧ after (exec (.orderDeadlineExpiry 0) parkIssued) (fun t => decide (t.rc.parking.get 0 = .failed)) = true := by decide

/-- STOP outstanding in GUARD_HOLD, a step of each kind in the window. -/
def stopOut (r : RunState) : State :=
  let s := withWindow [res2Entry 1 .measuring .contactOk, res2Entry 2 .done .contactOk, serviceEntryOf .clean 4 .ordered] (inRun r)
  { s with link := { s.link with stop := some 500 } }

theorem witness_StopAnsweredOrMissed :
    running.link.stop = none ∧ (stopOut .guardHold).link.stop ≠ none
    ∧ (∃ e, (stopOut .guardHold).window[0]? = some e ∧ unmeasured e = true ∧ e.kind = .measure)
    ∧ (∃ e, (stopOut .guardHold).window[1]? = some e ∧ unmeasured e = false)
    ∧ (∃ e, (stopOut .guardHold).window[2]? = some e ∧ unmeasured e = true ∧ e.kind = .clean)
    ∧ ((stopOut .idle).rc.run = .idle) ∧ ((stopOut .guardHold).rc.run ≠ .idle ∧ (stopOut .guardHold).rc.run ≠ .halted) :=
  ⟨by decide, by decide, ⟨_, rfl, rfl, rfl⟩, ⟨_, rfl, rfl⟩, ⟨_, rfl, rfl, rfl⟩, by decide, by decide⟩

theorem test_stopped :
    after (exec .stopped (stopOut .guardHold)) (fun t => t.rc.stoppedReceived
      && decide ((t.window.map (·.state)) = [.pending, .done, .pending])) = true
    ∧ after (exec .stopDeadlineExpiry (stopOut .guardHold)) (fun t => decide (t.rc.endCode = .linkLost)) = true := by decide

theorem witness_OrdersTakenOrRefused :
    ((probe running 0).order = none ∧ running.link.stop = none ∧ running.rc.guardLine.filtered = false
      ∧ running.link.up = true ∧ (probe running 0).state ≠ .faulted)
    ∧ ((probe (withProbe 0 (faultedProbe 1) running) 0).state = .faulted ∧ Order.lift ≠ .park)
    ∧ (probe (ordering .lift .waiting) 0).order ≠ none ∧ (stopOut .guardHold).link.stop ≠ none
    ∧ (guardAt true true running).rc.guardLine.filtered = true ∧ State.reset.link.up = false := by decide

theorem test_order_tag_wraps :
    ((requestOrder 0 .park (withProbe 0 (fun r => { faultedProbe 7 r with tag := 15 }) running)).map fun t => (probe t 0).tag) = some 0
    ∧ requestOrder 0 .lift (withProbe 0 (faultedProbe 7) running) = none
    ∧ (((requestOrder 6 .park running).bind (requestOrder 1 .lift)).map (·.link.sent)) = some [6, 1] := by decide

/-- A run whose fetcher has read a program entry, or has a transaction in flight. -/
def fetching (t : Txn) : State := { running with fetch := { running.fetch with txn := some t } }

/-- The same in a recovery list. -/
def recovering : State := { fetching .entry with fetch := { (fetching .entry).fetch with recovery := true } }

/-- The same with frames on the stack. -/
def nested (n : Nat) : State :=
  { fetching .entry with fetch := { (fetching .entry).fetch with stack := List.replicate n ⟨0, 1, 0, 0, 1⟩ } }

theorem witness_FetchReadsAct :
    (∃ r ws s1, serve .fetch (issue .fetch 0 (.read 16) (fetching .entry)) = some (r, ws, s1) ∧ r.live = true)
    ∧ (∃ r ws s1, serve .fetch (dropReqs .fetch (issue .fetch 0 (.read 16) running)) = some (r, ws, s1) ∧ r.live = false)
    ∧ (running.rc.run = .running ∧ running.window.length < 8 ∧ running.fetch.held = none ∧ running.fetch.txn = none
      ∧ hasReq .fetch running = false ∧ running.fetch.stopped = false)
    ∧ 8 ≤ (withWindow (List.replicate 8 (res2Entry 1 .done .waiting)) running).window.length
    ∧ 7 = (withWindow (List.replicate 7 (res2Entry 1 .done .waiting)) running).window.length :=
  ⟨⟨_, _, _, rfl, rfl⟩, ⟨_, _, _, rfl, rfl⟩, by decide, by decide, by decide⟩

theorem test_fetch :
    after (exec .fetchReadComplete (withWords 0 [7, 2] (issue .fetch 0 (.read 16) (fetching .entry)))) (fun t =>
      decide (t.fetch.bank = 2) && decide (t.fetch.index = 1) && decide (t.port.reqs = [⟨.fetch, 64, .read 16, true, 0⟩])) = true := by
  decide

/-- Each control entry and each failing check, a program entry of the fewest words that has it. -/
theorem witness_ControlEntriesAct :
    (fetching .entry).fetch.txn = some .entry
    ∧ ((fieldByte [2, 64, 0, 0, 1] 0).toNat = 2 ∧ fieldByte [2, 64, 0, 0, 1] 0x10 ≠ 0 ∧ (nested 3).fetch.stack.length < 4
      ∧ (nested 3).fetch.recovery = false)
    ∧ ((nested 1).fetch.stack ≠ [] ∧ (fieldByte [3] 0).toNat = 3) ∧ (fieldByte [4] 0).toNat = 4 ∧ (fieldByte [5] 0).toNat = 5
    ∧ (recovering.fetch.recovery = true ∧ recovering.fetch.txn = some .entry ∧ parseMode (fieldByte [10, 3] 4) = some .halt)
    ∧ ((fieldByte [7, 3] 0).toNat = 7 ∧ (fieldByte [7, 3] 4).toNat ≤ 3) ∧ 3 < (fieldByte [7, 4] 4).toNat
    ∧ (fieldByte [6] 0).toNat = 6 ∧ (fieldByte [8, 0x101] 5).getLsbD 0 = true ∧ (fieldByte [8, 1] 5).getLsbD 0 = false
    ∧ (fieldByte [9] 0).toNat = 9
    ∧ (fieldByte [0] 0).toNat = 0 ∧ 10 < (fieldByte [11] 0).toNat
    ∧ parseMode (fieldByte [10, 4] 4) = none ∧ parseMode (fieldByte [10, 0] 4) = none
    ∧ fieldByte [2, 64, 0, 0, 0] 0x10 = 0 ∧ 4 ≤ (nested 4).fetch.stack.length ∧ (fetching .entry).fetch.stack = [] := by decide

/-- Two frames on the stack. -/
def twoFrames : State :=
  { running with fetch := { running.fetch with stack := [⟨0, 1, 10, 20, 4⟩, ⟨0, 1, 5, -7, 9⟩] } }

theorem test_control_entries :
    (txnRead [2, 70, 100, 0xFFFFFFFF, 9] (nested 3)).fetch.stack.getLast? = some ⟨0, 1, 100, -1, 9⟩
    ∧ (txnRead [2, 70, 100, 0xFFFFFFFF, 9] (nested 4)).window.map (·.detail) = [7]
    ∧ (txnRead [10, 1] recovering).fetch.held = some (.resume .retry)
    ∧ (txnRead [8, 0x00F00103] (withProbe 5 (fun r => { r with due := true }) (fetching .entry))).window.map
      (fun e => (e.mask, e.cycles, e.members.map (·.probe))) = [(32, 15, [5])] := by decide

/-- A recovery list, area B, and the board position and panel offset of the innermost of two frames. -/
theorem test_snapshot_and_board :
    (snapshotNow recovering).origin.area = .recovery
    ∧ snapshotNow { nested 2 with rc := { running.rc with area := .b }, fetch := { (nested 2).fetch with list := 64, index := 7, bank := 3 } }
      = ⟨⟨.b, 64, 7⟩, 2, 3⟩
    ∧ boardPosition [⟨0, 1, 10, 20, 4⟩, ⟨0, 1, 5, -7, 9⟩] = 9
    ∧ pointPosition { twoFrames with corr := Correction.reset } ⟨100, 200, 0, 7, 180⟩ = some (115, 213) := by decide

/-- The words of a MEASURE entry: RES2, group 33, CURRENT bank, no limit, force-hi P0 at point 0 and force-lo P1 at point 1. -/
def measureWords : List Word := [0xFF210101, 0xFFFFFFFF, 0, 0, 0, 0x0100, 1, 0x0101]

/-- Two points in the table. -/
def twoPoints (t : Txn) : State := { fetching t with settings := { Settings.reset with
  pointCount := 2, limitCount := 5, cell := 2500, reachTop := ⟨0, 400000, 0, 300000⟩ } }

/-- A change of one word of the entry. -/
def withField (n : Nat) (w : Word) : List Word := measureWords.set n w

theorem witness_MeasureEntryChecks :
    ((twoPoints .entry).fetch.txn = some .entry ∧ fieldByte measureWords 0 = 1)
    ∧ ((0 : Word).getLsbD ((fieldByte measureWords 2).toNat % 32) = false ∧ Settings.reset.logSkipped = false)
    ∧ ((2 : Word).getLsbD ((fieldByte measureWords 2).toNat % 32) = true)
    ∧ measKindOf (fieldByte (withField 0 0xFF210601) 1) = none
    ∧ resolveBank 0 (fieldByte (withField 0 0x04210101) 3) = none
    ∧ (measKindOf (fieldByte measureWords 1) = some .res2 ∧ resolveBank 0 (fieldByte measureWords 3) = some 0)
    ∧ (∃ n ∈ requiredSlots .res2, slotPresent (withField 7 1) n = false)
    ∧ (∃ n ∈ stepRoles .res2 (withField 6 2), (twoPoints .entry).settings.pointCount ≤ slotPoint (withField 6 2) n)
    ∧ (∃ n ∈ stepRoles .res2 (withField 7 0x0108), 7 < slotProbe (withField 7 0x0108) n)
    ∧ (limitIndex (withField 1 5) = some 5 ∧ (twoPoints .entry).settings.limitCount ≤ 5)
    ∧ ¬((stepRoles .res2 (withField 7 0x0100)).map (slotProbe (withField 7 0x0100))).Nodup
    ∧ ((∀ n ∈ requiredSlots .res2, slotPresent measureWords n = true)
      ∧ (∀ n ∈ stepRoles .res2 measureWords, slotProbe measureWords n ≤ 7
        ∧ slotPoint measureWords n < (twoPoints .entry).settings.pointCount)
      ∧ limitIndex measureWords = none ∧ ((stepRoles .res2 measureWords).map (slotProbe measureWords)).Nodup) := by decide

theorem test_measure_checks :
    let g := fun ws => (txnRead [2] (twoPoints (.group ws))).window.map (·.detail)
    g (withField 0 0xFF210601) = [1] ∧ g (withField 7 1) = [5] ∧ g (withField 6 2) = [2] ∧ g (withField 7 0x0100) = [4]
    ∧ g measureWords = [] ∧ (txnRead [0] (twoPoints (.group measureWords))).rc.summary.skipped = 1 := by decide

/-- The fields of a MEASURE entry of spec 12.2: the codes of R39, CURRENT and the highest bank, the slots as written. -/
theorem test_measure_fields :
    [1, 2, 3, 4, 5].map (fun b : Nat => measKindOf (BitVec.ofNat 8 b)) = [some .res2, some .res4, some .cap, some .diode, some .cont]
    ∧ resolveBank 2 255 = some 2 ∧ resolveBank 2 3 = some 3 ∧ resolveBank 2 4 = none ∧ resolveBank 2 254 = none
    ∧ limitIndex measureWords = none ∧ limitIndex (withField 1 0xFFFFFFFE) = some 4294967294
    ∧ slotPoint measureWords .forceLo = 1 ∧ slotProbe measureWords .forceLo = 1 ∧ slotPresent measureWords .forceLo = true
    ∧ slotPresent measureWords .guard = false
    ∧ entrySlots measureWords = [⟨true, 0, 0⟩, ⟨true, 1, 1⟩, ⟨false, 0, 0⟩, ⟨false, 0, 0⟩, ⟨false, 0, 0⟩] := by decide

/-- A point record. -/
def point (x y : Int) : PointRec := ⟨x, y, 0, 7, 180⟩

/-- The records of the two roles, and of one role with none and one to come, with and without a limit named. -/
theorem witness_RecordsChecked :
    ((twoPoints (.points measureWords [])).fetch.txn = some (.points measureWords [])
      ∧ (stepRoles .res2 measureWords)[0 + 1]? = some .forceLo)
    ∧ ((stepRoles .res2 measureWords).length ≤ [point 0 0].length + 1 ∧ limitIndex measureWords = none)
    ∧ limitIndex (withField 1 4) = some 4
    ∧ measKindOf (fieldByte measureWords 1) = some .res2 ∧ measKindOf (fieldByte (withField 0 0xFF210501) 1) = some .cont
    ∧ (∀ n ∈ stepRoles .res2 measureWords, slotProbe measureWords n ≤ 7)
    ∧ (4 : Int) < 5 ∧ (¬(((point 0 0).side = 1)) ∧ 1 < 4)
    ∧ ((stepRoles .res2 measureWords).zip [point 0 0, point 4999 0])[1]? = some (.forceLo, point 4999 0)
    ∧ pointPosition (twoPoints .entry) (point 4999 0) = some (4999, 0)
    ∧ ((0 : Int) - 4999) ^ 2 + (0 - 0) ^ 2 < (5000 : Nat) ^ 2 ∧ ¬((0 : Int) - 5000) ^ 2 + (0 - 0) ^ 2 < (5000 : Nat) ^ 2
    ∧ kelvinPair .res2 .forceHi .forceLo = false := by decide

/-- A limit record of each form, and one of none (R154). -/
theorem test_limit_records :
    parseLimit [1, 0, 5, 0, 1, 1] = some (.abs 5 4294967297) ∧ parseLimit [1, 0, 0xFFFFFFFF, 0xFFFFFFFF] = some (.abs (-1) 0)
    ∧ parseLimit [2, 0, 0xFFFFFFFE, 0xFFFFFFFF, 0x00020001] = some (.nomtol (-2) 1 2)
    ∧ parseLimit [3, 0, 1, 2, 1] = some (.cont 1 2 true) ∧ parseLimit [4, 0, 1, 2, 1] = none := by decide

/-- Each of checks 5 to 8, an earlier one hiding a later one, and a step that passes them all. -/
theorem test_records_checked :
    let s := twoPoints (.limit measureWords [])
    let t := { s with settings := { s.settings with dMin := 5000 } }
    let d := fun given lim pts => (recordsRead measureWords pts given lim t).window.map (·.detail)
    let wrong : PointRec := ⟨4999, 0, 1, 7, 180⟩
    d true none [point 0 0, point 4999 0] = [1] ∧ d true (some (.cont 1 2 false)) [point 0 0, point 5000 0] = [1]
    ∧ d true (some (.abs 5 4)) [point 0 0, wrong] = [6] ∧ d true (some (.abs 5 5)) [point 0 0, wrong] = [3]
    ∧ d false none [point 0 0, point 4999 0] = [11] ∧ d false none [point 0 0, point 5000 0] = []
    ∧ (recordsRead measureWords [point 0 0, point 5000 0] false none t).port.reqs = [⟨.fetch, 0, .read 1, true, 0⟩] := by decide

theorem witness_LandingChecks :
    (stepRoles .res2 measureWords)[0]? = some .forceHi ∧ ([point 0 0, point 5000 0])[0]? = some (point 0 0)
    ∧ pointPosition (twoPoints .entry) (point 5000 0) = some (5000, 0)
    ∧ pointPosition { nested 1 with fetch := { (nested 1).fetch with stack := [⟨0, 1, 2147483647, 0, 1⟩] } } (point 1 0) = none
    ∧ inReach (reachOf (twoPoints .entry).settings (probeSide (roleProbe measureWords .forceHi))) 400001 0 = false
    ∧ inReach (reachOf (twoPoints .entry).settings (probeSide (roleProbe measureWords .forceHi))) 400000 0 = true
    ∧ keepOutCell (twoPoints .entry).settings 320000 0 = none ∧ keepOutCell (twoPoints .entry).settings 319999 0 = some (127, 0)
    ∧ (0x80000000 : Word).getLsbD (127 % 32) = true ∧ (0x7FFFFFFF : Word).getLsbD (127 % 32) = false
    ∧ (stepRoles .res2 measureWords)[2]? = none
    ∧ ([point 0 0, point 5000 0]).length = (stepRoles .res2 measureWords).length
    ∧ ((stepRoles .res2 measureWords)[1]? = some .forceLo ∧ [point 0 0, point 5000 0][1]? = some (point 5000 0))
    ∧ resolveBank (twoPoints .entry).fetch.bank (fieldByte measureWords 3) = some 0 ∧ fieldByte measureWords 0 = 1 := by decide

theorem test_landing_checks :
    let pts := [point 0 0, point 319999 0]
    (landFrom measureWords pts none .res2 1 (twoPoints .entry)).port.reqs = [⟨.fetch, 12, .read 1, true, 0⟩]
    ∧ (keepOutRead measureWords pts none .res2 1 0x80000000 (twoPoints .entry)).window.map (·.detail) = [2]
    ∧ (keepOutRead measureWords pts none .res2 1 0 (twoPoints .entry)).window.map
      (fun e => (e.measByte, e.nets, e.roles)) = [(1, [7, 7],
        [⟨.forceHi, 0, 0, 0, 0, .top, 7, 180, .waiting, 0⟩, ⟨.forceLo, 1, 1, 319999, 0, .top, 7, 180, .waiting, 0⟩])]
    ∧ (landFrom measureWords [point 0 0, point 320000 0] none .res2 1 (twoPoints .entry)).window.map (·.detail) = [1] := by decide

/-- The word of cell (64, 9) of each side's map: row 9 at 16 × 9, the third word of the row (spec 12.3). -/
theorem test_keep_out_words :
    let t := { Settings.reset with keepOutTop := 4096, keepOutBottom := 8192 }
    keepOutAddr t .top (64, 9) = 4248 ∧ keepOutAddr t .bottom (127, 127) = 10236 ∧ keepOutAddr t .top (31, 0) = 4096
    ∧ 0 < Settings.reset.cell ∧ inReach ⟨0, 10, -5, 5⟩ 10 (-5) = true ∧ inReach ⟨0, 10, -5, 5⟩ 10 (-6) = false
    ∧ slotProbe measureWords .forceLo = (1 : ProbeNo).val := by decide

/-! ## Serving, checks and measuring: witnesses -/

/-- P0 standing verified at its role's point, and another probe standing 1,999 µm from it. -/
def conflicted : State :=
  let s := withProbe 2 (standingAt 1999 0) (withWindow [res2Entry 1 .pending .waiting] running)
  { s with settings := { Settings.reset with dMin := 2000 } }

theorem witness_RolesServed :
    let s := withWindow [res2Entry 1 .pending .waiting] running
    (∃ e r, entryOf s 1 = some e ∧ e.roles[0]? = some r ∧ unmeasured e = true ∧ r.state = .waiting
      ∧ holds s 1 r.probe = true ∧ (probe s r.probe).order = none ∧ (probe s r.probe).state ≠ .landed
      ∧ conflictSet s e r = [] ∧ (requestOrder r.probe (.move r.x r.y) s).isSome = true)
    ∧ (∃ e r, entryOf (withProbe 0 (standingAt 0 0) s) 1 = some e ∧ e.roles[0]? = some r
      ∧ (probe (withProbe 0 (standingAt 0 0) s) r.probe).state = .landed
      ∧ (probe (withProbe 0 (standingAt 0 0) s) r.probe).pos = some (r.x, r.y) ∧ probeSide r.probe = r.side
      ∧ (probe (withProbe 0 (standingAt 0 0) s) r.probe).verified = true)
    ∧ (∃ e r, entryOf (withProbe 0 (faultedProbe 9) s) 1 = some e ∧ e.roles[0]? = some r
      ∧ (probe (withProbe 0 (faultedProbe 9) s) r.probe).state = .faulted)
    ∧ (∃ e r, entryOf conflicted 1 = some e ∧ e.roles[0]? = some r ∧ conflictSet conflicted e r = [2]
      ∧ (3 : ProbeNo) ∉ conflictSet conflicted e r)
    ∧ (∃ e, entryOf (withWindow [res2Entry 1 .done .waiting] running) 1 = some e ∧ unmeasured e = false) :=
  ⟨⟨_, _, rfl, rfl, rfl, rfl, by decide, by decide, by decide, by decide, by decide⟩,
    ⟨_, _, rfl, rfl, by decide, by decide, by decide, by decide⟩, ⟨_, _, rfl, rfl, by decide⟩,
    ⟨_, _, rfl, rfl, by decide, by decide⟩, ⟨_, rfl, rfl⟩⟩

theorem test_serve_role :
    (probe (serveRole 1 0 conflicted) 2).state = .lifting ∧ (probe (serveRole 1 0 conflicted) 0).order = none
    ∧ (probe (serveRole 1 0 { conflicted with settings := { Settings.reset with dMin := 1999 } }) 0).order = some (.move 0 0)
    ∧ (serveRole 1 0 (withProbe 0 (faultedProbe 9) conflicted)).window.map (·.detail) = [9] := by decide

/-- Two entries name P0; the older one holds the reservation. -/
theorem witness_RolesServed_holder :
    let s := withWindow [res2Entry 1 .pending .waiting, res2Entry 2 .pending .waiting] running
    holder s 0 = some (res2Entry 1 .pending .waiting) ∧ holder s 7 = none ∧ holds s 1 0 = true ∧ holds s 2 0 = false
    ∧ (s.window.map (·.uid)).Nodup ∧ entryOf s 2 = some (res2Entry 2 .pending .waiting)
    ∧ namesProbe (serviceEntryOf .clean 4 .waiting) 4 = true ∧ unmeasured (res2Entry 1 .measuring .contactOk) = true := by decide

/-- A step on P2 at (1,999, 0) and P3. -/
def neighbour (u : Nat) (es : EntryState) : Entry :=
  { res2Entry u es .contactOk with roles := [role .forceHi 2 1999 0 .contactOk, role .forceLo 3 9000 0 .contactOk] }

/-- The same with entries in the window. -/
def conflictedWith (es : List Entry) : State := withWindow es conflicted

/-- P2 reserved by none, by a younger entry and by an older one; P1 of the same entry off and on its point. -/
theorem witness_ConflictsResolved :
    let e := res2Entry 1 .pending .waiting
    let own := fun x => withProbe 1 (standingAt x 0) (conflictedWith [e])
    ((probe conflicted 2).state = .landed ∧ (requestOrder 2 .lift conflicted).isSome = true ∧ holder conflicted 2 = none)
    ∧ requestOrder 2 .lift (guardAt true true conflicted) = none
    ∧ (holder (own 1000) 1 = some e ∧ (∀ x ∈ e.roles, x.probe = 1 → (probe (own 1000) 1).pos ≠ some (x.x, x.y)))
    ∧ (∃ x ∈ e.roles, x.probe = 1 ∧ (probe (own 5000) 1).pos = some (x.x, x.y))
    ∧ (holder (conflictedWith [e, neighbour 2 .ready]) 2 = some (neighbour 2 .ready)
      ∧ (conflictedWith [e, neighbour 2 .ready]).window = [] ++ e :: ([] ++ neighbour 2 .ready :: [])
      ∧ ((conflictedWith [e, neighbour 2 .ready]).window.map (·.uid)).Nodup)
    ∧ (conflictedWith [neighbour 2 .ready, e]).window = [] ++ neighbour 2 .ready :: ([] ++ e :: []) := by decide

theorem test_conflicts_resolved :
    let e := res2Entry 1 .pending .waiting
    (probe (resolveConflict e 2 (conflictedWith [e, neighbour 2 .ready])) 2).order = some .lift
    ∧ (resolveConflict e 2 (conflictedWith [e, neighbour 2 .ready])).window.map (fun f => (f.state, f.roles.map (·.state)))
      = [(.pending, [.waiting, .waiting]), (.pending, [.waiting, .contactOk])]
    ∧ resolveConflict e 2 (conflictedWith [neighbour 2 .ready, e]) = conflictedWith [neighbour 2 .ready, e]
    ∧ (probe (resolveConflict e 1 (withProbe 1 (standingAt 1000 0) (conflictedWith [e]))) 1).order = some .lift := by decide

/-- A run whose service entry waits for P4. -/
def memberWaiting (k : EntryKind) (f : Probe → Probe) : State :=
  withProbe 4 f (withWindow [serviceEntryOf k 4 .waiting] running)

theorem witness_MembersServed :
    (∃ e m, entryOf (memberWaiting .park id) 3 = some e ∧ e.members[0]? = some m ∧ unmeasured e = true ∧ m.state = .waiting
      ∧ holds (memberWaiting .park id) 3 m.probe = true ∧ (probe (memberWaiting .park id) m.probe).order = none
      ∧ e.kind = .park ∧ (probe (memberWaiting .park id) m.probe).state ≠ .parked
      ∧ (requestOrder m.probe .park (memberWaiting .park id)).isSome = true)
    ∧ (probe (memberWaiting .park fun r => { r with state := .parked }) 4).state = .parked
    ∧ (∃ e m, entryOf (memberWaiting .clean (faultedProbe 9)) 3 = some e ∧ e.members[0]? = some m ∧ e.kind = .clean
      ∧ (probe (memberWaiting .clean (faultedProbe 9)) m.probe).state = .faulted)
    ∧ requestOrder 4 .park (guardAt true true (memberWaiting .park id)) = none
    ∧ (∃ e, entryOf (withProbe 1 (faultedProbe 9) (withWindow [res2Entry 1 .pending .contactOk] running)) 1 = some e
      ∧ unmeasured e = true ∧ e.kind = .measure ∧ ∃ r ∈ e.roles, r.probe = 1)
    ∧ running.rc.run = .running ∧ (inRun .guardHold).rc.run ≠ .running :=
  ⟨⟨_, _, rfl, rfl, rfl, rfl, by decide, by decide, rfl, by decide, by decide⟩, by decide,
    ⟨_, _, rfl, rfl, rfl, by decide⟩, by decide, ⟨_, rfl, rfl, rfl, by decide⟩, rfl, by decide⟩

theorem test_members_served :
    (serveMember 3 0 (memberWaiting .park fun r => { r with state := .parked })).window.map (·.state) = [.done]
    ∧ (serveMember 3 0 (memberWaiting .clean (faultedProbe 9))).window.map (fun e => (e.cause, e.detail))
      = [(some .motionFault, 9)]
    ∧ (probe (serveMember 3 0 (memberWaiting .clean id)) 4).order = some (.clean 2)
    ∧ (sweepFaulted 1 (withProbe 1 (faultedProbe 9) (withWindow [res2Entry 1 .pending .contactOk] running))).window.map
      (fun e => (e.state, e.detail)) = [(.failed, 9)] := by decide

/-- A check running for P0's role, another held. -/
def checking (held : Option CheckRec) (retouches : Nat) : State :=
  let e := res2Entry 1 .pending .checking
  let s := withBank (autoBank 0) (withProbe 0 (fun r => { r with state := .landed, pos := some (0, 0), tag := 5 })
    (withWindow [{ e with roles := e.roles.map fun r => { r with retouches := retouches } }] running))
  { s with settings := { Settings.reset with contactOhm := 2 }, checks := s.checks.set 0 ⟨some ⟨1, 0, 5, true⟩, held⟩ }

/-- A loop of 2 Ω passes, one of 2,001 mΩ fails. -/
theorem witness_CheckEnds :
    ((∃ c, ((checking none 0).checks.get 0).running = some c) ∧ ((checking none 0).checks.get 0).held = none)
    ∧ (∃ r, some 2000 = some r ∧ r ≤ 1000 * (checking none 0).settings.contactOhm)
    ∧ (¬∃ r, some 2001 = some r ∧ r ≤ 1000 * (checking none 0).settings.contactOhm)
    ∧ (∃ h, ((checking (some ⟨1, 0, 5, false⟩) 0).checks.get 0).held = some h
      ∧ (probe (checking (some ⟨1, 0, 5, false⟩) 0) 0).tag = h.landingTag)
    ∧ (running.checks.get 0).running = none
    ∧ (∃ e r, entryOf (checking none 0) 1 = some e ∧ e.roles[0]? = some r ∧ r.state = .checking
      ∧ (checking none 0).rc.run = .running ∧ (probe (checking none 0) 0).tag = 5
      ∧ r.retouches < (bankOf (checking none 0) e.bank).retouchLimit
      ∧ retouchTarget (r.retouches + 1) r.pad r.x r.y = (10, 0)
      ∧ (requestOrder 0 (.retouch 10 0) (checking none 0)).isSome = true)
    ∧ (∃ e r, entryOf (checking none 1) 1 = some e ∧ e.roles[0]? = some r
      ∧ (bankOf (checking none 1) e.bank).retouchLimit ≤ r.retouches ∧ unmeasured e = true) :=
  ⟨⟨⟨_, rfl⟩, rfl⟩, ⟨2000, rfl, by decide⟩, fun ⟨_, h, hr⟩ => by cases h; revert hr; decide, ⟨_, rfl, by decide⟩, rfl,
    ⟨_, _, rfl, rfl, rfl, rfl, by decide, by decide, by decide, by decide⟩, ⟨_, _, rfl, rfl, by decide, rfl⟩⟩

theorem test_check_end :
    after (exec (.checkEnd 0 (some 2000)) (checking none 0)) (fun t => (probe t 0).verified
      && decide ((t.window.map fun e => e.roles.map (·.state)) = [[.contactOk, .checking]])) = true
    ∧ after (exec (.checkEnd 0 (some 2001)) (checking none 0)) (fun t => decide ((probe t 0).miss = 1)
      && decide ((probe t 0).order = some (.retouch 10 0))) = true
    ∧ after (exec (.checkEnd 0 none) (checking none 1)) (fun t => decide ((t.window.map (·.cause)) = [some .noContact])
      && decide ((t.window.map fun e => e.roles.map (·.state)) = [[.waiting, .waiting]])) = true := by decide

/-- Every first-touch result is tested, a miss count that stays at 15 and one that stays at 0 too (R122). -/
theorem test_first_touch_tested :
    let s := fun touch miss => limited 7 15 (withProbe 0 (fun r => { r with touch := touch, miss := miss }) (checking none 0))
    after (exec (.checkEnd 0 none) (s 0 15)) (fun t => (probe t 0).due
      && decide (t.notice.queue = [⟨.serviceDue, 0, 2, 0, .plain⟩])) = true
    ∧ after (exec (.checkEnd 0 (some 0)) (s 7 0)) (fun t => (probe t 0).due
      && decide (t.notice.queue = [⟨.serviceDue, 0, 1, 0, .plain⟩])) = true := by decide

/-- A READY step whose probes stand verified. -/
def ready (k : Byte) : State :=
  withBank (autoBank 1) (withProbe 0 (standingAt 0 0) (withProbe 1 (standingAt 5000 0)
    (withWindow [{ res2Entry 1 .ready .contactOk with measByte := k }] running)))

theorem witness_MeasurementTaken :
    (∃ e, oldestUnmeasured (ready 1) = some e ∧ measKindOf e.measByte = some .res2 ∧ (ready 1).unit.step = none
      ∧ (ready 1).rc.run = .running ∧ e.kind = .measure ∧ e.state = .ready
      ∧ ∀ r ∈ e.roles, (probe (ready 1) r.probe).state = .landed ∧ (probe (ready 1) r.probe).verified = true)
    ∧ (measuring (stepRec .judging .res2) (res2Entry 1 .measuring .contactOk)).unit.step ≠ none
    ∧ oldestUnmeasured running = none
    ∧ (∃ e, oldestUnmeasured (withProbe 0 (fun r => { r with verified := false }) (ready 1)) = some e
      ∧ ∃ r ∈ e.roles, (probe (withProbe 0 (fun r => { r with verified := false }) (ready 1)) r.probe).verified = false) :=
  ⟨⟨_, rfl, rfl, rfl, rfl, rfl, rfl, by decide⟩, by decide, rfl, ⟨_, rfl, by decide⟩⟩

theorem test_take :
    after (exec .measurementTake (ready 5)) (fun t => t.unit.sourceOn && decide ((t.unit.step.map (·.range)) = some 1)
      && decide ((t.unit.step.map (·.phase)) = some .acquiring) && decide ((t.window.map (·.state)) = [.measuring])) = true
    ∧ after (exec .measurementTake (withProbe 1 (fun r => { r with verified := false }) (ready 1))) (fun t =>
      decide (t.unit.step = none)) = true := by decide

/-- One force-hi role and one force-lo role; the oldest unmeasured entry stands behind a measured one. -/
theorem witness_MeasurementTaken_roles :
    (∃ r ∈ (res2Entry 1 .ready .contactOk).roles, r.name = .forceHi
      ∧ ∀ x ∈ (res2Entry 1 .ready .contactOk).roles, x.name = .forceHi → x = r)
    ∧ (∃ r ∈ (res2Entry 1 .ready .contactOk).roles, r.name = .forceLo
      ∧ ∀ x ∈ (res2Entry 1 .ready .contactOk).roles, x.name = .forceLo → x = r)
    ∧ oldestUnmeasured (withWindow [res2Entry 1 .done .contactOk, res2Entry 2 .ready .contactOk] running)
      = some (res2Entry 2 .ready .contactOk)
    ∧ after (exec .measurementTake (ready 1)) (fun t => decide ((t.unit.step.map (·.lo)) = some 1)) = true := by decide

/-- The unit in a phase, with banks of two samples. -/
def acquiring (ph : UnitPhase) (k : MeasKind) : State :=
  withBank (autoBank 1) (measuring (stepRec ph k) (res2Entry 1 .measuring .contactOk))

theorem witness_AttemptAcquires :
    (∃ r, (acquiring .settling .res2).unit.step = some r ∧ r.phase = .settling)
    ∧ (∃ r, (acquiring .acquiring .res2).unit.step = some r ∧ r.phase = .acquiring ∧ r.kind ≠ .cap)
    ∧ (∃ r, (acquiring .acquiring .cap).unit.step = some r ∧ r.phase = .acquiring ∧ r.kind = .cap
      ∧ 1 ≤ 1 ∧ 50000 ≤ (bankOf (acquiring .acquiring .cap) r.bank).tMax) :=
  ⟨⟨_, rfl, rfl⟩, ⟨_, rfl, rfl, by decide⟩, ⟨_, rfl, rfl, rfl, by decide, by decide⟩⟩

theorem test_acquisition :
    after (exec (.sample 0x80000) (acquiring .acquiring .res2)) (fun t => decide ((t.unit.step.map fun r =>
      (r.attempt.sum, r.attempt.saturated, r.phase, r.elapsed)) = some (-524288, true, .acquiring, 1800))) = true
    ∧ after (exec (.rampCrossing 50000) (acquiring .acquiring .cap)) (fun t => decide ((t.unit.step.map fun r =>
      (r.attempt.crossed, r.attempt.ticks, r.phase)) = some (true, 50000, .judging))) = true
    ∧ after (exec .rampTimeLimit (acquiring .acquiring .cap)) (fun t => decide ((t.unit.step.map fun r =>
      (r.attempt.crossed, r.attempt.ticks, r.phase)) = some (false, 50000, .judging))) = true
    ∧ after (exec .settleElapsed (acquiring .settling .res2)) (fun t => decide ((t.unit.step.map (·.phase)) = some .acquiring)) = true := by
  decide

/-- An attempt of a RES2 step with one sample of the given mean, at a range. -/
def judged (b : Bank) (sum : Int) (range changes : Nat) (tried : List Nat) : State :=
  withBank b (measuring { stepRec .judging .res2 with
    attempt := ⟨[sum], sum, false, 0, false⟩, range := range, changes := changes, tried := tried }
    (res2Entry 1 .measuring .contactOk))

/-- Means at and beside the thresholds; a change to floor and ceiling granted, and refused for each reason. -/
theorem witness_AttemptJudged :
    let b := autoBank 0
    let w := fun m => attemptWish .res2 b ⟨[m], m, false, 0, false⟩
    (w 16384 = .keep ∧ w 458752 = .keep ∧ w (-458752) = .keep)
    ∧ (w 16383 = .down ∧ b.autoInForce = true ∧ (b.floor : Int) ≤ (1 : Nat) - 1 ∧ ((1 : Nat) : Int) - 1 ≤ b.ceiling
      ∧ ((1 : Nat) - 1 : Int).toNat ∉ [1] ∧ 1 < b.maxChanges)
    ∧ (w 458753 = .up ∧ ((5 : Nat) : Int) + 1 ≤ b.ceiling)
    ∧ ((0 : Nat) : Int) - 1 < b.floor ∧ (b.ceiling : Int) < ((6 : Nat) : Int) + 1 ∧ (((3 : Nat) : Int) + 1).toNat ∈ [4, 3]
    ∧ b.maxChanges ≤ 2 ∧ Bank.reset.autoInForce = false
    ∧ (attemptWish .cap b ⟨[], 0, false, 999, true⟩ = .up ∧ attemptWish .cap b ⟨[], 0, false, 1000, true⟩ = .keep
      ∧ attemptWish .cap b ⟨[], 0, false, 50000, false⟩ = .down)
    ∧ (∃ r, (judged b 16383 1 1 [1]).unit.step = some r ∧ r.phase = .judging) :=
  ⟨by decide, by decide, by decide, by decide, by decide, by decide, by decide, by decide, by decide, ⟨_, rfl, rfl⟩⟩

theorem test_judgement :
    after (exec (.attemptJudged 7) (judged (autoBank 0) 16383 1 1 [1])) (fun t => decide ((t.unit.step.map fun r =>
      (r.range, r.tried, r.changes, r.phase, r.elapsed)) = some (0, [1, 0], 2, .acquiring, 1700)) && t.unit.sourceOn) = true
    ∧ after (exec (.attemptJudged 7) (judged (autoBank 0) 16383 0 1 [0])) (fun t => decide ((t.unit.step.map fun r =>
      (r.phase, r.rangeLimited)) = some (.classifying, true)) && !t.unit.sourceOn) = true := by decide

/-- A step whose final attempt awaits its classification, with a limit. -/
def classifying (lim : Option LimitRec) (cap : Bool) (t : Attempt) : State :=
  withBank (autoBank 0) (measuring { stepRec .classifying .res2 with attempt := t }
    { res2Entry 1 .measuring .contactOk with limit := lim, capture := cap })

/-- A hand-off whose two sample words reach the end of the capture ring: one fits, one wraps. -/
def handing (ph : UnitPhase) (busy : Bool) : State :=
  let s := withBank (autoBank 1) (measuring { stepRec ph .res2 with
    attempt := ⟨[5, -1], 4, false, 0, false⟩, final := some (40, .pass, false) }
    { res2Entry 1 .measuring .contactOk with capture := true })
  { s with log := { s.log with capFill := 4092, busy := busy } }

/-- The last capture write of a hand-off in flight, and the first of two. -/
def capturing (n : Nat) : State :=
  (List.range n).foldl (fun s _ => issue .capture 0 (.write [5]) s) (handing .captureWriting true)

theorem witness_StepCompletes :
    let r := { stepRec .classifying .res2 with attempt := ⟨[10], 10, false, 0, false⟩ }
    let c := fun lo hi => finalClass (classifying (some (.abs lo hi)) false ⟨[10], 10, false, 0, false⟩) r
    (∃ q e, (classifying none false ⟨[10], 10, false, 0, false⟩).unit.step = some q ∧ q.phase = .classifying
      ∧ entryOf (classifying none false ⟨[10], 10, false, 0, false⟩) q.entry = some e ∧ e.capture = false)
    ∧ c 400 400 = .pass ∧ c 401 500 = .failLow ∧ c 0 399 = .failHigh
    ∧ finalClass (classifying none false ⟨[10], 10, true, 0, false⟩) { r with attempt := ⟨[10], 10, true, 0, false⟩ } = .overrange
    ∧ finalClass (classifying none true ⟨[10], 10, false, 0, false⟩) r = .pass
    ∧ (∃ q, (handing .handoff false).unit.step = some q ∧ q.phase = .handoff ∧ (handing .handoff false).log.busy = false)
    ∧ (∃ q p ws s1, serve .capture (capturing 2) = some (p, ws, s1) ∧ (capturing 2).unit.step = some q ∧ p.live = true
      ∧ q.phase = .captureWriting ∧ q.final = some (40, .pass, false) ∧ hasReq .capture s1 = true)
    ∧ (∃ q p ws s1, serve .capture (capturing 1) = some (p, ws, s1) ∧ (capturing 1).unit.step = some q ∧ p.live = true
      ∧ hasReq .capture s1 = false) :=
  ⟨⟨_, _, rfl, rfl, rfl, rfl⟩, by decide, by decide, by decide, by decide, by decide, ⟨_, rfl, rfl, rfl⟩,
    ⟨_, _, _, _, rfl, rfl, rfl, rfl, rfl, by decide⟩, ⟨_, _, _, _, rfl, rfl, rfl, by decide⟩⟩

/-- A hand-off that ends past the end of the ring, at its half, and between. -/
theorem test_capture_marks :
    let q := fun n => after (exec .captureWriteComplete (ringOn { capturing 1 with log := { (capturing 1).log with capFill := n } }))
    q 4092 (fun t => decide (t.notice.queue = [⟨.captureWrap, 4, 0, 0, .plain⟩])) = true
    ∧ q 2040 (fun t => decide (t.notice.queue = [⟨.captureHalf, 2048, 0, 0, .plain⟩])) = true
    ∧ q 2048 (fun t => decide (t.notice.queue = [])) = true := by decide

theorem test_completion :
    after (exec .classificationReturned (classifying (some (.abs 401 500)) true ⟨[10], 10, false, 0, false⟩)) (fun t =>
      decide ((t.window.map fun e => (e.state, e.cause, e.detail, e.result.map (·.value)))
        = [(.failed, some .measureFail, 1, some 400)]) && decide (t.unit.step = none)) = true
    ∧ after (exec .captureHandoff (handing .handoff false)) (fun t => decide (t.port.reqs =
      [⟨.capture, 4092, .write [5], true, 0⟩, ⟨.capture, 0, .write [0xFFFFFFFF], true, 0⟩]) && t.log.busy) = true
    ∧ after (exec .captureWriteComplete (capturing 1)) (fun t => decide (t.log.capFill = 4) && !t.log.busy
      && decide ((t.window.map (·.state)) = [.done])) = true := by decide

/-- The entry behind the measured one is as it was, after a classification and after a capture. -/
theorem test_completion_leaves_others :
    let other := { res2Entry 2 .pending .waiting with roles := [] , kind := .mark, state := .done }
    let two := fun s : State => { s with window := s.window ++ [other] }
    after (exec .classificationReturned (two (classifying none false ⟨[10], 10, true, 0, false⟩))) (fun t =>
      decide (t.window.drop 1 = [other]) && decide ((t.window.map (·.cause)) = [some .overrange, none])) = true
    ∧ after (exec .captureWriteComplete (two (capturing 1))) (fun t =>
      decide (t.window.drop 1 = [other]) && decide ((t.window.map (·.state)) = [.done, .done])) = true := by decide

/-! ## The log, the rings and memory errors: witnesses -/

/-- An entry at the head, the log at a fill and release index. -/
def atHead (e : Entry) (fill release : Nat) : State :=
  let s := withWindow [e, res2Entry 2 .pending .waiting] running
  { s with log := { s.log with fill := fill, release := release, nextSeq := 212 } }

/-- The log hold of chapter 11: room 1 at fill 31 and release 33, none at fill 32. -/
theorem witness_HeadLeavesWindow :
    ((∃ e rest, (atHead (res2Entry 1 .done .contactOk) 31 33).window = e :: rest ∧ e.kind ≠ .mark ∧ unmeasured e = false)
      ∧ (atHead (res2Entry 1 .done .contactOk) 31 33).rc.run = .running
      ∧ (atHead (res2Entry 1 .done .contactOk) 31 33).log.busy = false
      ∧ (atHead (res2Entry 1 .done .contactOk) 31 33).log.held = false
      ∧ (atHead (res2Entry 1 .done .contactOk) 31 33).log.waiting = false)
    ∧ 1 ≤ ((33 : Int) - 31 - 1) % (Settings.reset.logSize : Int)
    ∧ ((33 : Int) - 32 - 1) % (Settings.reset.logSize : Int) < 1
    ∧ (recordKindCode (failedStep .noContact).kind = 1 ∧ entryClass (failedStep .noContact) ≠ .pass)
    ∧ (entryClass (res2Entry 1 .done .contactOk) = .pass ∧ Settings.reset.logPasses = false)
    ∧ unmeasured (res2Entry 1 .ready .contactOk) = true
    ∧ ({ res2Entry 1 .done .waiting with kind := .mark } : Entry).kind = .mark :=
  ⟨⟨⟨_, _, rfl, by decide, rfl⟩, rfl, rfl, rfl, rfl⟩, by decide, by decide, by decide, by decide, by decide, rfl⟩

theorem test_head_taken :
    after (exec .headTaken (atHead (serviceEntryOf .park 0 .complete) 31 33)) (fun t => decide (t.window.length = 2)) = true
    ∧ after (exec .headTaken (atHead { serviceEntryOf .park 0 .complete with state := .done } 31 33)) (fun t =>
      decide (t.log.nextSeq = 213) && t.log.busy && decide (t.rc.summary.logged = 1)
        && decide ((t.port.reqs.map (·.addr)).head? = some 1984)) = true
    ∧ after (exec .headTaken (readRelease (atHead (failedStep .noContact) 32 33))) (fun t => t.log.waiting
      && decide (t.log.ahead = 1) && decide ((t.port.reqs.map (·.kind)).take 2 = [.release, .release])) = true
    ∧ after (exec .headTaken (atHead (failedStep .noContact) 32 33)) (fun t => t.log.waiting
      && decide ((t.port.reqs.map (·.kind)).head? = some .release) && decide (t.window.length = 2)) = true
    ∧ after (exec .markRemoved (ringOn (atHead { res2Entry 1 .done .waiting with kind := .mark, markValue := 40, board := 9 } 0 0)))
      (fun t => decide (t.notice.queue = [⟨.mark, 40, 0x09000003, 0, .plain⟩])) = true := by decide

/-- The record of a skipped step whose guard slot names the probe byte 12: the low three bits stand (log entry 36). -/
theorem test_record_fields :
    let e := { res2Entry 1 .skipped .waiting with
      kind := .skipped, slots := List.replicate 4 ⟨false, 3, 0⟩ ++ [⟨true, 12, 0⟩], nets := [] }
    let w := recordWords 5 99 e
    w.getD 0 0 = 5 ∧ w.getD 2 0 = 0x00000A01 ∧ w.getD 6 0 = 0 ∧ (w.getD 7 0).extractLsb' 0 8 = 0x84 ∧ w.getD 12 0 = 99 := by decide

theorem witness_RecordFields :
    let e := { res2Entry 1 .failed .waiting with
      cause := some .overrange, result := some ⟨-2, 3, 1, true, true, .overrange, 40, 60, none⟩
      slots := [⟨true, 2, 0⟩, ⟨false, 0, 0⟩, ⟨false, 0, 0⟩, ⟨true, 1, 1⟩, ⟨true, 4, 1⟩] }
    e.slots[roleIndex .forceHi]? = some ⟨true, 2, 0⟩ ∧ e.result.isSome = true ∧ e.state = .failed
    ∧ e.cause = some .overrange ∧ e.result.bind (·.capture) = none
    ∧ (recordWords 1 0 e).getD 9 0 = 0xFFFFFFFE ∧ (recordWords 1 0 e).getD 10 0 = 0xFFFFFFFF := by decide

/-- A record write in flight at slot 31 of 64, cut to three words. -/
def recording : State :=
  let s := ringOn running
  issue .record 1984 (.write [1, 1, 1]) { s with log := { s.log with fill := 31, writingSeq := 212, busy := true } }

/-- A release read in flight, waiting or held. -/
def releasing (waiting held : Bool) (fill : Nat) : State :=
  issue .release 260 (.read 1)
    { running with fetch := Fetcher.reset, log := { running.log with fill := fill, waiting := waiting, held := held } }

/-- A finished service entry at the head that waits for its own read, behind a number of reads of ROOM's. -/
def headWaits (ahead : Nat) : State :=
  let s := releasing true false 32
  { s with
    window := [{ serviceEntryOf .park 0 .complete with state := .done }]
    log := { s.log with ahead := ahead, nextSeq := 212 } }

/-- A release read in flight while held, with one more asked for. -/
def askedAgain (held : Bool) : State :=
  let s := releasing false held 32
  { s with log := { s.log with readAgain := true } }

/-- A read of ROOM's ahead of the head's own, a read to repeat, and the head's own with room and the head offered. -/
theorem witness_LogAdvancesAndWaits_reads :
    (∃ r v s1, serve .release (headWaits 1) = some (r, [v], s1) ∧ r.live = true ∧ (headWaits 1).log.waiting = true
      ∧ 0 < (headWaits 1).log.ahead ∧ (headWaits 1).log.readAgain = false)
    ∧ (∃ r v s1, serve .release (askedAgain true) = some (r, [v], s1) ∧ r.live = true ∧ (askedAgain true).log.readAgain = true
      ∧ (askedAgain true).log.waiting = false)
    ∧ (∃ r v s1, serve .release (withWords 260 [40] (headWaits 0)) = some (r, [v], s1) ∧ r.live = true
      ∧ (headWaits 0).log.ahead = 0 ∧ 1 ≤ (((v.toNat % 64 : Nat) : Int) - 32 - 1) % 64)
    ∧ (∃ e, offeredHead (headWaits 0) = some e) ∧ (headWaits 0).log.busy = false :=
  ⟨⟨_, _, _, rfl, rfl, rfl, by decide, rfl⟩, ⟨_, _, _, rfl, rfl, rfl, rfl⟩, ⟨_, _, _, rfl, rfl, by decide, by decide⟩,
    ⟨_, rfl⟩, rfl⟩

theorem witness_LogAdvancesAndWaits :
    ((∃ r ws s1, serve .record recording = some (r, ws, s1)) ∧ 64 ≤ recording.settings.logSize
      ∧ recording.notice.inForce = true ∧ recording.notice.queue.length < 16
      ∧ (recording.log.fill + 1) % recording.settings.logSize = recording.settings.logSize / 2)
    ∧ (∃ r v s1, serve .release (releasing false false 0) = some (r, [v], s1) ∧ r.live = true
      ∧ (releasing false false 0).log.readAgain = false)
    ∧ (∃ r v s1, serve .release (withWords 260 [33] (releasing true false 32)) = some (r, [v], s1) ∧ r.live = true
      ∧ (((v.toNat % 64 : Nat) : Int) - 32 - 1) % 64 < 1)
    ∧ (∃ r v s1, serve .release (withWords 260 [40] (releasing false true 32)) = some (r, [v], s1) ∧ r.live = true
      ∧ 1 ≤ (((v.toNat % 64 : Nat) : Int) - 32 - 1) % 64 ∧ offeredHead s1 = none)
    ∧ ({ running with log := { running.log with held := true } } : State).log.held = true
    ∧ hasLive .release running = false ∧ (inRun .guardHold).rc.run = .guardHold ∧ running.log.held = false :=
  ⟨⟨⟨_, _, _, rfl⟩, by decide, rfl, by decide, by decide⟩, ⟨_, _, _, rfl, rfl, rfl⟩, ⟨_, _, _, rfl, rfl, by decide⟩,
    ⟨_, _, _, rfl, rfl, by decide, rfl⟩, rfl, rfl, rfl, rfl⟩

theorem test_record_written :
    after (exec .recordWriteComplete recording) (fun t => decide (t.log.fill = 32) && !t.log.busy
      && decide (t.notice.queue = [⟨.logHalf, 32, 212, 0, .plain⟩]) && decide (memWord t.mem 1984 = 1)) = true := by decide

theorem test_release_read :
    after (exec .releaseReadComplete (withWords 260 [33] (releasing true false 32))) (fun t => t.log.held && t.notice.pend.logHeld) = true
    ∧ after (exec .releaseReadComplete (withWords 260 [40] (releasing false true 32))) (fun t => !t.log.held
      && decide (t.log.release = 40)) = true
    ∧ after (exec .releaseReadComplete (withWords 260 [40] (headWaits 1))) (fun t => t.log.waiting && decide (t.log.ahead = 0)
      && decide (t.log.release = 40) && decide (t.window.length = 1)) = true
    ∧ after (exec .releaseReadComplete (withWords 260 [40] (headWaits 0))) (fun t =>
      !t.log.held && decide (t.window.length = 0) && decide (t.log.nextSeq = 213)) = true
    ∧ after (exec .releasePoll { inRun .guardHold with log := { running.log with held := true } }) (fun t =>
      decide (t.port.reqs = [])) = true := by decide

/-- The notice ring of chapter 11 at index 127 of wrap 3. -/
def lastNotice : State :=
  let s := noticeInFlight .plain running
  { s with notice := { s.notice with fill := 127, wrap := 3 }, settings := { s.settings with noticeMask := 0x100 } }

theorem witness_NoticeWritten :
    (∃ r ws s1, serve .notice lastNotice = some (r, ws, s1) ∧ r.live = true)
    ∧ lastNotice.notice.queue = [⟨.paused, 0, 0, 0, .plain⟩] :=
  ⟨⟨_, _, _, rfl, rfl⟩, rfl⟩

theorem test_notice_written :
    after (exec .noticeWriteComplete lastNotice) (fun t => decide (t.notice.fill = 0) && decide (t.notice.wrap = 4)
      && t.notice.pend.notice && decide ((t.port.reqs.map (·.body)).head? = some (.write [0x00040000]))) = true := by decide

/-- A ring whose queue is full, with two requests held. -/
def heldNotices : State :=
  let s := noticeInFlight .plain running
  { s with notice := { s.notice with
      base := 4096, fill := 5
      queue := ⟨.paused, 0, 0, 0, .plain⟩ :: List.replicate 15 ⟨.areaDone, 1, 2, 3, .plain⟩
      held := [⟨.mark, 4, 0, 0, .plain⟩, ⟨.mark, 5, 0, 0, .plain⟩] } }

theorem witness_NoticeWritten_next :
    (∃ r ws s1, serve .notice heldNotices = some (r, ws, s1) ∧ r.live = true ∧ hasLive .notice s1 = false)
    ∧ (hasLive .notice heldNotices = true ∧ (ringOn running).notice.queue = [] ∧ hasLive .notice (queued 3 running) = false)
    ∧ running.notice.inForce = false ∧ (queued 15 running).notice.queue.length < 16
    ∧ 16 ≤ (queued 16 running).notice.queue.length :=
  ⟨⟨_, _, _, rfl, rfl, rfl⟩, by decide, rfl, by decide, by decide⟩

/-- The first held request takes the free place, and AREA_DONE, code 11, is written at slot 6 (R180, R181, spec 12.4). -/
theorem test_next_notice :
    after (exec .noticeWriteComplete heldNotices) (fun t => decide (t.notice.queue.length = 16)
      && decide ((t.notice.queue.getLast?.map (·.first)) = some 4) && decide ((t.notice.held.map (·.first)) = [5])
      && decide (((t.port.reqs.drop 1).map fun r => (r.addr, r.body)).head? = some (4192, .write [11, 1, 2, 3]))) = true := by decide

/-- The last word of the window, and one word past it. -/
theorem witness_PortServesAndFails :
    (∃ r rest, (issue .record 33554428 (.write [1]) running).port.reqs = r :: rest ∧ r.addr + 4 * r.words ≤ 33554432)
    ∧ (∃ r rest, (issue .record 33554432 (.write [1]) running).port.reqs = r :: rest ∧ 33554432 < r.addr + 4 * r.words)
    ∧ (∃ r s1, serveFailing .fetch 2 (issue .fetch 0 (.read 16) running) = some (r, s1)
      ∧ running.rc.run ≠ .idle ∧ running.rc.run ≠ .halted)
    ∧ (∃ r s1, serveFailing .haltWrite 0 (haltClosing .summary true) = some (r, s1)
      ∧ (haltClosing .summary true).rc.run = .halted) :=
  ⟨⟨_, _, rfl, by decide⟩, ⟨_, _, rfl, by decide⟩, ⟨_, _, rfl, by decide, by decide⟩, ⟨_, _, rfl, rfl⟩⟩

theorem test_memory_error :
    after (exec (.memoryError .record 1) recording) (fun t => decide (memWord t.mem 1984 = 1) && decide (memWord t.mem 1988 = 0)
      && decide (t.rc.endCode = .memoryError) && t.notice.pend.memoryError && decide (t.log.fill = 31)) = true
    ∧ after (exec .fetchReadComplete (issue .fetch 33554432 (.read 16) (fetching .entry))) (fun t =>
      decide (t.port.reqs.length = 1)) = true := by decide

/-- A release read that ROOM made, in IDLE, with one more asked for (R4). -/
def idleReading : State := { askedAgain false with rc := (inRun .idle).rc }

/-- Two fill words before a record, requests of two blocks made in one step, and two of one block. -/
theorem witness_PortServesAndFails_order :
    let fills := issue .record 64 (.write [9]) (issue .logFill 256 (.write [3]) (issue .captureFill 264 (.write [4]) running))
    let blocks := issue .record 64 (.write [9]) (issue .fetch 0 (.read 16) running)
    let later := issue .record 64 (.write [9]) (sealPort (issue .fetch 0 (.read 16) running))
    ((∃ q1 q2 r, fills.port.reqs = [q1, q2] ++ r :: [] ∧ r.kind = .record ∧ (∀ q ∈ [q1, q2], q.kind ≠ .record)
        ∧ ∀ q ∈ [q1, q2], isFillWord q.kind = true)
      ∧ (∃ q r, blocks.port.reqs = [q] ++ r :: [] ∧ r.kind = .record ∧ q.epoch = r.epoch ∧ reqBlock q.kind ≠ reqBlock r.kind)
      ∧ (∃ q r, later.port.reqs = [q] ++ r :: [] ∧ isFillWord q.kind = false ∧ q.epoch ≠ r.epoch))
    ∧ (∀ r ∈ running.port.reqs, r.kind ≠ .record) ∧ Memory.wf running.mem = true
    ∧ (∃ r s1, serveFailing .release 0 idleReading = some (r, s1) ∧ r.live = true ∧ idleReading.log.readAgain = true
      ∧ idleReading.rc.run = .idle)
    ∧ (∃ r s1, serveFailing .notice 0 { heldNotices with rc := (inRun .halted).rc } = some (r, s1) ∧ r.live = true) :=
  ⟨⟨⟨_, _, _, rfl, rfl, by decide, by decide⟩, ⟨_, _, rfl, rfl, rfl, by decide⟩, ⟨_, _, rfl, rfl, by decide⟩⟩, by decide, by decide,
    ⟨_, _, rfl, rfl, rfl, rfl⟩, ⟨_, _, rfl, rfl⟩⟩

/-- The fill words are written before the record, in passing; the record of another block's step may come first; a later step's
may not (R13). -/
theorem test_port_order :
    let fills := issue .record 64 (.write [9]) (issue .logFill 256 (.write [3]) (issue .captureFill 264 (.write [4]) running))
    let blocks := issue .record 64 (.write [9]) (issue .fetch 0 (.read 16) running)
    after (exec .recordWriteComplete fills) (fun t => decide (t.mem = [(64, 9), (256, 3), (264, 4)])) = true
    ∧ after (exec .recordWriteComplete blocks) (fun t => decide ((t.port.reqs.map (·.kind)) = [.fetch, .logFill])) = true
    ∧ (serve .record (issue .record 64 (.write [9]) (sealPort (issue .fetch 0 (.read 16) running)))).isNone = true := by decide

/-- In IDLE the second read that ROOM asked for follows the one that failed (R4, log entry 19). -/
theorem test_failed_room_read :
    after (exec (.memoryError .release 0) idleReading) (fun t => !t.log.readAgain && decide (t.rc.run = .idle)
      && decide ((t.port.reqs.map fun r => (r.kind, r.live)) = [(.release, true)])) = true
    ∧ after (exec (.memoryError .release 0) (askedAgain false)) (fun t => !t.log.readAgain && decide (t.rc.run = .halted)
      && !hasLive .release t) = true := by decide

/-! ## Diversions: witnesses -/

/-- A run with a diversion table of one entry for every cause, a diversion active or not. -/
def diverting (act : DivAction) (active : Bool) : State :=
  { running with div := { running.div with
    table := Per.all ⟨act, 192, 2, 1, .continue_⟩, active := active
    firstCause := if active then some .overrange else none } }

/-- The same with P0 service-due. -/
def tipDue (act : DivAction) : State := withProbe 0 (fun r => { r with due := true }) (diverting act false)

/-- The same with the retry budget of the failed step's origin spent, or one below. -/
def retried (n : Nat) : State :=
  let s := diverting .divert false
  { s with div := { s.div with retryCount := n, retryOrigin := some (failedStep .noContact).snap.origin } }

theorem witness_RemovalsDecided :
    ((diverting .divert false).div.active = false ∧ (∀ p, (probe (diverting .divert false) p).due = false)
      ∧ (res2Entry 1 .done .contactOk).state ≠ .failed ∧ (failedStep .noContact).state = .failed
      ∧ (failedStep .noContact).cause = some .noContact)
    ∧ ((tableEntry (retried 1) .noContact).budget ≤ (retried 1).div.retryCount
      ∧ (retried 1).div.retryOrigin = some (failedStep .noContact).snap.origin)
    ∧ ¬(tableEntry (retried 0) .noContact).budget ≤ (retried 0).div.retryCount
    ∧ ((tableEntry (diverting .halt false) .noContact).action = .halt ∧ (diverting .halt false).rc.run ≠ .halted)
    ∧ ((diverting .divert true).div.active = true ∧ (diverting .divert true).div.firstCause = some .overrange
      ∧ (tableEntry (diverting .divert true) .noContact).action = .divert)
    ∧ (tableEntry (diverting .continue_ true) .noContact).action = .continue_
    ∧ ((tipDue .divert).div.active = false ∧ (probe (tipDue .divert) 0).due = true
      ∧ (tableEntry (tipDue .divert) .tipService).action = .divert)
    ∧ (tableEntry (tipDue .halt) .tipService).action = .halt
    ∧ (tableEntry (tipDue .continue_) .tipService).action = .continue_ := by decide

theorem test_removals :
    (takeRemoval (failedStep .noContact) (retried 0)).fetch.list = 192 ∧ (takeRemoval (failedStep .noContact) (retried 0)).div.active = true
    ∧ (takeRemoval (failedStep .noContact) (retried 1)) = retried 1
    ∧ (takeRemoval (failedStep .noContact) (diverting .divert true)).rc.endCauses = 0x00030002
    ∧ (takeRemoval (res2Entry 1 .done .contactOk) (ringOn (tipDue .divert))).div.returnAfter = true
    ∧ (takeRemoval (res2Entry 1 .done .contactOk) (ringOn (tipDue .divert))).notice.queue.map (fun n => (n.kind, n.first))
      = [(.divertEntered, 8)]
    ∧ (takeRemoval (failedStep .noContact) (ringOn (retried 0))).notice.queue = [⟨.divertEntered, 3,
      BitVec.ofNat 32 (failedStep .noContact).snap.origin.index, 0, .plain⟩] := by decide

/-- A failed removal decided as CONTINUE, or with its budget spent, while P0 is due; a removal of a finished step in a diversion. -/
theorem witness_RemovalsDecided_due :
    let s := { tipDue .continue_ with div := { (tipDue .continue_).div with
      table := { (tipDue .continue_).div.table with p7 := ⟨.divert, 192, 2, 1, .halt⟩ } } }
    (s.div.active = false ∧ s.rc.run ≠ .halted ∧ (probe s 0).due = true ∧ (failedStep .noContact).state = .failed
      ∧ (failedStep .noContact).cause = some .noContact ∧ s.div.retryOrigin ≠ some (failedStep .noContact).snap.origin
      ∧ (tableEntry s .noContact).action = .continue_ ∧ (tableEntry s .tipService).action = .divert)
    ∧ ((diverting .halt true).div.active = true ∧ (res2Entry 1 .done .contactOk).state ≠ .failed)
    ∧ (causeCode .noContact = (2 : ProbeNo).val + 1)
    ∧ (takeRemoval (failedStep .noContact) s).div.active = true
    ∧ (takeRemoval (failedStep .noContact) s).div.firstCause = some .tipService
    ∧ (takeRemoval (failedStep .noContact) s).fetch.bank = 2
    ∧ takeRemoval (res2Entry 1 .done .contactOk) (diverting .halt true) = diverting .halt true := by decide

/-- A recovery list that holds a RESUME. -/
def resuming (m : ResumeMode) (after : Bool) : State :=
  let s := diverting .divert true
  { s with
    fetch := { s.fetch with held := some (.resume m), recovery := true, bank := 2 }
    div := { s.div with returnPoint := some ⟨⟨.a, 64, 3⟩, 0, 1⟩, returnAfter := after, savedBank := 1 } }

theorem witness_ResumeLeavesDiversion :
    ((resuming .retry false).fetch.held = some (.resume .retry) ∧ (resuming .retry false).window = []
      ∧ (resuming .retry false).rc.run = .running ∧ (resuming .retry false).div.returnPoint = some ⟨⟨.a, 64, 3⟩, 0, 1⟩
      ∧ (resuming .retry false).div.returnAfter = false)
    ∧ (resuming .retry true).div.returnAfter = true ∧ (resuming .next false).fetch.held = some (.resume .next)
    ∧ (resuming .halt false).fetch.held = some (.resume .halt) := by decide

theorem test_resume :
    after (exec .resumeReleased (ringOn (resuming .retry false))) (fun t => decide (t.fetch.index = 3) && decide (t.fetch.bank = 1)
      && decide (t.notice.queue = [⟨.divertReturned, 1, 1, 0, .plain⟩]) && decide (t.div.retryCount = 1) && !t.div.active && !t.fetch.recovery) = true
    ∧ after (exec .resumeReleased (resuming .retry true)) (fun t => decide (t.fetch.index = 4) && decide (t.div.retryCount = 0)) = true := by
  decide

/-! ## Arithmetic and the whole machine: witnesses -/

theorem witness_ExactArithmetic :
    0 < 1073741824 ∧ (2 * ((3 : Int) - roundHalfAway 3 2 * 2).natAbs = 2) ∧ 8 ≤ 8
    ∧ ((-2147483648 : Int) ≤ 0 + -2147483648 ∧ (0 : Int) + -2147483648 ≤ 2147483647) ∧ (2147483647 : Int) < 1 + 2147483647
    ∧ (2000 : Int) ≤ ((2000 : Int) - 0).natAbs := by decide

/-- The ends of R149's table are reached. -/
theorem witness_ReadingValueBounds :
    attemptValue .res2 6 { autoBank 8 with vth := 200 } 100000 ⟨[], -134217728, false, 1, false⟩ = -20971620000
    ∧ attemptValue .res4 6 (autoBank 8) 0 ⟨[], 134217472, false, 1, false⟩ = 20971480000
    ∧ attemptValue .cap 6 { autoBank 8 with vth := 2000 } 1000000 ⟨[], 0, false, 1, false⟩ = -999999
    ∧ attemptValue .cap 0 { autoBank 8 with vth := 200 } 0 ⟨[], 0, false, 2147483648, false⟩ = 10737418240000000
    ∧ (-134217728 : Int) = -524288 * (2 ^ (autoBank 8).k : Nat) ∧ (134217472 : Int) ≤ 524287 * (2 ^ (autoBank 8).k : Nat) := by
  decide

/-- The worked two-wire resistance of chapter 9, with its null at row P0 and column P1, and another at row P1 and column P0. -/
theorem test_final_value :
    let s := withBank { autoBank 0 with k := 4 } { running with unit := { running.unit with
      resNull := (running.unit.resNull.set 0 ((Per.all 0).set 1 1250)).set 1 ((Per.all 0).set 0 77) } }
    let r := { stepRec .classifying .res2 with attempt := ⟨[], 400010, false, 0, false⟩ }
    finalValue s r = 998790 ∧ finalValue s { r with kind := .res4 } = 1000040 ∧ finalValue s { r with hi := 1, lo := 0 } = 999963
    ∧ r.kind = .res2 ∧ MeasKind.cont ≠ .res2 ∧ MeasKind.cont ≠ .cap
    ∧ s.unit.banks[3]? = some { autoBank 0 with k := 4 } := by decide

theorem witness_LimitsAndClassification :
    (MeasKind.res2 ≠ .cont ∧ (⟨[], 0, true, 0, false⟩ : Attempt).saturated = true)
    ∧ (MeasKind.cap ≠ .cont ∧ (⟨[], 0, false, 9, false⟩ : Attempt).crossed = false)
    ∧ limitBounds (.abs (-5) (-5)) = some (-5, -5) ∧ ((0 : Int) ≤ 0) ∧ ((-333 : Int) < 0)
    ∧ ((2000 : Int) < 2001 ∧ (2001 : Int) < 100000) ∧ ((2000 : Nat) : Int) < 100000 ∧ (2000 : Int) ≤ 2000 := by decide

/-- A measurement under way over two probes that stand verified. -/
def standing : State :=
  withProbe 0 (standingAt 0 0) (withProbe 1 (standingAt 5000 0) (acquiring .acquiring .res2))

theorem witness_RetouchTargets :
    ((7, 1, -1) : Nat × Int × Int) ∈ [(1, 1, 0), (2, -1, 0), (3, 0, 1), (4, 0, -1), (5, 1, 1), (6, -1, -1), (7, 1, -1)] := by decide

/-- The source on over standing probes, and over probes that do not stand (R133). -/
theorem witness_SettleLeaves :
    ((inRun .guardHold).rc.run ≠ .running ∧ (inRun .guardHold).rc.run ≠ .boardWait ∧ (inRun .guardHold).rc.run ≠ .stopping)
    ∧ (running.rc.run = .running ∧ running.rc.areaSeq ≠ some .move)
    ∧ ((moving true true).rc.run = .running ∧ (moving true true).rc.areaSeq = some .move)
    ∧ ((inRun .boardWait).rc.run = .boardWait ∧ (inRun .stopping).rc.run = .stopping)
    ∧ InterlockHeld standing ∧ ¬InterlockHeld (acquiring .acquiring .res2) := by
  refine ⟨by decide, by decide, by decide, by decide, fun _ => ⟨_, _, rfl, rfl, by decide⟩, fun h => ?_⟩
  obtain ⟨r, e, h1, h2, h3⟩ := h rfl
  cases h1
  cases h2
  revert h3
  decide

theorem test_interlock :
    interlock standing = standing ∧ (interlock (acquiring .acquiring .res2)).unit.sourceOn = false
    ∧ (interlock (acquiring .acquiring .res2)).unit.step = none := by decide

/-- A measurement in progress, and none (R140). -/
theorem witness_SettleLeaves_abort :
    running.unit.step = none ∧ standing.unit.step ≠ none
    ∧ ((abortMeasurement (capturing 2)).port.reqs.map (·.live)) = [false, false] := by decide

theorem witness_OnlyNamedCommandsChange :
    (∃ t, exec .room running = .next t) ∧ servesPort .room = false ∧ reachesRegisters .room = false
    ∧ (∃ t, exec .runWordReadComplete (switching true) = .next t) ∧ Instr.runWordReadComplete ≠ .loadingReadComplete :=
  ⟨⟨_, rfl⟩, rfl, rfl, ⟨_, rfl⟩, by decide⟩

theorem witness_MemoryCanonicalKept :
    let s := (withWords 0 [0x01000200] recording).withPending [.recordWriteComplete]
    Memory.wf s.mem = true ∧ s.mem = [(1, 2), (3, 1)] ∧ ∃ t, step s = .next t :=
  ⟨by decide, by decide, ⟨_, rfl⟩⟩

/-- A window of eight entries with the next place's number above them, and a stack of four frames. -/
theorem witness_BoundsKept :
    let s := (withWindow ((List.range 8).map fun u => res2Entry u .done .contactOk) (nested 4)).withPending [.stop]
    (∃ t, step s = .next t) ∧ s.window.length = 8 ∧ s.fetch.stack.length = 4
    ∧ (s.window.map (·.uid)).Nodup ∧ (∀ e ∈ s.window, e.uid < s.nextUid) ∧ s.notice.queue.length ≤ 16
    ∧ (∀ p, (probe s p).touch ≤ 65535 ∧ (probe s p).miss ≤ 15) :=
  ⟨⟨_, rfl⟩, by decide⟩

/-- A measurement under way with the source on, another probe's order outstanding, and the guard about to open. -/
theorem witness_SafeStateKept :
    let s := ({ guardAt true false standing with link :=
      { standing.link with probes := standing.link.probes.set 2 (ordered .lift Probe.reset), sent := [2] } } : State)
    let t := s.withPending [.guardOpened]
    SafeState t ∧ EntriesDistinct t ∧ InterlockHeld t ∧ SendSequence t ∧ t.unit.sourceOn = true ∧ ∃ u, step t = .next u := by
  refine ⟨⟨?_, ?_, ?_⟩, ⟨by decide, by decide⟩, fun _ => ⟨_, _, rfl, rfl, by decide⟩, ⟨by decide, by decide⟩, rfl, _, rfl⟩
  · unfold LinkQuiet; decide
  · unfold GuardRespected; decide
  · unfold SourceGuarded; decide

/-- With nothing outstanding the free value of a reset touches no word, and a waiting command stays in its place. -/
theorem test_por_keeps_queue :
    after (step (running.withPending [.por, .room])) (fun t => decide (t.pending = [.room]) && decide (t.rc.run = .idle)
      && decide (t.free = 1) && t.regs.porFlag) = true := by decide

theorem test_ignored :
    step State.reset = .next State.reset ∧ exec (.ignoredRegisterWrite .ident 5) State.reset = .next State.reset
    ∧ exec .room State.reset = .next State.reset := ⟨rfl, rfl, rfl⟩

theorem test_undefined_code : after (exec (.undefinedCommandCode 0) State.reset) (fun t => t.regs.refused) = true := by decide

end Sys2Proof.Tests
end

section
/-! PROOFS. What every command leaves as it was, one lemma per command: the queue of waiting commands, shared memory, the registers,
the settings and the correction; and from these the statements about every command. -/

namespace Sys2Proof.Machine

open Sys2Proof

/-! ## How a command ends -/

/-- The command ends in a next state, and that state has the property. -/
def Ends (o : Host.Outcome State Fault Refusal) (P : State → Prop) : Prop := ∃ t, o = .next t ∧ P t

@[simp] theorem ends_next (t : State) (P : State → Prop) : Ends (.next t) P ↔ P t := by simp [Ends]
@[simp] theorem ends_done (u : State) (P : State → Prop) : Ends (done u) P ↔ P (sealPort u) := ends_next _ P
@[simp] theorem ends_finish (u : State) (P : State → Prop) : Ends (finish u) P ↔ P (sealPort (settle u)) := ends_next _ P

theorem Ends.mono {o : Host.Outcome State Fault Refusal} {P Q : State → Prop} (h : Ends o P) (hpq : ∀ t, P t → Q t) :
    Ends o Q := by
  obtain ⟨t, ho, ht⟩ := h
  exact ⟨t, ho, hpq t ht⟩

/-- The command queue, shared memory, the registers, the settings and the correction are as they were. -/
def Quiet (s t : State) : Prop :=
  t.pending = s.pending ∧ t.mem = s.mem ∧ t.regs = s.regs ∧ t.settings = s.settings ∧ t.corr = s.corr

/-- The same but for the registers. -/
def QuietButRegs (s t : State) : Prop :=
  t.pending = s.pending ∧ t.mem = s.mem ∧ t.settings = s.settings ∧ t.corr = s.corr

/-- A block has gone on after a request was served or failed: the command queue and the registers are as they were, and shared
memory, if it was in its canonical form, still is. -/
def Served (s t : State) : Prop :=
  t.pending = s.pending ∧ t.regs = s.regs ∧ (Memory.wf s.mem = true → Memory.wf t.mem = true)

/-- The settings and the correction are as they were. -/
def KeepsSettings (s t : State) : Prop := t.settings = s.settings ∧ t.corr = s.corr

/-! ## Commands in which the Memory Port serves nothing and which do not reach the registers -/

@[simp] theorem setLine_quiet (l : MachineLine) (v : Line) (s : State) : Quiet s (setLine l v s) := by
  cases l <;> simp [setLine, Quiet]

theorem Quiet.refl (s : State) : Quiet s s := ⟨rfl, rfl, rfl, rfl, rfl⟩

@[simp] theorem quiet_sealPort {s t : State} : Quiet s (sealPort t) ↔ Quiet s t := by simp [Quiet]

@[simp] theorem quiet_settle {s t : State} : Quiet s (settle t) ↔ Quiet s t := by simp [Quiet]

theorem execRoom_quiet (s : State) : Ends (execRoom s) (Quiet s) := by
  unfold execRoom; (repeat' split) <;> simp [Quiet]
theorem execIgnoredRegisterWrite_quiet (reg : IgnoredRegister) (v : Word) (s : State) : Ends (execIgnoredRegisterWrite reg v s) (Quiet s) := by
  simp [execIgnoredRegisterWrite, Quiet]
theorem execRawLineChange_quiet (l : MachineLine) (b : Bool) (s : State) : Ends (execRawLineChange l b s) (Quiet s) := by
  simp [execRawLineChange]
theorem execFirstLevelTaken_quiet (l : MachineLine) (s : State) : Ends (execFirstLevelTaken l s) (Quiet s) := by
  unfold execFirstLevelTaken; split <;> simp [Quiet.refl]
theorem execGuardOpened_quiet (s : State) : Ends (execGuardOpened s) (Quiet s) := by
  unfold execGuardOpened; (repeat' split) <;> simp [Quiet]
theorem execGuardClosed_quiet (s : State) : Ends (execGuardClosed s) (Quiet s) := by
  unfold execGuardClosed; (repeat' split) <;> simp [Quiet]
theorem execBoardLost_quiet (s : State) : Ends (execBoardLost s) (Quiet s) := by
  unfold execBoardLost; (repeat' split) <;> simp [Quiet]
theorem execBoardSeated_quiet (s : State) : Ends (execBoardSeated s) (Quiet s) := by
  unfold execBoardSeated; (repeat' split) <;> simp [Quiet]
theorem execLinkDown_quiet (s : State) : Ends (execLinkDown s) (Quiet s) := by
  unfold execLinkDown; (repeat' split) <;> simp [Quiet]
theorem execLinkUp_quiet (s : State) : Ends (execLinkUp s) (Quiet s) := by
  unfold execLinkUp; (repeat' split) <;> simp [Quiet]
theorem execTimeStampTick_quiet (s : State) : Ends (execTimeStampTick s) (Quiet s) := by
  unfold execTimeStampTick; (repeat' split) <;> simp [Quiet]
theorem execTimeWrap_quiet (s : State) : Ends (execTimeWrap s) (Quiet s) := by
  unfold execTimeWrap; (repeat' split) <;> simp [Quiet]
theorem execLanded_quiet (p : ProbeNo) (tag : BitVec 4) (s : State) : Ends (execLanded p tag s) (Quiet s) := by
  unfold execLanded; split <;> simp [staleReport, Quiet]
theorem execLifted_quiet (p : ProbeNo) (tag : BitVec 4) (s : State) : Ends (execLifted p tag s) (Quiet s) := by
  unfold execLifted; split <;> simp [staleReport, Quiet]
theorem execParked_quiet (p : ProbeNo) (tag : BitVec 4) (s : State) : Ends (execParked p tag s) (Quiet s) := by
  unfold execParked; split <;> simp [staleReport, Quiet]
theorem execCleaned_quiet (p : ProbeNo) (tag : BitVec 4) (s : State) : Ends (execCleaned p tag s) (Quiet s) := by
  unfold execCleaned; split <;> simp [staleReport, Quiet]
theorem execFault_quiet (p : ProbeNo) (tag : BitVec 4) (code : Byte) (s : State) : Ends (execFault p tag code s) (Quiet s) := by
  simp [execFault, Quiet]
theorem execStopped_quiet (s : State) : Ends (execStopped s) (Quiet s) := by
  unfold execStopped; split <;> simp [staleReport, Quiet]
theorem execOrderDeadlineExpiry_quiet (p : ProbeNo) (s : State) : Ends (execOrderDeadlineExpiry p s) (Quiet s) := by
  unfold execOrderDeadlineExpiry; (repeat' split) <;> simp [Quiet]
theorem execStopDeadlineExpiry_quiet (s : State) : Ends (execStopDeadlineExpiry s) (Quiet s) := by
  unfold execStopDeadlineExpiry; (repeat' split) <;> simp [Quiet]
theorem execReturnReleased_quiet (s : State) : Ends (execReturnReleased s) (Quiet s) := by
  unfold execReturnReleased; (repeat' split) <;> simp [Quiet]
theorem execEndDrained_quiet (s : State) : Ends (execEndDrained s) (Quiet s) := by
  unfold execEndDrained; (repeat' split) <;> simp [Quiet]
theorem execPauseDrained_quiet (s : State) : Ends (execPauseDrained s) (Quiet s) := by
  unfold execPauseDrained; (repeat' split) <;> simp [Quiet]
theorem execResumeReleased_quiet (s : State) : Ends (execResumeReleased s) (Quiet s) := by
  unfold execResumeReleased; (repeat' split) <;> simp [Quiet]
theorem execReadyPoll_quiet (s : State) : Ends (execReadyPoll s) (Quiet s) := by
  unfold execReadyPoll; (repeat' split) <;> simp [Quiet]
theorem execCheckEnd_quiet (p : ProbeNo) (loop : Option Nat) (s : State) : Ends (execCheckEnd p loop s) (Quiet s) := by
  unfold execCheckEnd; (repeat' split) <;> simp [Quiet]
theorem execMeasurementTake_quiet (s : State) : Ends (execMeasurementTake s) (Quiet s) := by
  unfold execMeasurementTake; (repeat' split) <;> simp [takeEntry, Quiet]
theorem execSettleElapsed_quiet (s : State) : Ends (execSettleElapsed s) (Quiet s) := by
  unfold execSettleElapsed; (repeat' split) <;> simp [Quiet]
theorem execSample_quiet (v : BitVec 20) (s : State) : Ends (execSample v s) (Quiet s) := by
  unfold execSample; (repeat' split) <;> simp [Quiet]
theorem execRampCrossing_quiet (n : Nat) (s : State) : Ends (execRampCrossing n s) (Quiet s) := by
  unfold execRampCrossing; (repeat' split) <;> simp [Quiet]
theorem execRampTimeLimit_quiet (s : State) : Ends (execRampTimeLimit s) (Quiet s) := by
  unfold execRampTimeLimit; (repeat' split) <;> simp [Quiet]
theorem execAttemptJudged_quiet (n : Nat) (s : State) : Ends (execAttemptJudged n s) (Quiet s) := by
  unfold execAttemptJudged; (repeat' split) <;> simp [Quiet]
theorem execClassificationReturned_quiet (s : State) : Ends (execClassificationReturned s) (Quiet s) := by
  unfold execClassificationReturned; dsimp only; (repeat' split) <;> simp [Quiet]
theorem execCaptureHandoff_quiet (s : State) : Ends (execCaptureHandoff s) (Quiet s) := by
  unfold execCaptureHandoff; (repeat' split) <;> simp [Quiet]
theorem execHeadTaken_quiet (s : State) : Ends (execHeadTaken s) (Quiet s) := by
  unfold execHeadTaken; (repeat' split) <;> simp [Quiet]
theorem execMarkRemoved_quiet (s : State) : Ends (execMarkRemoved s) (Quiet s) := by
  unfold execMarkRemoved; (repeat' split) <;> simp [Quiet]
theorem execReleasePoll_quiet (s : State) : Ends (execReleasePoll s) (Quiet s) := by
  unfold execReleasePoll; (repeat' split) <;> simp [Quiet]

/-! ## Commands that reach the registers -/

@[simp] theorem setRefused_quietButRegs (s : State) : QuietButRegs s (setRefused s) := by simp [QuietButRegs]

theorem execStartA_quietButRegs (s : State) : Ends (execStartA s) (QuietButRegs s) := by
  unfold execStartA; split <;> simp [QuietButRegs]
theorem execStartB_quietButRegs (s : State) : Ends (execStartB s) (QuietButRegs s) := by
  unfold execStartB; split <;> simp [QuietButRegs]
theorem execContinueRun_quietButRegs (s : State) : Ends (execContinueRun s) (QuietButRegs s) := by
  unfold execContinueRun; (repeat' split) <;> simp [QuietButRegs, continuePaused]
theorem execStop_quietButRegs (s : State) : Ends (execStop s) (QuietButRegs s) := by
  unfold execStop; split <;> simp [QuietButRegs]
theorem execUndefinedCommandCode_quietButRegs (code : Byte) (s : State) :
    Ends (execUndefinedCommandCode code s) (QuietButRegs s) := by
  unfold execUndefinedCommandCode; split <;> simp [QuietButRegs]
theorem execAnchorWrite_quietButRegs (v : Word) (s : State) : Ends (execAnchorWrite v s) (QuietButRegs s) := by
  unfold execAnchorWrite; split <;> simp [QuietButRegs]
theorem execStateWrite_quietButRegs (v : Word) (s : State) : Ends (execStateWrite v s) (QuietButRegs s) := by
  simp [execStateWrite, QuietButRegs]
theorem execCauseRead_quietButRegs (s : State) : Ends (execCauseRead s) (QuietButRegs s) := by
  simp [execCauseRead, QuietButRegs]
theorem execIrqEnableWrite_quietButRegs (v : Word) (s : State) : Ends (execIrqEnableWrite v s) (QuietButRegs s) := by
  simp [execIrqEnableWrite, QuietButRegs]

/-! ## Commands in which the Memory Port serves a request -/

/-- Serving a request keeps the queue, the registers, the settings and the correction, and the canonical form of memory. -/
theorem serve_served {k : ReqKind} {s s1 : State} {r : Request} {ws : List Word} (h : serve k s = some (r, ws, s1)) :
    Served s s1 ∧ KeepsSettings s s1 := by
  unfold serve at h
  split at h
  · cases h
  · split at h
    · cases h
      exact ⟨⟨rfl, rfl, fun hm => performReq_wf _ (performFills_wf _ hm)⟩, rfl, rfl⟩
    · cases h

/-- So does a request that fails. -/
theorem serveFailing_served {k : ReqKind} {n : Nat} {s s1 : State} {r : Request} (h : serveFailing k n s = some (r, s1)) :
    Served s s1 ∧ KeepsSettings s s1 := by
  unfold serveFailing at h
  split at h
  · cases h
  · split at h
    · cases h
      refine ⟨⟨rfl, rfl, fun hm => ?_⟩, rfl, rfl⟩
      dsimp only
      split
      · exact performFills_wf _ hm
      · exact memSetWords_wf _ _ (performFills_wf _ hm)
    · cases h

/-- A notice record's write keeps what serving it keeps. -/
theorem completeNotice_served {s s1 : State} (h : completeNotice s = some s1) : Served s s1 ∧ KeepsSettings s s1 := by
  unfold completeNotice at h
  split at h
  · cases h
  · cases h
    have hs := serve_served ‹_›
    split <;> simpa [Served, KeepsSettings] using hs

theorem execFetchReadComplete_served (s : State) :
    Ends (execFetchReadComplete s) fun t => Served s t ∧ KeepsSettings s t := by
  unfold execFetchReadComplete
  split
  · simp [Served, KeepsSettings]
  · have hs := serve_served ‹_›
    split <;> simpa [Served, KeepsSettings] using hs
theorem execReadyReadComplete_served (s : State) :
    Ends (execReadyReadComplete s) fun t => Served s t ∧ KeepsSettings s t := by
  unfold execReadyReadComplete
  split
  · simp [Served, KeepsSettings]
  · have hs := serve_served ‹_›
    split <;> simpa [Served, KeepsSettings] using hs
theorem execStoppingWriteComplete_served (s : State) :
    Ends (execStoppingWriteComplete s) fun t => Served s t ∧ KeepsSettings s t := by
  unfold execStoppingWriteComplete
  split
  · split
    · simp [Served, KeepsSettings]
    · simpa [Served, KeepsSettings] using completeNotice_served ‹_›
  · split
    · simp [Served, KeepsSettings]
    · have hs := serve_served ‹_›
      split <;> simpa [Served, KeepsSettings] using hs
theorem execHaltWriteComplete_served (s : State) :
    Ends (execHaltWriteComplete s) fun t => Served s t ∧ KeepsSettings s t := by
  unfold execHaltWriteComplete
  split
  · split
    · simp [Served, KeepsSettings]
    · simpa [Served, KeepsSettings] using completeNotice_served ‹_›
  · split
    · simp [Served, KeepsSettings]
    · have hs := serve_served ‹_›
      simpa [Served, KeepsSettings] using hs
theorem execAreaWriteComplete_served (s : State) :
    Ends (execAreaWriteComplete s) fun t => Served s t ∧ KeepsSettings s t := by
  unfold execAreaWriteComplete
  split
  · split
    · simp [Served, KeepsSettings]
    · simpa [Served, KeepsSettings] using completeNotice_served ‹_›
  · split
    · simp [Served, KeepsSettings]
    · have hs := serve_served ‹_›
      split <;> simpa [Served, KeepsSettings] using hs
theorem execCaptureWriteComplete_served (s : State) :
    Ends (execCaptureWriteComplete s) fun t => Served s t ∧ KeepsSettings s t := by
  unfold execCaptureWriteComplete
  split
  · simp [Served, KeepsSettings]
  · simpa [Served, KeepsSettings] using serve_served ‹_›
theorem execRecordWriteComplete_served (s : State) :
    Ends (execRecordWriteComplete s) fun t => Served s t ∧ KeepsSettings s t := by
  unfold execRecordWriteComplete
  split
  · simp [Served, KeepsSettings]
  · simpa [Served, KeepsSettings] using serve_served ‹_›
theorem execReleaseReadComplete_served (s : State) :
    Ends (execReleaseReadComplete s) fun t => Served s t ∧ KeepsSettings s t := by
  unfold execReleaseReadComplete
  split
  · simp [Served, KeepsSettings]
  · have hs := serve_served ‹_›
    split <;> simpa [Served, KeepsSettings] using hs
theorem execNoticeWriteComplete_served (s : State) :
    Ends (execNoticeWriteComplete s) fun t => Served s t ∧ KeepsSettings s t := by
  unfold execNoticeWriteComplete
  split
  · simp [Served, KeepsSettings]
  · simpa [Served, KeepsSettings] using completeNotice_served ‹_›
theorem execMemoryError_served (k : ReqKind) (n : Nat) (s : State) :
    Ends (execMemoryError k n s) fun t => Served s t ∧ KeepsSettings s t := by
  unfold execMemoryError
  split
  · simp [Served, KeepsSettings]
  · simpa [Served, KeepsSettings] using serveFailing_served ‹_›

/-- START loading is where the settings are taken (R10). -/
theorem execLoadingReadComplete_served (s : State) : Ends (execLoadingReadComplete s) (Served s) := by
  unfold execLoadingReadComplete
  split
  · simp [Served]
  · have hs := serve_served ‹_›
    split <;> simpa [Served, KeepsSettings] using hs.1

/-- The area switch takes the correction of the new run word (R61). -/
theorem execRunWordReadComplete_served (s : State) :
    Ends (execRunWordReadComplete s) fun t => Served s t ∧ t.settings = s.settings := by
  unfold execRunWordReadComplete
  split
  · simp [Served]
  · obtain ⟨hs, hk, -⟩ := serve_served ‹_›
    split <;> simpa [Served] using And.intro hs hk

/-! ## Resets -/

/-- A reset keeps the queue of waiting commands and, whatever it had written of its requests, the canonical form of memory. -/
theorem resetWith_kept (g : RegWindow) (ps : Per Probe) (s : State) :
    (resetWith g ps s).pending = s.pending ∧ (Memory.wf s.mem = true → Memory.wf (resetWith g ps s).mem = true) :=
  ⟨rfl, abandonWrites_wf _ _⟩

/-! ## Every command -/

/-- What a command leaves as it was, by the class of the command (R10, R11, R12, R61). -/
structure CommandFrame (c : Instr) (s t : State) : Prop where
  pending : t.pending = s.pending
  canonical : Memory.wf s.mem = true → Memory.wf t.mem = true
  mem : servesPort c = false → t.mem = s.mem
  regs : reachesRegisters c = false → t.regs = s.regs
  settings : c ≠ .loadingReadComplete → c ≠ .por → c ≠ .pin → c ≠ .softReset → t.settings = s.settings
  corr : c ≠ .loadingReadComplete → c ≠ .por → c ≠ .pin → c ≠ .softReset → c ≠ .runWordReadComplete → t.corr = s.corr

theorem Quiet.commandFrame {c : Instr} {s t : State} (h : Quiet s t) : CommandFrame c s t := by
  obtain ⟨hp, hm, hr, hs, hc⟩ := h
  exact ⟨hp, fun hw => by rwa [hm], fun _ => hm, fun _ => hr, fun _ _ _ _ => hs, fun _ _ _ _ _ => hc⟩

theorem QuietButRegs.commandFrame {c : Instr} {s t : State} (hc : reachesRegisters c = true) (h : QuietButRegs s t) :
    CommandFrame c s t := by
  obtain ⟨hp, hm, hs, hk⟩ := h
  exact ⟨hp, fun hw => by rwa [hm], fun _ => hm, fun hf => by simp [hc] at hf, fun _ _ _ _ => hs, fun _ _ _ _ _ => hk⟩

theorem Served.commandFrame {c : Instr} {s t : State} (hc : servesPort c = true) (h : Served s t ∧ KeepsSettings s t) :
    CommandFrame c s t := by
  obtain ⟨⟨hp, hr, hw⟩, hs, hk⟩ := h
  exact ⟨hp, hw, fun hf => by simp [hc] at hf, fun _ => hr, fun _ _ _ _ => hs, fun _ _ _ _ _ => hk⟩

/-- Every command ends in a next state that keeps its frame. -/
theorem exec_commandFrame (c : Instr) (s : State) : Ends (exec c s) (CommandFrame c s) := by
  cases c with
  | room => exact (execRoom_quiet s).mono fun _ => Quiet.commandFrame
  | ignoredRegisterWrite reg v => exact (execIgnoredRegisterWrite_quiet reg v s).mono fun _ => Quiet.commandFrame
  | rawLineChange l b => exact (execRawLineChange_quiet l b s).mono fun _ => Quiet.commandFrame
  | firstLevelTaken l => exact (execFirstLevelTaken_quiet l s).mono fun _ => Quiet.commandFrame
  | guardOpened => exact (execGuardOpened_quiet s).mono fun _ => Quiet.commandFrame
  | guardClosed => exact (execGuardClosed_quiet s).mono fun _ => Quiet.commandFrame
  | boardLost => exact (execBoardLost_quiet s).mono fun _ => Quiet.commandFrame
  | boardSeated => exact (execBoardSeated_quiet s).mono fun _ => Quiet.commandFrame
  | linkDown => exact (execLinkDown_quiet s).mono fun _ => Quiet.commandFrame
  | linkUp => exact (execLinkUp_quiet s).mono fun _ => Quiet.commandFrame
  | timeStampTick => exact (execTimeStampTick_quiet s).mono fun _ => Quiet.commandFrame
  | timeWrap => exact (execTimeWrap_quiet s).mono fun _ => Quiet.commandFrame
  | landed p tag => exact (execLanded_quiet p tag s).mono fun _ => Quiet.commandFrame
  | lifted p tag => exact (execLifted_quiet p tag s).mono fun _ => Quiet.commandFrame
  | parked p tag => exact (execParked_quiet p tag s).mono fun _ => Quiet.commandFrame
  | cleaned p tag => exact (execCleaned_quiet p tag s).mono fun _ => Quiet.commandFrame
  | fault p tag code => exact (execFault_quiet p tag code s).mono fun _ => Quiet.commandFrame
  | stopped => exact (execStopped_quiet s).mono fun _ => Quiet.commandFrame
  | orderDeadlineExpiry p => exact (execOrderDeadlineExpiry_quiet p s).mono fun _ => Quiet.commandFrame
  | stopDeadlineExpiry => exact (execStopDeadlineExpiry_quiet s).mono fun _ => Quiet.commandFrame
  | returnReleased => exact (execReturnReleased_quiet s).mono fun _ => Quiet.commandFrame
  | endDrained => exact (execEndDrained_quiet s).mono fun _ => Quiet.commandFrame
  | pauseDrained => exact (execPauseDrained_quiet s).mono fun _ => Quiet.commandFrame
  | resumeReleased => exact (execResumeReleased_quiet s).mono fun _ => Quiet.commandFrame
  | readyPoll => exact (execReadyPoll_quiet s).mono fun _ => Quiet.commandFrame
  | checkEnd p loop => exact (execCheckEnd_quiet p loop s).mono fun _ => Quiet.commandFrame
  | measurementTake => exact (execMeasurementTake_quiet s).mono fun _ => Quiet.commandFrame
  | settleElapsed => exact (execSettleElapsed_quiet s).mono fun _ => Quiet.commandFrame
  | sample v => exact (execSample_quiet v s).mono fun _ => Quiet.commandFrame
  | rampCrossing n => exact (execRampCrossing_quiet n s).mono fun _ => Quiet.commandFrame
  | rampTimeLimit => exact (execRampTimeLimit_quiet s).mono fun _ => Quiet.commandFrame
  | attemptJudged n => exact (execAttemptJudged_quiet n s).mono fun _ => Quiet.commandFrame
  | classificationReturned => exact (execClassificationReturned_quiet s).mono fun _ => Quiet.commandFrame
  | captureHandoff => exact (execCaptureHandoff_quiet s).mono fun _ => Quiet.commandFrame
  | headTaken => exact (execHeadTaken_quiet s).mono fun _ => Quiet.commandFrame
  | markRemoved => exact (execMarkRemoved_quiet s).mono fun _ => Quiet.commandFrame
  | releasePoll => exact (execReleasePoll_quiet s).mono fun _ => Quiet.commandFrame
  | startA => exact (execStartA_quietButRegs s).mono fun _ => QuietButRegs.commandFrame rfl
  | startB => exact (execStartB_quietButRegs s).mono fun _ => QuietButRegs.commandFrame rfl
  | continueRun => exact (execContinueRun_quietButRegs s).mono fun _ => QuietButRegs.commandFrame rfl
  | stop => exact (execStop_quietButRegs s).mono fun _ => QuietButRegs.commandFrame rfl
  | undefinedCommandCode code => exact (execUndefinedCommandCode_quietButRegs code s).mono fun _ => QuietButRegs.commandFrame rfl
  | anchorWrite v => exact (execAnchorWrite_quietButRegs v s).mono fun _ => QuietButRegs.commandFrame rfl
  | stateWrite v => exact (execStateWrite_quietButRegs v s).mono fun _ => QuietButRegs.commandFrame rfl
  | causeRead => exact (execCauseRead_quietButRegs s).mono fun _ => QuietButRegs.commandFrame rfl
  | irqEnableWrite v => exact (execIrqEnableWrite_quietButRegs v s).mono fun _ => QuietButRegs.commandFrame rfl
  | fetchReadComplete => exact (execFetchReadComplete_served s).mono fun _ => Served.commandFrame rfl
  | readyReadComplete => exact (execReadyReadComplete_served s).mono fun _ => Served.commandFrame rfl
  | stoppingWriteComplete => exact (execStoppingWriteComplete_served s).mono fun _ => Served.commandFrame rfl
  | haltWriteComplete => exact (execHaltWriteComplete_served s).mono fun _ => Served.commandFrame rfl
  | areaWriteComplete => exact (execAreaWriteComplete_served s).mono fun _ => Served.commandFrame rfl
  | captureWriteComplete => exact (execCaptureWriteComplete_served s).mono fun _ => Served.commandFrame rfl
  | recordWriteComplete => exact (execRecordWriteComplete_served s).mono fun _ => Served.commandFrame rfl
  | releaseReadComplete => exact (execReleaseReadComplete_served s).mono fun _ => Served.commandFrame rfl
  | noticeWriteComplete => exact (execNoticeWriteComplete_served s).mono fun _ => Served.commandFrame rfl
  | memoryError k n => exact (execMemoryError_served k n s).mono fun _ => Served.commandFrame rfl
  | loadingReadComplete =>
    refine (execLoadingReadComplete_served s).mono fun t ⟨hp, hr, hw⟩ => ?_
    exact ⟨hp, hw, nofun, fun _ => hr, fun h => absurd rfl h, fun h => absurd rfl h⟩
  | runWordReadComplete =>
    refine (execRunWordReadComplete_served s).mono fun t ⟨⟨hp, hr, hw⟩, hs⟩ => ?_
    exact ⟨hp, hw, nofun, fun _ => hr, fun _ _ _ _ => hs, fun _ _ _ _ h => absurd rfl h⟩
  | por =>
    obtain ⟨hp, hw⟩ := resetWith_kept RegWindow.reset (Per.all Probe.reset) s
    exact ⟨_, rfl, hp, hw, nofun, nofun, fun _ h => absurd rfl h, fun _ h => absurd rfl h⟩
  | pin =>
    obtain ⟨hp, hw⟩ := resetWith_kept { RegWindow.reset with porFlag := false, pinFlag := true } (Per.all Probe.reset) s
    exact ⟨_, rfl, hp, hw, nofun, nofun, fun _ _ h => absurd rfl h, fun _ _ h => absurd rfl h⟩
  | softReset =>
    obtain ⟨hp, hw⟩ := resetWith_kept (softRegs s.regs) (s.link.probes.map softProbe) s
    exact ⟨_, rfl, hp, hw, nofun, nofun, fun _ _ _ h => absurd rfl h, fun _ _ _ h => absurd rfl h⟩

theorem exec_next_commandFrame {c : Instr} {s t : State} (h : exec c s = .next t) : CommandFrame c s t := by
  obtain ⟨u, hu, hf⟩ := exec_commandFrame c s
  obtain rfl : u = t := by simpa [hu] using h
  exact hf

/-- The fill word that an idle step serves keeps the canonical form of memory. -/
theorem serveFillWord_wf {s : State} (hm : Memory.wf s.mem = true) : Memory.wf (serveFillWord s).mem = true := by
  unfold serveFillWord
  split
  · exact hm
  · split
    · exact performReq_wf _ hm
    · exact hm

end Sys2Proof.Machine

namespace Sys2Proof.Proofs

open Sys2Proof Sys2Proof.Machine

/-- Settles O58: a step serves a fill word or runs a command, and both keep the canonical form. -/
theorem memoryCanonicalKept : Obligations.MemoryCanonicalKept := by
  unfold Obligations.MemoryCanonicalKept MemoryCanonical
  intro s t hm h
  unfold step at h
  split at h
  · obtain rfl : serveFillWord s = t := by simpa using h
    exact serveFillWord_wf hm
  · exact (exec_next_commandFrame h).canonical hm

/-- Settles O56: the frame of every command. -/
theorem onlyNamedCommandsChange : Obligations.OnlyNamedCommandsChange := by
  unfold Obligations.OnlyNamedCommandsChange
  intro c s t h
  have hf := exec_next_commandFrame h
  exact ⟨hf.mem, hf.regs, fun h1 h2 h3 h4 => ⟨hf.settings h1 h2 h3 h4, hf.corr h1 h2 h3 h4⟩⟩

/-- Settles O1: both parts are the two branches of the step. -/
theorem stepRunsFrontCommand : Obligations.StepRunsFrontCommand := by
  unfold Obligations.StepRunsFrontCommand
  exact ⟨fun _ _ => rfl, fun s h => by simp only [step, h]⟩

/-- Settles O2: the frame of every command, of which the queue of waiting commands is a part. -/
theorem everyCommandCompletes : Obligations.EveryCommandCompletes := by
  unfold Obligations.EveryCommandCompletes
  exact fun c s => (exec_commandFrame c s).mono fun _ hf => hf.pending

end Sys2Proof.Proofs

end

section
/-! PROOFS. The register window: the words the host reads, the CAUSE read, the interrupt line, and the resets. -/

namespace Sys2Proof.Machine

open Sys2Proof

/-! ## Words the host reads, bit by bit -/

/-- A bit of a word, from the word as a number. -/
theorem getLsbD_of_toNat {w : Word} {k : Nat} {b : Bool} (h : w.toNat / 2 ^ k % 2 = b.toNat) : w.getLsbD k = b := by
  rw [← BitVec.testBit_toNat, Nat.testBit_eq_decide_div_mod_eq, h]
  cases b <;> rfl

/-- A field of a word, from the word as a number. -/
theorem extractLsb'_of_toNat {w : Word} {k n v : Nat} (h : w.toNat / 2 ^ k % 2 ^ n = v % 2 ^ n) :
    w.extractLsb' k n = BitVec.ofNat n v := by
  apply BitVec.eq_of_toNat_eq
  rw [BitVec.extractLsb'_toNat, Nat.shiftRight_eq_div_pow, h, BitVec.toNat_ofNat]

/-- A field of a word that reads 0. -/
theorem extractLsb'_eq_zero {w : Word} {k n : Nat} (h : w.toNat / 2 ^ k % 2 ^ n = 0) : w.extractLsb' k n = 0 := by
  apply BitVec.eq_of_toNat_eq
  rw [BitVec.extractLsb'_toNat, Nat.shiftRight_eq_div_pow, h]
  rfl

theorem regBit_eq (n : Nat) (b : Bool) : regBit n b = 2 ^ n * b.toNat := by
  cases b <;> simp [regBit]

theorem runCode_le (r : RunState) : runCode r ≤ 8 := by cases r <;> decide

theorem endCodeCode_le (c : EndCode) : endCodeCode c ≤ 9 := by cases c <;> decide

theorem areaCode_eq (x : Area) : areaCode x = (decide (x = .b)).toNat := by cases x <;> rfl

/-- What each field of STATE can hold. -/
theorem stateFields_le (s : State) :
    runCode s.rc.run ≤ 8 ∧ runCode s.rc.remembered ≤ 8 ∧ endCodeCode s.rc.endCode ≤ 9 ∧ (decide (s.rc.area = .b)).toNat ≤ 1
    ∧ s.regs.porFlag.toNat ≤ 1 ∧ s.regs.pinFlag.toNat ≤ 1 ∧ s.regs.softFlag.toNat ≤ 1 ∧ s.regs.refused.toNat ≤ 1
    ∧ s.log.held.toNat ≤ 1 ∧ s.div.active.toNat ≤ 1 ∧ s.rc.guardLine.filtered.toNat ≤ 1
    ∧ s.rc.boardLine.filtered.toNat ≤ 1 ∧ s.link.up.toNat ≤ 1 :=
  ⟨runCode_le _, runCode_le _, endCodeCode_le _, Bool.toNat_le _, Bool.toNat_le _, Bool.toNat_le _, Bool.toNat_le _,
    Bool.toNat_le _, Bool.toNat_le _, Bool.toNat_le _, Bool.toNat_le _, Bool.toNat_le _, Bool.toNat_le _⟩

/-- STATE as a number: no field reaches into the next (R5, spec 12.5). -/
theorem readState_toNat (s : State) : (readState s).toNat =
    runCode s.rc.run + 16 * runCode s.rc.remembered + 256 * endCodeCode s.rc.endCode + 4096 * (decide (s.rc.area = .b)).toNat
    + 65536 * s.regs.porFlag.toNat + 131072 * s.regs.pinFlag.toNat + 262144 * s.regs.softFlag.toNat
    + 524288 * s.regs.refused.toNat + 1048576 * s.log.held.toNat + 2097152 * s.div.active.toNat
    + 16777216 * s.rc.guardLine.filtered.toNat + 33554432 * s.rc.boardLine.filtered.toNat + 67108864 * s.link.up.toNat := by
  have hle := stateFields_le s
  simp only [readState, regBit_eq, areaCode_eq, guardOpen, boardPresent, BitVec.toNat_ofNat]
  rw [Nat.mod_eq_of_lt] <;> omega

/-- What each bit of IRQ_ENABLE can hold. -/
theorem enables_le (s : State) :
    s.regs.irqEnable.memoryError.toNat ≤ 1 ∧ s.regs.irqEnable.guard.toNat ≤ 1 ∧ s.regs.irqEnable.runEnd.toNat ≤ 1
    ∧ s.regs.irqEnable.logHeld.toNat ≤ 1 ∧ s.regs.irqEnable.notice.toNat ≤ 1 :=
  ⟨Bool.toNat_le _, Bool.toNat_le _, Bool.toNat_le _, Bool.toNat_le _, Bool.toNat_le _⟩

/-- IRQ_ENABLE as a number (R9). -/
theorem readIrqEnable_toNat (s : State) : (readIrqEnable s).toNat =
    s.regs.irqEnable.memoryError.toNat + 2 * s.regs.irqEnable.guard.toNat + 4 * s.regs.irqEnable.runEnd.toNat
    + 8 * s.regs.irqEnable.logHeld.toNat + 16 * s.regs.irqEnable.notice.toNat := by
  have hle := enables_le s
  simp only [readIrqEnable, regBit_eq, BitVec.toNat_ofNat]
  rw [Nat.mod_eq_of_lt] <;> omega

/-- The fields of STATE stand at their places, and the bits that no field names read 0 (R5, spec 12.5). -/
theorem readState_fields (s : State) :
    (readState s).extractLsb' 0 4 = BitVec.ofNat 4 (runCode s.rc.run)
    ∧ (readState s).extractLsb' 4 4 = BitVec.ofNat 4 (runCode s.rc.remembered)
    ∧ (readState s).extractLsb' 8 4 = BitVec.ofNat 4 (endCodeCode s.rc.endCode)
    ∧ (readState s).getLsbD 12 = decide (s.rc.area = .b)
    ∧ (readState s).extractLsb' 13 3 = 0
    ∧ (readState s).getLsbD 16 = s.regs.porFlag ∧ (readState s).getLsbD 17 = s.regs.pinFlag
    ∧ (readState s).getLsbD 18 = s.regs.softFlag ∧ (readState s).getLsbD 19 = s.regs.refused
    ∧ (readState s).getLsbD 20 = s.log.held ∧ (readState s).getLsbD 21 = s.div.active
    ∧ (readState s).extractLsb' 22 2 = 0
    ∧ (readState s).getLsbD 24 = s.rc.guardLine.filtered ∧ (readState s).getLsbD 25 = s.rc.boardLine.filtered
    ∧ (readState s).getLsbD 26 = s.link.up ∧ (readState s).extractLsb' 27 5 = 0 := by
  have h := readState_toNat s
  have hle := stateFields_le s
  refine ⟨extractLsb'_of_toNat ?_, extractLsb'_of_toNat ?_, extractLsb'_of_toNat ?_, getLsbD_of_toNat ?_,
    extractLsb'_eq_zero ?_, getLsbD_of_toNat ?_, getLsbD_of_toNat ?_, getLsbD_of_toNat ?_, getLsbD_of_toNat ?_,
    getLsbD_of_toNat ?_, getLsbD_of_toNat ?_, extractLsb'_eq_zero ?_, getLsbD_of_toNat ?_, getLsbD_of_toNat ?_,
    getLsbD_of_toNat ?_, extractLsb'_eq_zero ?_⟩ <;> omega

/-- The bits of IRQ_ENABLE stand at their places, and the higher bits read 0 (R9, spec 12.5). -/
theorem readIrqEnable_fields (s : State) :
    (readIrqEnable s).getLsbD 0 = s.regs.irqEnable.memoryError ∧ (readIrqEnable s).getLsbD 1 = s.regs.irqEnable.guard
    ∧ (readIrqEnable s).getLsbD 2 = s.regs.irqEnable.runEnd ∧ (readIrqEnable s).getLsbD 3 = s.regs.irqEnable.logHeld
    ∧ (readIrqEnable s).getLsbD 4 = s.regs.irqEnable.notice ∧ (readIrqEnable s).extractLsb' 5 27 = 0 := by
  have h := readIrqEnable_toNat s
  have hle := enables_le s
  refine ⟨getLsbD_of_toNat ?_, getLsbD_of_toNat ?_, getLsbD_of_toNat ?_, getLsbD_of_toNat ?_, getLsbD_of_toNat ?_,
    extractLsb'_eq_zero ?_⟩ <;> omega

/-! ## Commands taken and refused by run state -/

theorem atRest_iff (s : State) : atRest s = true ↔ s.rc.run = .idle ∨ s.rc.run = .halted := by simp [atRest]

/-- The commands that act at rest only are refused elsewhere (R2, R3, R7). -/
theorem refused_unless_atRest {s : State} (h : atRest s = false) :
    (∀ v, execAnchorWrite v s = .next (setRefused s)) ∧ execStartA s = .next (setRefused s)
    ∧ execStartB s = .next (setRefused s) := by
  simp [execAnchorWrite, execStartA, execStartB, h]

/-- CONTINUE outside PAUSED and a GUARD_HOLD that is over is refused (R3, R7). -/
theorem execContinueRun_refused {s : State} (hp : s.rc.run ≠ .paused)
    (hg : s.rc.run ≠ .guardHold ∨ s.rc.stoppedReceived = false ∨ s.rc.guardLine.filtered = true) :
    execContinueRun s = .next (setRefused s) := by
  unfold execContinueRun
  split
  · exact absurd ‹_› hp
  · rename_i hr
    have hover : holdOver s = false := by
      rcases hg with h | h | h
      · exact absurd hr h
      · simp [holdOver, h]
      · simp [holdOver, guardOpen, h]
    rw [if_neg (by simp [hover])]
  all_goals rfl

/-- STOP in IDLE and STOPPING is refused (R3, R7). -/
theorem execStop_refused {s : State} (h : s.rc.run = .idle ∨ s.rc.run = .stopping) : execStop s = .next (setRefused s) := by
  rcases h with h | h <;> simp [execStop, h]

/-! ## The CAUSE read and the interrupt line -/

/-- The code a CAUSE read answers, by the source it names: each needs the sources before it not to ask (R8, R182). -/
theorem causeOf_cases (p e : Sources) :
    (causeOf p e = 1 ∧ p.memoryError = true ∧ e.memoryError = true)
    ∨ (¬(p.memoryError = true ∧ e.memoryError = true)
      ∧ ((causeOf p e = 2 ∧ p.guard = true ∧ e.guard = true)
        ∨ (¬(p.guard = true ∧ e.guard = true)
          ∧ ((causeOf p e = 3 ∧ p.runEnd = true ∧ e.runEnd = true)
            ∨ (¬(p.runEnd = true ∧ e.runEnd = true)
              ∧ ((causeOf p e = 4 ∧ p.logHeld = true ∧ e.logHeld = true)
                ∨ (¬(p.logHeld = true ∧ e.logHeld = true)
                  ∧ ((causeOf p e = 5 ∧ p.notice = true ∧ e.notice = true)
                    ∨ (¬(p.notice = true ∧ e.notice = true) ∧ causeOf p e = 0))))))))) := by
  simp only [causeOf, Bool.and_eq_true]
  (repeat' split) <;> simp_all

theorem irqLine_eq_false_iff (s : State) : irqLine s = false ↔ causeOf s.notice.pend s.regs.irqEnable = 0 := by
  simp [irqLine]

/-- With no source pending there is no cause and the line is deasserted (R9). -/
theorem causeOf_clear (e : Sources) : causeOf Sources.clear e = 0 := rfl

end Sys2Proof.Machine

namespace Sys2Proof.Proofs

open Sys2Proof Sys2Proof.Machine

/-- Settles O3: the word is a constant, and an ignored write is the identity. -/
theorem identReadsAndIgnoresWrites : Obligations.IdentReadsAndIgnoresWrites := by
  unfold Obligations.IdentReadsAndIgnoresWrites
  exact ⟨fun _ => ⟨by unfold readIdent; decide, by unfold readIdent; decide⟩, fun _ _ _ => rfl⟩

/-- Settles O4: the taken and refused cases by run state, and the fields of STATE. -/
theorem anchorAndStateRegisters : Obligations.AnchorAndStateRegisters := by
  unfold Obligations.AnchorAndStateRegisters
  refine ⟨fun s => ⟨fun v h => ?_, fun hi hh => ?_, execContinueRun_refused, execStop_refused, fun code h => ?_⟩,
    readState_fields, fun _ _ => rfl, rfl, rfl, rfl, rfl, fun _ => ⟨rfl, rfl⟩⟩
  · show execAnchorWrite v s = _
    rw [execAnchorWrite, if_pos ((atRest_iff s).2 h)]
  · exact refused_unless_atRest (Bool.eq_false_iff.2 fun h => ((atRest_iff s).1 h).elim hi hh)
  · have hc : ¬isCommandCode code = true := by
      simpa using (Laws.isCommandCode_false code).2 h
    show execUndefinedCommandCode code s = _
    rw [execUndefinedCommandCode, if_neg hc]
    rfl

/-- Settles O5: the code is the arbiter's, by the cases of `causeOf_cases`. -/
theorem causeReadAnswersHighest : Obligations.CauseReadAnswersHighest := by
  unfold Obligations.CauseReadAnswersHighest
  intro s
  refine ⟨causeOf s.notice.pend s.regs.irqEnable, rfl, ?_⟩
  rw [irqLine_eq_false_iff]
  obtain ⟨hc, h⟩ | ⟨h1, ⟨hc, h⟩ | ⟨h2, ⟨hc, h⟩ | ⟨h3, ⟨hc, h⟩ | ⟨h4, ⟨hc, h⟩ | ⟨h5, hc⟩⟩⟩⟩⟩ :=
    causeOf_cases s.notice.pend s.regs.irqEnable <;> simp_all

/-- Settles O6: the bits of the word, the line by the cases of `causeOf_cases`, and that a reset leaves no source pending. -/
theorem irqEnableAndLine : Obligations.IrqEnableAndLine := by
  unfold Obligations.IrqEnableAndLine
  intro v s
  refine ⟨rfl, readIrqEnable_fields s, ?_, fun t ht => ?_, fun t ht => ?_⟩
  · rw [← Bool.not_eq_false, irqLine_eq_false_iff]
    obtain ⟨hc, h⟩ | ⟨h1, ⟨hc, h⟩ | ⟨h2, ⟨hc, h⟩ | ⟨h3, ⟨hc, h⟩ | ⟨h4, ⟨hc, h⟩ | ⟨h5, hc⟩⟩⟩⟩⟩ :=
      causeOf_cases s.notice.pend s.regs.irqEnable <;> simp_all
  · rcases ht with ht | ht <;> (obtain rfl := Host.Outcome.next.inj ht; exact ⟨rfl, rfl, rfl, rfl⟩)
  · obtain rfl := Host.Outcome.next.inj ht
    exact ⟨rfl, rfl, (irqLine_eq_false_iff _).2 (causeOf_clear _), causeOf_clear _⟩

end Sys2Proof.Proofs
end

section
/-! PROOFS. Resets: what they leave, and which bytes of shared memory they can touch. -/

namespace Sys2Proof.Machine

open Sys2Proof

/-! ## The state after a power-on reset -/

/-- An empty rectangle contains no point (R61). -/
theorem inReach_empty (x y : Int) : inReach Rect.empty x y = false := by
  rw [Bool.eq_false_iff]
  intro h
  simp only [inReach, Bool.and_eq_true, decide_eq_true_eq] at h
  simp only [Rect.empty] at h
  omega

@[simp] theorem probe_reset (p : ProbeNo) : probe State.reset p = Probe.reset := Per.get_all _ p

/-- Each of the four banks after a reset (R129). -/
theorem bankOf_reset {n : Nat} (h : n < 4) : bankOf State.reset n = Bank.reset := by
  match n with
  | 0 | 1 | 2 | 3 => rfl

/-! ## Bytes a write cannot reach, whatever the form of memory -/

/-- A byte write leaves every other byte alone, in canonical form or not. -/
theorem memByte_memSet_ne {x y : Nat} (h : y ≠ x) (v : Byte) (m : List Host.Cell) : memByte (memSet m x v) y = memByte m y := by
  induction m with
  | nil => simp only [memSet]; split <;> simp [memByte, h]
  | cons c t ih =>
    obtain ⟨k, b⟩ := c
    simp only [memSet]
    split
    · split <;> simp [memByte, h]
    · split
      · next hk => subst hk; split <;> simp [memByte, h]
      · simp [memByte, ih]

/-- A word write leaves every byte outside its four alone. -/
theorem memByte_memSetWord_of_outside {x y : Nat} (h : y < x ∨ x + 4 ≤ y) (w : Word) (m : List Host.Cell) :
    memByte (memSetWord m x w) y = memByte m y := by
  unfold memSetWord
  rw [memByte_memSet_ne (by omega), memByte_memSet_ne (by omega), memByte_memSet_ne (by omega), memByte_memSet_ne (by omega)]

/-- Writing consecutive words leaves every byte outside them alone. -/
theorem memByte_memSetWords_of_outside {y : Nat} (x : Nat) (ws : List Word) (h : y < x ∨ x + 4 * ws.length ≤ y)
    (m : List Host.Cell) : memByte (memSetWords m x ws) y = memByte m y := by
  induction ws generalizing m x with
  | nil => rfl
  | cons w ws ih =>
    simp only [List.length_cons] at h
    rw [memSetWords, ih (x + 4) (by omega), memByte_memSetWord_of_outside (by omega)]

/-- A byte lies outside every write request of a list. -/
def OutsideWrites (a : Nat) (rs : List Request) : Prop :=
  ∀ r ∈ rs, ∀ ws, r.body = .write ws → a < r.addr ∨ r.addr + 4 * ws.length ≤ a

/-- A served request leaves every byte outside it alone. -/
theorem memByte_performReq {a : Nat} {r : Request} (h : ∀ ws, r.body = .write ws → a < r.addr ∨ r.addr + 4 * ws.length ≤ a)
    (m : List Host.Cell) : memByte (performReq m r) a = memByte m a := by
  unfold performReq
  split
  · rfl
  · split
    · exact memByte_memSetWords_of_outside _ _ (h _ ‹_›) m
    · rfl

/-- The writes that a reset abandons leave every byte outside the requests alone (R13). -/
theorem memByte_abandonWrites {a : Nat} {rs : List Request} (h : OutsideWrites a rs) (m : List Host.Cell) (n : Nat) :
    memByte (abandonWrites m n rs) a = memByte m a := by
  induction rs generalizing m n with
  | nil => rfl
  | cons r rs ih =>
    have hr := h r (.head _)
    unfold abandonWrites
    split
    · rfl
    · next ws hb =>
      split
      · rw [ih (fun q hq => h q (.tail _ hq)), memByte_performReq hr]
      · split
        · refine memByte_memSetWords_of_outside _ _ ?_ m
          have hlen := List.length_take_le' n ws
          have := hr ws hb
          omega
        · rfl

end Sys2Proof.Machine

namespace Sys2Proof.Proofs

open Sys2Proof Sys2Proof.Machine

/-- Settles O7: the fields of the reset state, the tables by their one entry. -/
theorem resetValues : Obligations.ResetValues := by
  unfold Obligations.ResetValues
  refine ⟨rfl, rfl, rfl, rfl, rfl, rfl, rfl, rfl, rfl, rfl, rfl, rfl, rfl, rfl, rfl, rfl, rfl, rfl, rfl, rfl, rfl, rfl, rfl, rfl,
    rfl, rfl, rfl, rfl, rfl, rfl, rfl, fun x y => ⟨inReach_empty x y, inReach_empty x y⟩, fun p => ?_, rfl, rfl,
    fun p => Per.get_all _ p, fun n hn => bankOf_reset hn, fun p q => ?_, rfl, rfl, rfl, fun p => Per.get_all _ p,
    rfl, rfl, rfl, rfl, rfl, rfl, rfl, rfl, rfl, rfl, rfl, rfl, rfl, rfl, rfl, rfl, rfl, rfl, rfl⟩
  · rw [probe_reset]
    exact ⟨rfl, rfl, rfl, rfl, rfl, rfl, rfl, rfl, rfl, rfl⟩
  · simp [State.reset, MeasUnit.reset]

/-- Settles O8: a reset is `resetWith` over the machine's own lines and link; the bytes it can touch lie in the requests. -/
theorem resetEffects : Obligations.ResetEffects := by
  unfold Obligations.ResetEffects
  refine ⟨fun s => ⟨⟨_, rfl, rfl, rfl, rfl⟩, ⟨_, rfl, rfl, rfl, rfl⟩, ⟨_, rfl, rfl, rfl, rfl⟩⟩, fun s => ?_, fun s => ?_⟩
  · exact ⟨_, rfl, rfl, fun a h => memByte_abandonWrites h s.mem _⟩
  · exact ⟨_, ⟨s.link.probes.map softProbe, _, _, _⟩, rfl, rfl, rfl, rfl, fun p => Per.get_map _ _ p,
      fun a h => memByte_abandonWrites h s.mem _⟩

end Sys2Proof.Proofs
end

section
/-! PROOFS. The fields of the structures the device reads at START: their places, their clamping and what is formed from them. -/

namespace Sys2Proof.Machine

open Sys2Proof

/-! ## Places of a field -/

theorem clampNat_zero (hi n : Nat) : clampNat 0 hi n = min hi n := Nat.zero_max _

/-- A byte of a word, as a number. -/
theorem wordByte_toNat (w : Word) (n : Nat) : (wordByte w n).toNat = w.toNat / 256 ^ n % 256 := by
  rw [wordByte, BitVec.extractLsb'_toNat, Nat.shiftRight_eq_div_pow, Nat.pow_mul]

theorem fieldByte_toNat (ws : List Word) (off : Nat) :
    (fieldByte ws off).toNat = (ws.getD (off / 4) 0).toNat / 256 ^ (off % 4) % 256 := wordByte_toNat _ _

/-- A half word that lies in one word, as a number. -/
theorem fieldHalf_eq (ws : List Word) {off : Nat} (h : off % 4 < 3) :
    fieldHalf ws off = (ws.getD (off / 4) 0).toNat / 256 ^ (off % 4) % 65536 := by
  have hd : (off + 1) / 4 = off / 4 := by omega
  have hm : (off + 1) % 4 = off % 4 + 1 := by omega
  rw [fieldHalf, BitVec.toNat_append, ← Nat.shiftLeft_add_eq_or_of_lt (BitVec.isLt _), fieldByte_toNat, fieldByte_toNat, hd, hm,
    Nat.shiftLeft_eq, Nat.pow_succ, ← Nat.div_div_eq_div_mul]
  omega

theorem fieldByte_eq_iff (ws : List Word) (off : Nat) (b : Byte) :
    fieldByte ws off = b ↔ (ws.getD (off / 4) 0).toNat / 256 ^ (off % 4) % 256 = b.toNat := by
  rw [← fieldByte_toNat, BitVec.toNat_inj]

theorem wordByte_getLsbD_zero (w : Word) : (wordByte w 0).getLsbD 0 = w.getLsbD 0 := by
  simp [wordByte]

/-! ## Powers of two -/

/-- The check of a ring size, for bounds that are powers of two (R10). -/
theorem isPowerOfTwoWithin_iff (a b n : Nat) :
    isPowerOfTwoWithin (2 ^ a) (2 ^ b) n = true ↔ ∃ k, a ≤ k ∧ k ≤ b ∧ n = 2 ^ k := by
  simp only [isPowerOfTwoWithin, Bool.and_eq_true, decide_eq_true_eq]
  constructor
  · rintro ⟨⟨hlo, hhi⟩, hn⟩
    have hpos : n ≠ 0 := fun h => absurd hlo (by simp [h])
    refine ⟨n.log2, (Nat.le_log2 hpos).2 hlo, ?_, hn.symm⟩
    rw [← hn] at hhi
    exact (Nat.pow_le_pow_iff_right (by decide)).1 hhi
  · rintro ⟨k, hlo, hhi, rfl⟩
    exact ⟨⟨Nat.pow_le_pow_right (by decide) hlo, Nat.pow_le_pow_right (by decide) hhi⟩, by rw [Nat.log2_two_pow]⟩

/-- The checks of R17 after loading step 1. -/
theorem settingsGood_iff (t : Settings) : settingsGood t = true ↔
    t.pointBase % 64 = 0 ∧ t.limitBase % 64 = 0 ∧ t.groupBase % 64 = 0 ∧ t.keepOutTop % 64 = 0 ∧ t.keepOutBottom % 64 = 0
    ∧ t.bankBase % 64 = 0 ∧ t.nullBase % 64 = 0 ∧ t.wearBase % 64 = 0 ∧ t.divBase % 64 = 0 ∧ t.logBase % 64 = 0
    ∧ t.capBase % 64 = 0 ∧ t.noticeBase % 64 = 0
    ∧ (∃ n, 6 ≤ n ∧ n ≤ 16 ∧ t.logSize = 2 ^ n) ∧ ∃ n, 12 ≤ n ∧ n ≤ 20 ∧ t.capSize = 2 ^ n := by
  have hlog := isPowerOfTwoWithin_iff 6 16 t.logSize
  have hcap := isPowerOfTwoWithin_iff 12 20 t.capSize
  norm_num only at hlog hcap
  simp only [settingsGood, Bool.and_eq_true, hlog, hcap, List.all_cons, List.all_nil, decide_eq_true_eq, and_assoc, true_and]

end Sys2Proof.Machine

namespace Sys2Proof.Proofs

open Sys2Proof Sys2Proof.Machine

/-- Settles O11: each field at its place, by the lemmas on bytes and half words. -/
theorem tablesTaken : Obligations.TablesTaken := by
  unfold Obligations.TablesTaken
  refine ⟨?_, settingsGood_iff, ?_, ?_, ?_, ?_⟩
  · rintro base ws t rfl
    exact ⟨rfl, rfl, clampNat_zero _ _, rfl, clampNat_zero _ _, rfl, rfl, rfl, rfl, rfl, rfl, rfl, rfl, clampNat_zero _ _,
      rfl, rfl, rfl, rfl, rfl, rfl, rfl, rfl, rfl, clampNat_zero _ _, rfl, rfl, rfl, clampNat_zero _ _, clampNat_zero _ _,
      rfl, rfl, rfl, rfl, rfl⟩
  · rintro ws b rfl
    have hlt := (ws.getD 0 0).isLt
    have hlt2 := (ws.getD 2 0).isLt
    have h8 := fieldHalf_eq ws (off := 0x08) (by decide)
    have hA := fieldHalf_eq ws (off := 0x0A) (by decide)
    refine ⟨?_, ?_, ?_, ?_, wordByte_getLsbD_zero _, ?_, ?_, ?_, ?_, rfl, ?_, rfl⟩ <;>
      simp only [parseBank, clampNat, fieldByte_toNat, h8, hA, Bool.and_eq_true, decide_eq_true_eq]
    all_goals norm_num only
    all_goals omega
  · intro hi ws p q
    simp only [parseNulls, Per.get_make, clampNat_zero, fieldNat, fieldWord, Nat.mul_div_cancel_left _ (by decide : 0 < 4)]
  · rintro ws d rfl
    have hlt := (ws.getD 0 0).isLt
    have hx : (ws.getD 0 0).toNat / 16777216 % 256 = (ws.getD 0 0).toNat / 16777216 := by omega
    have h1 := fieldByte_toNat ws 1
    have h2 := fieldByte_toNat ws 2
    norm_num only at h1 h2
    have b0 : (0 : Byte).toNat = 0 := rfl
    have b1 : (1 : Byte).toNat = 1 := rfl
    refine ⟨?_, ?_, ?_, ?_, rfl⟩ <;>
      simp only [parseDivEntry, parseAction, parseExhausted, clampNat_zero, fieldByte_eq_iff, h1, h2, b0, b1] <;>
      norm_num only [hx, Nat.div_one]
  · exact fun ws off => ⟨rfl, rfl, rfl, fieldByte_toNat ws off⟩

end Sys2Proof.Proofs
end

section
/-! PROOFS. What ends an activity: the abort of a measurement, what STOP and HALTED entry share, and HALTED entry. -/

namespace Sys2Proof.Machine

open Sys2Proof

/-! ## The abort of a measurement (R140) -/

@[simp] theorem dropReqs_reqs_length (k : ReqKind) (s : State) : (dropReqs k s).port.reqs.length = s.port.reqs.length :=
  List.length_map _

/-- An abort leaves the unit idle and, of the unit, touches only the step, the source and the guard driver. -/
theorem abortMeasurement_unit (s : State) : ∃ src grd, (abortMeasurement s).unit =
    { s.unit with step := none, sourceOn := src, guardOn := grd } := by
  unfold abortMeasurement
  split
  · next h => exact ⟨s.unit.sourceOn, s.unit.guardOn, by rw [← h]⟩
  · exact ⟨false, false, rfl⟩

@[simp] theorem abortMeasurement_reqs_length (s : State) :
    (abortMeasurement s).port.reqs.length = s.port.reqs.length := by
  unfold abortMeasurement
  split <;> simp

@[simp] theorem clearWindow_window (s : State) : (clearWindow s).window = [] := rfl
@[simp] theorem clearWindow_unit (s : State) : (clearWindow s).unit = (abortMeasurement s).unit := rfl
@[simp] theorem clearWindow_port (s : State) : (clearWindow s).port = (abortMeasurement s).port := rfl
@[simp] theorem discardTxn_fetch (s : State) : (discardTxn s).fetch = { s.fetch with txn := none } := rfl
@[simp] theorem discardTxn_reqs_length (s : State) : (discardTxn s).port.reqs.length = s.port.reqs.length :=
  List.length_map _
@[simp] theorem stopFetcher_fetch (s : State) :
    (stopFetcher s).fetch = { s.fetch with held := none, txn := none, stopped := true } := rfl
@[simp] theorem stopFetcher_reqs_length (s : State) : (stopFetcher s).port.reqs.length = s.port.reqs.length :=
  List.length_map _
@[simp] theorem endHold_log (s : State) :
    (endHold s).log = { s.log with held := false, waiting := false, ahead := 0, readAgain := false } := rfl
@[simp] theorem dropRunReqs_reqs_length (s : State) : (dropRunReqs s).port.reqs.length = s.port.reqs.length := by
  simp [dropRunReqs]

/-! ## What STOP and HALTED entry share (R25, R27) -/

@[simp] theorem endActivity_rc (s : State) :
    (endActivity s).rc = { s.rc with areaSeq := none, stopSeq := none, loadStep := none, readyAgain := false } := by
  simp [endActivity]

@[simp] theorem endActivity_fetch (s : State) :
    (endActivity s).fetch = { s.fetch with held := none, txn := none, stopped := true } := by
  simp [endActivity]

@[simp] theorem endActivity_window (s : State) : (endActivity s).window = [] := by simp [endActivity]

@[simp] theorem endActivity_div (s : State) : (endActivity s).div = { s.div with active := false } := by simp [endActivity]

@[simp] theorem endActivity_log (s : State) :
    (endActivity s).log = { s.log with held := false, waiting := false, ahead := 0, readAgain := false } := by
  simp [endActivity]

/-- Queued and held requests for notices stay, and nothing waits for them. -/
@[simp] theorem endActivity_notice (s : State) : (endActivity s).notice = { s.notice with
    queue := s.notice.queue.map fun n => { n with mark := .plain }
    held := s.notice.held.map fun n => { n with mark := .plain } } := by
  simp [endActivity, clearNoticeMarks]

theorem endActivity_unit (s : State) : ∃ src grd, (endActivity s).unit =
    { s.unit with step := none, sourceOn := src, guardOn := grd } := by
  obtain ⟨src, grd, h⟩ := abortMeasurement_unit (stopFetcher s)
  exact ⟨src, grd, by simp [endActivity, h]⟩

@[simp] theorem endActivity_reqs_length (s : State) : (endActivity s).port.reqs.length = s.port.reqs.length := by
  simp [endActivity]

/-! ## HALTED entry (R27) -/

/-- The writes of HALTED entries change, of run control, only the list of those still to be made. -/
theorem runHaltSeqs_rc (l : List HaltSeq) (s : State) : ∃ q, (runHaltSeqs l s).rc = { s.rc with haltSeqs := q } := by
  induction l generalizing s with
  | nil => exact ⟨[], rfl⟩
  | cons h t ih =>
    unfold runHaltSeqs
    split
    · exact ⟨h :: t, rfl⟩
    · exact ⟨h :: t, rfl⟩
    · obtain ⟨q, hq⟩ := ih (requestNotice .runEnded (BitVec.ofNat 32 (endCodeCode h.endCode)) h.causes .halt (pendRunEnd s))
      exact ⟨q, by simp [hq]⟩

/-- HALTED is entered at most once (R14, R169). -/
theorem enterHalted_of_halted {code : EndCode} {causes : Word} {s : State} (h : s.rc.run = .halted) :
    enterHalted code causes s = s := by rw [enterHalted, if_pos h]

/-- Run control after a HALTED entry. -/
theorem enterHalted_rc (code : EndCode) (causes : Word) {s : State} (h : s.rc.run ≠ .halted) :
    ∃ q, (enterHalted code causes s).rc = { s.rc with
      run := .halted, endCode := code, underWay := false, endCauses := causes, areaSeq := none, stopSeq := none
      loadStep := none, readyAgain := false, haltSeqs := q } := by
  unfold enterHalted
  rw [if_neg h]
  dsimp only
  split
  · exact ⟨s.rc.haltSeqs, by simp⟩
  · split
    · next l hl =>
      obtain ⟨q, hq⟩ := runHaltSeqs_rc [_] { endActivity s with rc := { (endActivity s).rc with
        run := .halted, endCode := code, underWay := false, endCauses := causes } }
      exact ⟨q, by rw [hq]; simp⟩
    · exact ⟨_, by simp; rfl⟩

/-- The other blocks after a HALTED entry: the fetcher stopped, the window empty, the diversion over, the log hold ended. -/
theorem enterHalted_blocks (code : EndCode) (causes : Word) {s : State} (h : s.rc.run ≠ .halted) :
    (enterHalted code causes s).fetch = { s.fetch with held := none, txn := none, stopped := true }
    ∧ (enterHalted code causes s).window = [] ∧ (enterHalted code causes s).div = { s.div with active := false }
    ∧ (enterHalted code causes s).log = { s.log with held := false, waiting := false, ahead := 0, readAgain := false }
    ∧ ∃ src grd, (enterHalted code causes s).unit = { s.unit with step := none, sourceOn := src, guardOn := grd } := by
  unfold enterHalted
  rw [if_neg h]
  dsimp only
  (repeat' split) <;> simpa using endActivity_unit s

/-- A HALTED entry with BAD_ANCHOR puts the notice ring out of force and makes RUN_END pending at once, with no write (R18). -/
theorem enterHalted_badAnchor_notice (causes : Word) {s : State} (h : s.rc.run ≠ .halted) :
    (enterHalted .badAnchor causes s).notice = { s.notice with
      inForce := false, queue := [], held := [], pend := { s.notice.pend with runEnd := true } }
    ∧ (enterHalted .badAnchor causes s).port.reqs.length = s.port.reqs.length := by
  unfold enterHalted
  rw [if_neg h, if_pos rfl]
  exact ⟨by simp [pendRunEnd, ringOutOfForce], by simp [ringOutOfForce]⟩

end Sys2Proof.Machine
end

section
/-! PROOFS. START: the first loading read, the reads in their order, the checks of the run word and run begin. -/

namespace Sys2Proof.Machine

open Sys2Proof

@[simp] theorem sealPort_reqs (s : State) : (sealPort s).port.reqs = s.port.reqs := by
  unfold sealPort; split <;> rfl

/-! ## START taken (R2, R17) -/

theorem anchorGood_iff (x : Nat) : anchorGood x = true ↔ x % 4096 = 0 ∧ x < 33554432 := by simp [anchorGood]

/-- START_A and START_B are one command on two areas, taken at rest (R3, R17). -/
theorem exec_start_of_atRest {c : Instr} {which : Area} (hc : (c = .startA ∧ which = .a) ∨ (c = .startB ∧ which = .b))
    {s : State} (h : atRest s = true) : exec c s = .next (sealPort (startRun which s)) := by
  rcases hc with ⟨rfl, rfl⟩ | ⟨rfl, rfl⟩
  · exact if_pos h
  · exact if_pos h

theorem startRun_of_good (which : Area) {s : State} (h : anchorGood s.regs.anchor.toNat = true) :
    startRun which s = issue .loading s.regs.anchor.toNat (.read 36) (enterStarting which s) := if_pos h

theorem startRun_of_bad (which : Area) {s : State} (h : ¬anchorGood s.regs.anchor.toNat = true) :
    startRun which s = enterHalted .badAnchor 0 (enterStarting which s) := if_neg h

theorem enterStarting_run (which : Area) (s : State) : (enterStarting which s).rc.run ≠ .halted := nofun

/-! ## The loading reads (R10, R17, R36) -/

/-- A loading read that completes in STARTING acts by the loading step in flight. -/
theorem exec_loadingReadComplete {s s1 : State} {r : Request} {ws : List Word} (h : serve .loading s = some (r, ws, s1))
    (hl : r.live = true) (hr : s.rc.run = .starting) :
    exec .loadingReadComplete s = .next (sealPort (settle (loadingRead r.addr ws s1))) := by
  show execLoadingReadComplete s = _
  simp only [execLoadingReadComplete, h, hl, hr]
  rfl

/-- Serving a request leaves run control as it was. -/
theorem serve_rc {k : ReqKind} {s s1 : State} {r : Request} {ws : List Word} (h : serve k s = some (r, ws, s1)) :
    s1.rc = s.rc := by
  obtain ⟨-, -, -, h1⟩ := serve_some h
  rw [h1]

theorem bankRead_of_lt {n : Nat} (h : n < 3) (ws : List Word) (s : State) : bankRead n ws s = { s with
    unit := { s.unit with banks := s.unit.banks.set n (parseBank ws) }
    rc := { s.rc with loadStep := some (.bank (n + 1)) }
    port := { s.port with reqs := s.port.reqs ++
      [⟨.loading, s.settings.bankBase + 32 * (n + 1), .read 8, true, s.port.epoch⟩] } } := if_pos h

theorem diversionRead_of_lt {n : Nat} (h : n < 7) (ws : List Word) (s : State) : diversionRead n ws s = { s with
    div := { s.div with table := s.div.table.set (probeOfNat n) (parseDivEntry ws) }
    rc := { s.rc with loadStep := some (.diversion (n + 1)) }
    port := { s.port with reqs := s.port.reqs ++
      [⟨.loading, s.settings.divBase + 16 * (n + 1), .read 4, true, s.port.epoch⟩] } } := if_pos h

/-- The last diversion entry is followed by the wear table where LOAD_WEAR is set, else by the run word (R36). -/
theorem diversionRead_last (ws : List Word) (s : State) : diversionRead 7 ws s =
    if s.settings.loadWear then
      loadNext .wear s.settings.wearBase 16 { s with div := { s.div with table := s.div.table.set 7 (parseDivEntry ws) } }
    else loadRunWord { s with div := { s.div with table := s.div.table.set 7 (parseDivEntry ws) } } := rfl

/-- A probe's record from its wear record: the counts clamped, the flag as the limits say, the rest as it was (R36). -/
theorem loadedProbe_eq (t : Settings) (touch miss : Nat) (r : Probe) :
    (loadedProbe t touch miss r).touch = min 65535 touch ∧ (loadedProbe t touch miss r).miss = min 15 miss
    ∧ (loadedProbe t touch miss r).state = r.state ∧ (loadedProbe t touch miss r).order = r.order
    ∧ ((loadedProbe t touch miss r).due = true ↔
        (t.touchLimit ≠ 0 ∧ t.touchLimit ≤ (loadedProbe t touch miss r).touch)
        ∨ (t.missLimit ≠ 0 ∧ t.missLimit ≤ (loadedProbe t touch miss r).miss)) := by
  refine ⟨clampNat_zero _ _, clampNat_zero _ _, rfl, rfl, ?_⟩
  simp only [loadedProbe, dueReason]
  split <;> split <;> simp_all

/-- The ring comes into force with nothing queued but what was held (R179, R180). -/
@[simp] theorem ringIntoForce_notice (s : State) : (ringIntoForce s).notice = { s.notice with
    inForce := true, base := s.settings.noticeBase, fill := 0, wrap := 0
    queue := s.notice.held.take 16, held := s.notice.held.drop 16 } := by
  simp [ringIntoForce, refillNotices]

/-- Its fill word is written as 0 (R179). -/
theorem ringIntoForce_port (s : State) : ∃ more, (ringIntoForce s).port = { s.port with
    reqs := (s.port.reqs.map fun r => if r.kind = .notice then { r with live := false } else r)
      ++ [⟨.noticeFill, s.settings.anchorBase + 0x10C, .write [0], true, s.port.epoch⟩] ++ more } := by
  unfold ringIntoForce
  dsimp only
  obtain ⟨more, h⟩ := startNotice_eq (refillNotices (issue .noticeFill (s.settings.anchorBase + 0x10C)
    (.write [noticeFillWord 0 0]) (dropReqs .notice { s with notice := { s.notice with
      inForce := true, base := s.settings.noticeBase, fill := 0, wrap := 0, queue := [] } })))
  exact ⟨more, by rw [h]; rfl⟩

theorem anchorRead_of_good {base : Nat} {ws : List Word} (h : settingsGood (parseSettings base ws) = true) (s : State) :
    anchorRead base ws s = loadNext (.bank 0) (parseSettings base ws).bankBase 8 (ringIntoForce { s with
      settings := parseSettings base ws, rc := { s.rc with loadedGood := true } }) := by
  unfold anchorRead
  dsimp only
  rw [if_pos h, h]

theorem anchorRead_of_bad {base : Nat} {ws : List Word} (h : settingsGood (parseSettings base ws) = false) (s : State) :
    anchorRead base ws s = enterHalted .badAnchor 0 { s with
      settings := parseSettings base ws, rc := { s.rc with loadedGood := false } } := by
  unfold anchorRead
  dsimp only
  rw [if_neg (by simp [h]), h]

end Sys2Proof.Machine

namespace Sys2Proof.Proofs

open Sys2Proof Sys2Proof.Machine

/-- Settles O9: the two branches of `startRun`, the bad one by what a HALTED entry leaves. -/
theorem startTaken : Obligations.StartTaken := by
  unfold Obligations.StartTaken
  refine ⟨fun s c which hc hr h1 h2 => ?_, fun s c hc hr h => ?_⟩
  · rw [exec_start_of_atRest hc ((atRest_iff s).2 hr), startRun_of_good which ((anchorGood_iff _).2 ⟨h1, h2⟩)]
    rfl
  · obtain ⟨which, hw⟩ : ∃ which : Area, (c = .startA ∧ which = .a) ∨ (c = .startB ∧ which = .b) := by
      rcases hc with rfl | rfl
      · exact ⟨.a, .inl ⟨rfl, rfl⟩⟩
      · exact ⟨.b, .inr ⟨rfl, rfl⟩⟩
    have hbad : ¬anchorGood s.regs.anchor.toNat = true := fun hg => by
      obtain ⟨g1, g2⟩ := (anchorGood_iff _).1 hg
      omega
    refine ⟨_, exec_start_of_atRest hw ((atRest_iff s).2 hr), ?_⟩
    have hrun := enterStarting_run which s
    obtain ⟨q, hq⟩ := enterHalted_rc .badAnchor 0 hrun
    obtain ⟨hn, hp⟩ := enterHalted_badAnchor_notice 0 hrun
    obtain ⟨-, hwin, -⟩ := enterHalted_blocks .badAnchor 0 hrun
    rw [startRun_of_bad which hbad]
    refine ⟨?_, ?_, ?_, ?_, ?_, ?_, ?_, ?_, ?_, ?_, ?_, ?_, ?_⟩
    · rw [sealPort_rc, hq]
    · rw [sealPort_rc, hq]
    · rw [sealPort_notice, hn]
    · rw [sealPort_notice, hn]
    · rw [sealPort_notice, hn]
    · rw [sealPort_notice, hn]
      rfl
    · rw [sealPort_reqs, hp]
      rfl
    · rw [sealPort_mem, enterHalted_mem]
      rfl
    · rw [sealPort_settings, enterHalted_settings]
      rfl
    · rw [sealPort_link, enterHalted_link]
      rfl
    · rw [sealPort_regs, enterHalted_regs]
      rfl
    · rw [sealPort_window, hwin]
    · rw [sealPort_rc, hq]
      rfl

/-- Settles O10: each loading read acts by its step, and the step's own equation is the state the statement writes out. -/
theorem loadingReadsInOrder : Obligations.LoadingReadsInOrder := by
  unfold Obligations.LoadingReadsInOrder
  refine ⟨fun s s1 r ws h hl hr => ?_, fun s s1 r ws h hl hr hs => ?_, fun _ => ⟨rfl, rfl⟩, by decide⟩
  · have hexec := exec_loadingReadComplete h hl hr
    have hrc := serve_rc h
    refine ⟨fun n hs hn => ?_, fun hs => ?_, fun hs => ?_, fun n hs hn => ?_, fun hs hw => ?_, fun hs hw => ?_, fun hs => ?_⟩
    all_goals rw [← hrc] at hs
    all_goals simp only [loadingRead, hs] at hexec
    · rw [hexec, bankRead_of_lt hn]
    · exact hexec
    · exact hexec
    · rw [hexec, diversionRead_of_lt hn]
    · rw [hexec, diversionRead_last, if_pos hw]
      rfl
    · rw [hexec, diversionRead_last, if_neg (by simp [hw])]
      rfl
    · refine ⟨_, hexec, fun p => ?_⟩
      rw [Per.get_make]
      exact loadedProbe_eq _ _ _ _
  · have hrc := serve_rc h
    have hexec := exec_loadingReadComplete h hl hr
    rw [← hrc] at hs hr
    simp only [loadingRead, hs] at hexec
    refine ⟨_, hexec, ?_⟩
    cases hg : settingsGood (parseSettings r.addr ws)
    · have hrun : s1.rc.run ≠ .halted := by simp [hr]
      rw [anchorRead_of_bad hg]
      obtain ⟨q, hq⟩ := enterHalted_rc .badAnchor 0 (s := { s1 with
        settings := parseSettings r.addr ws, rc := { s1.rc with loadedGood := false } }) hrun
      obtain ⟨hn, -⟩ := enterHalted_badAnchor_notice 0 (s := { s1 with
        settings := parseSettings r.addr ws, rc := { s1.rc with loadedGood := false } }) hrun
      rw [hq, hn]
      exact ⟨enterHalted_settings _ _ _, enterHalted_mem _ _ _, nofun, fun _ => ⟨rfl, rfl, rfl, rfl, rfl, rfl⟩⟩
    · rw [anchorRead_of_good hg]
      obtain ⟨more, hp⟩ := ringIntoForce_port { s1 with
        settings := parseSettings r.addr ws, rc := { s1.rc with loadedGood := true } }
      refine ⟨by simp [loadNext], by simp [loadNext], fun _ => ?_, nofun⟩
      refine ⟨by simp [loadNext, hr], rfl, by simp [loadNext], by simp [loadNext], by simp [loadNext], by simp [loadNext],
        by simp [loadNext], ?_, ?_⟩
      · simp only [loadNext, issue, hp, List.mem_append]
        exact .inl (.inl (.inr (.head _)))
      · simp only [loadNext, issue, hp, ringIntoForce_settings]
        exact List.getLast?_concat

end Sys2Proof.Proofs
end

section
/-! PROOFS. The checks of the run word, run begin, CONTINUE and ROOM, chaining. -/

namespace Sys2Proof.Machine

open Sys2Proof

/-! ## Requests for notices: the fields they leave -/

@[simp] theorem requestNotice_pend (k : NoticeKind) (x y : Word) (m : NoticeMark) (s : State) :
    (requestNotice k x y m s).notice.pend = s.notice.pend := by
  obtain ⟨more, h⟩ := requestNotice_eq k x y m s
  rw [h]

@[simp] theorem requestNotice_inForce (k : NoticeKind) (x y : Word) (m : NoticeMark) (s : State) :
    (requestNotice k x y m s).notice.inForce = s.notice.inForce := by
  obtain ⟨more, h⟩ := requestNotice_eq k x y m s
  rw [h]

/-- With the ring in force and a free place the request is queued (R180). -/
theorem requestNotice_queue {k : NoticeKind} {x y : Word} {m : NoticeMark} {s : State} (hi : s.notice.inForce = true)
    (hq : s.notice.queue.length < 16) :
    (requestNotice k x y m s).notice.queue = s.notice.queue ++ [⟨k, x, y, s.rc.time, m⟩] := by
  obtain ⟨-, h, -⟩ := requestNotice_requested k x y m s
  exact (h hi hq).1

/-! ## The checks of the run word (R18) -/

/-- A HALTED entry that finds nothing to write before its notice: no run under way, no wear table to write, no earlier entry's
writes (R27, R36). -/
theorem enterHalted_notice_at_once {code : EndCode} {causes : Word} {s : State} (hc : code ≠ .badAnchor)
    (hr : s.rc.run = .starting) (hh : s.rc.haltSeqs = []) (hu : s.rc.underWay = false) :
    (enterHalted code causes s).notice.pend.runEnd = true
    ∧ (s.notice.inForce = true → s.notice.queue.length < 16 → (enterHalted code causes s).notice.queue =
        s.notice.queue.map (fun n => { n with mark := .plain })
          ++ [⟨.runEnded, BitVec.ofNat 32 (endCodeCode code), causes, s.rc.time, .halt⟩]) := by
  have hrun : ¬s.rc.run = .halted := by simp [hr]
  have hhe : (endActivity s).rc.haltSeqs = [] := by simp [hh]
  unfold enterHalted
  rw [if_neg hrun, if_neg hc]
  simp only [hhe, hr, hu, firstClose, ne_eq, not_true_eq_false, decide_false, Bool.and_false, Bool.false_eq_true, if_false,
    runHaltSeqs]
  refine ⟨by simp [pendRunEnd], fun hi hq => ?_⟩
  rw [requestNotice_queue (by simp [pendRunEnd, hi]) (by simpa [pendRunEnd] using hq)]
  simp [pendRunEnd]

theorem startChecks_misaligned {ws : List Word} (h : fieldNat ws 0x08 % 64 ≠ 0) (s : State) :
    startChecks ws s = enterHalted .badAnchor 0 s := if_pos h

theorem startChecks_notReady {ws : List Word} (h1 : ¬fieldNat ws 0x08 % 64 ≠ 0) (h2 : (fieldWord ws 0).getLsbD 0 = false)
    (s : State) : startChecks ws s = failStart .notReady s := by rw [startChecks, if_neg h1, if_pos h2]

theorem startChecks_linkDown {ws : List Word} {s : State} (h1 : ¬fieldNat ws 0x08 % 64 ≠ 0)
    (h2 : ¬(fieldWord ws 0).getLsbD 0 = false) (h3 : s.link.up = false) :
    startChecks ws s = enterHalted .linkLost 0 s := by rw [startChecks, if_neg h1, if_neg h2, if_pos h3]

/-- A START that succeeds: the run word is recorded, and the run begins where a board is seated (R18, R19, R20). -/
theorem startChecks_good {ws : List Word} {s : State} (h1 : ¬fieldNat ws 0x08 % 64 ≠ 0)
    (h2 : ¬(fieldWord ws 0).getLsbD 0 = false) (h3 : ¬s.link.up = false) :
    startChecks ws s =
      if boardPresent s then
        startInto .running (runBegin (recordRunWord ws { s with rc := { s.rc with loadStep := none } }))
      else
        startInto .boardWait (requestNotice .boardWaitEntered 1 0 .plain (recordRunWord ws { s with
          rc := { s.rc with loadStep := none, waitKind := .seatAtStart } })) := by
  rw [startChecks, if_neg h1, if_neg h2, if_neg h3]
  rfl

theorem startInto_eq (st : RunState) (s : State) : startInto st s = { s with rc := { s.rc with
    run := if s.rc.guardSeenOpen then .guardHold else st
    remembered := if s.rc.guardSeenOpen then st else s.rc.remembered } } := by
  unfold startInto
  split <;> rfl

/-! ## Run begin (R19, R160, R171) -/

@[simp] theorem runBegin_rc (s : State) :
    (runBegin s).rc = { s.rc with time := 0, summary := Summary.zero, underWay := true, areaSeq := none } := by
  simp [runBegin]

@[simp] theorem loggerRunBegin_log (s : State) :
    (loggerRunBegin s).log = { s.log with fill := 0, release := 0, nextSeq := 1, capFill := 0, held := false } := rfl

@[simp] theorem runBegin_log (s : State) :
    (runBegin s).log = { s.log with fill := 0, release := 0, nextSeq := 1, capFill := 0, held := false } := by
  simp [runBegin]

@[simp] theorem startList_fetch (off : Nat) (s : State) : (startList off s).fetch = { s.fetch with
    list := off, index := 0, recovery := false, stack := [], bank := 0, held := none, stopped := false, txn := none } := rfl

@[simp] theorem runBegin_fetch (s : State) : (runBegin s).fetch = { s.fetch with
    list := s.rc.mainList, index := 0, recovery := false, stack := [], bank := 0, held := none, stopped := false
    txn := none } := by
  simp [runBegin]

/-- Requests of other kinds go on as they were. -/
theorem mem_dropReqs {k : ReqKind} {r : Request} {s : State} (hk : r.kind ≠ k) (hr : r ∈ s.port.reqs) :
    r ∈ (dropReqs k s).port.reqs :=
  List.mem_map.2 ⟨r, hr, if_neg hk⟩

/-- Run begin writes two fill words behind the requests outstanding, and drops the fetcher's reads (R19, R171). -/
theorem mem_runBegin_reqs {r : Request} {s : State} (hk : r.kind ≠ .fetch)
    (hr : r ∈ s.port.reqs ∨ r = ⟨.logFill, s.settings.anchorBase + 0x100, .write [0], true, s.port.epoch⟩
      ∨ r = ⟨.captureFill, s.settings.anchorBase + 0x108, .write [0], true, s.port.epoch⟩) :
    r ∈ (runBegin s).port.reqs := by
  refine mem_dropReqs hk ?_
  rcases hr with hr | rfl | rfl
  · exact List.mem_append_left _ (List.mem_append_left _ hr)
  · exact List.mem_append_left _ (List.mem_append_right _ (.head _))
  · exact List.mem_append_right _ (.head _)

@[simp] theorem probe_runBegin (p : ProbeNo) (s : State) : probe (runBegin s) p = unfault (probe s p) :=
  Per.get_map _ _ p

end Sys2Proof.Machine

namespace Sys2Proof.Proofs

open Sys2Proof Sys2Proof.Machine

/-- Settles O12: the findings by the equation of each, then run begin field by field. -/
theorem startChecksAndRunBegin : Obligations.StartChecksAndRunBegin := by
  unfold Obligations.StartChecksAndRunBegin
  refine ⟨fun s s1 r ws h hl hr hs => ?_, fun s => ?_⟩
  · have hexec := exec_loadingReadComplete h hl hr
    rw [← serve_rc h] at hs hr
    simp only [loadingRead, hs] at hexec
    have hrun : s1.rc.run ≠ .halted := by simp [hr]
    refine ⟨_, hexec, startChecks_mem ws s1, startChecks_settings ws s1, ?_⟩
    split
    next h1 =>
      rw [startChecks_misaligned h1]
      obtain ⟨q, hq⟩ := enterHalted_rc .badAnchor 0 hrun
      obtain ⟨hn, -⟩ := enterHalted_badAnchor_notice 0 hrun
      rw [hq, hn]
      exact ⟨rfl, rfl, rfl⟩
    next h1 =>
    split
    next h2 =>
      rw [startChecks_notReady h1 h2]
      obtain ⟨-, hqueue, hheld⟩ := requestNotice_requested .runEnded (BitVec.ofNat 32 (endCodeCode .notReady)) 0 .plain
        (pendRunEnd { s1 with rc := { s1.rc with run := .idle, endCode := .notReady, loadStep := none } })
      refine ⟨?_, ?_, ?_, fun hi hq => (hqueue hi hq).1, fun hi hq => (hheld hi hq).2⟩
      · rw [failStart, requestNotice_rc]
        rfl
      · rw [failStart, requestNotice_rc]
        rfl
      · rw [failStart, requestNotice_pend]
        rfl
    next h2 =>
    split
    next h3 =>
      rw [startChecks_linkDown h1 h2 h3]
      obtain ⟨q, hq⟩ := enterHalted_rc .linkLost 0 hrun
      rw [hq]
      refine ⟨rfl, rfl, fun hh hu => ?_⟩
      obtain ⟨hpend, hqueue⟩ := enterHalted_notice_at_once (code := .linkLost) (causes := 0) nofun hr hh hu
      refine ⟨hpend, fun hi hlen => ?_⟩
      rw [hqueue hi hlen]
      exact ⟨List.getLast?_concat, by simp⟩
    next h3 =>
      rw [startChecks_good h1 h2 h3]
      cases hb : s1.rc.boardLine.filtered
      · rw [if_neg (by simp [boardPresent, hb]), startInto_eq]
        obtain ⟨g1, g2, g3⟩ := requestNotice_requested .boardWaitEntered 1 0 .plain (recordRunWord ws { s1 with
          rc := { s1.rc with loadStep := none, waitKind := .seatAtStart } })
        refine ⟨?_, ?_, ?_, ?_, ?_, ?_, nofun, fun _ => ⟨?_, g1, g2, g3⟩⟩
        · rw [requestNotice_corr]
          rfl
        case refine_6 =>
          simp only [requestNotice_rc]
          cases s1.rc.guardSeenOpen <;> simp [recordRunWord]
        all_goals
          simp only [requestNotice_rc]
          rfl
      · rw [if_pos (by simp [boardPresent, hb]), startInto_eq]
        refine ⟨?_, ?_, ?_, ?_, ?_, ?_, fun _ => ⟨?_, ?_⟩, nofun⟩
        · rw [runBegin_corr]
          rfl
        case refine_6 =>
          simp only [runBegin_rc]
          cases s1.rc.guardSeenOpen <;> simp [recordRunWord]
        case refine_7 => rw [runBegin_rc]
        case refine_8 =>
          rw [runBegin_notice]
          rfl
        all_goals
          simp only [runBegin_rc]
          rfl
  · refine ⟨by simp, by simp; rfl, by simp, runBegin_log s, mem_runBegin_reqs nofun (.inr (.inl rfl)),
      mem_runBegin_reqs nofun (.inr (.inr rfl)), fun r hr hk => mem_runBegin_reqs hk (.inl hr), rfl, rfl, rfl, rfl, rfl,
      by simp, by simp, by simp, by simp, by simp, by simp, fun p hp => ?_, fun p hp => ?_, by simp, runBegin_mem s,
      runBegin_window s⟩
    · rw [probe_runBegin, unfault, if_pos hp]
    · rw [probe_runBegin, unfault, if_neg hp]

end Sys2Proof.Proofs
end

section
/-! PROOFS. CONTINUE and ROOM, and chaining from one area to the other. -/

namespace Sys2Proof.Machine

open Sys2Proof

/-! ## CONTINUE (R24, R31) -/

theorem exec_continueRun_of_paused {s : State} (h : s.rc.run = .paused) :
    exec .continueRun s = .next (sealPort (settle (continuePaused s))) := by
  show execContinueRun s = _
  simp only [execContinueRun, h]
  rfl

theorem exec_continueRun_of_hold {s : State} (h : s.rc.run = .guardHold) (hs : s.rc.stoppedReceived = true)
    (hg : s.rc.guardLine.filtered = false) : exec .continueRun s = .next (sealPort (settle (continueHold s))) := by
  have hover : holdOver s = true := by simp [holdOver, guardOpen, hs, hg]
  show execContinueRun s = _
  simp only [execContinueRun, h, hover, if_true]
  rfl

/-! ## ROOM (R4) -/

/-- ROOM's part at the release index: one read, or the mark that asks for one more. -/
theorem roomRelease_eq (s : State) : roomRelease s = { s with
    log := { s.log with readAgain := s.log.readAgain || decide ((if s.log.waiting then 1 else 0) < countLive .release s) }
    port := { s.port with reqs := s.port.reqs
      ++ (if (if s.log.waiting then 1 else 0) < countLive .release s then []
          else [⟨.release, s.settings.anchorBase + 0x104, .read 1, true, s.port.epoch⟩]) } } := by
  unfold roomRelease
  by_cases h : (if s.log.waiting then 1 else 0) < countLive .release s
  · simp [h]
  · simp only [h, if_false, decide_false, Bool.or_false]
    rfl

/-- A request of another kind makes no difference to what is outstanding of a kind. -/
theorem hasLive_of_reqs_append {k : ReqKind} {s t : State} {more : List Request} (h : t.port.reqs = s.port.reqs ++ more)
    (hk : ∀ r ∈ more, r.kind ≠ k) : hasLive k t = hasLive k s := by
  have hm : (more.any fun r => decide (r.kind = k) && r.live) = false := by
    simp only [List.any_eq_false, Bool.and_eq_true, decide_eq_true_eq]
    exact fun r hr h' => hk r hr h'.1
  rw [hasLive, h, List.any_append, hm, Bool.or_false]
  rfl

theorem hasLive_ready_roomRelease (s : State) : hasLive .ready (roomRelease s) = hasLive .ready s := by
  unfold roomRelease
  generalize (if s.log.waiting then 1 else 0) = n
  split
  · rfl
  · refine hasLive_of_reqs_append (more := [⟨.release, _, _, _, _⟩]) rfl fun r hr => ?_
    obtain rfl := List.mem_singleton.1 hr
    nofun

/-- ROOM's part at READY, in CHAIN_WAIT: one read, or the mark that asks for one more (R23). -/
theorem roomReady_eq (s : State) : roomReady s = { s with
    rc := { s.rc with readyAgain := s.rc.readyAgain || (decide (s.rc.run = .chainWait) && hasLive .ready s) }
    port := { s.port with reqs := s.port.reqs
      ++ (if s.rc.run = .chainWait ∧ hasLive .ready s = false then
            [⟨.ready, runWordAddr s.settings.anchorBase s.rc.area.other, .read 1, true, s.port.epoch⟩]
          else []) } } := by
  unfold roomReady
  by_cases h : s.rc.run = .chainWait
  · cases hl : hasLive .ready s
    · rw [if_pos h, if_neg nofun, if_pos ⟨h, rfl⟩, Bool.and_false, Bool.or_false]
      rfl
    · simp [h]
  · simp [h]

theorem roomReads_iff (s : State) :
    roomReads s = true ↔ s.rc.run ≠ .idle ∧ s.rc.run ≠ .starting ∧ s.rc.run ≠ .halted := by
  unfold roomReads
  split <;> simp_all

/-! ## Chaining (R20, R23) -/

theorem exec_readyReadComplete {s s1 : State} {r : Request} {w : Word} (h : serve .ready s = some (r, [w], s1))
    (hl : r.live = true) (hr : s.rc.run = .chainWait) :
    exec .readyReadComplete s = .next (sealPort (readyRead w s1)) := by
  show execReadyReadComplete s = _
  simp only [execReadyReadComplete, h, hl, hr]
  rfl

theorem exec_runWordReadComplete {s s1 : State} {r : Request} {ws : List Word} (h : serve .runWord s = some (r, ws, s1))
    (hl : r.live = true) (hr : s.rc.run = .chainWait) :
    exec .runWordReadComplete s = .next (sealPort (settle (runWordRead ws s1))) := by
  show execRunWordReadComplete s = _
  simp only [execRunWordReadComplete, h, hl, hr]
  rfl

theorem runWordRead_misaligned {ws : List Word} (h : fieldNat ws 0x08 % 64 ≠ 0) (s : State) :
    runWordRead ws s = enterHalted .badAnchor 0 s := if_pos h

/-- The area switch and the state it enters: RUNNING with a board seated, else BOARD_WAIT with its notice (R20, R23). -/
theorem runWordRead_aligned {ws : List Word} (h : fieldNat ws 0x08 % 64 = 0) (s : State) :
    runWordRead ws s =
      if boardPresent s then { areaSwitch ws s with rc := { (areaSwitch ws s).rc with run := .running } }
      else requestNotice .boardWaitEntered 1 0 .plain { areaSwitch ws s with
        rc := { (areaSwitch ws s).rc with run := .boardWait, waitKind := .seatAtSwitch } } := if_neg (by simp [h])

end Sys2Proof.Machine

namespace Sys2Proof.Proofs

open Sys2Proof Sys2Proof.Machine

/-- Settles O13: CONTINUE by the state it finds, ROOM by its two parts. -/
theorem continueAndRoom : Obligations.ContinueAndRoom := by
  unfold Obligations.ContinueAndRoom
  refine ⟨fun s => ⟨exec_continueRun_of_paused, fun hr hs hg => ?_⟩, fun s => ⟨fun h => ?_, fun h1 h2 h3 => ?_⟩⟩
  · have hexec := exec_continueRun_of_hold hr hs hg
    refine ⟨fun h => ?_, fun h => ?_, fun h => ?_⟩
    · rcases h with h | h <;> simp only [hexec, continueHold, h]
    · rw [hexec]
      simp only [continueHold, h]
      rfl
    · rw [hexec]
      simp only [continueHold, h]
  · have hno : ¬roomReads s = true := fun hc => by
      obtain ⟨g1, g2, g3⟩ := (roomReads_iff s).1 hc
      rcases h with h | h | h <;> contradiction
    exact if_neg hno
  · have hexec : exec .room s = .next (sealPort (roomReady (roomRelease s))) :=
      if_pos ((roomReads_iff s).2 ⟨h1, h2, h3⟩)
    rw [hexec, roomReady_eq, hasLive_ready_roomRelease, roomRelease_eq]

/-- Settles O18: the READY read by its three cases, the area switch by whether the list is aligned and a board is seated. -/
theorem chainWaitAndAreaSwitch : Obligations.ChainWaitAndAreaSwitch := by
  unfold Obligations.ChainWaitAndAreaSwitch
  refine ⟨fun s hr hw => ⟨fun hl => ?_, fun s1 r w h hl => ?_⟩, fun s s1 r ws h hl hr => ?_⟩
  · exact if_pos ⟨hr, hl, hw⟩
  · have hexec := exec_readyReadComplete h hl hr
    rw [← serve_rc h]
    refine ⟨fun ha h0 => ?_, fun ha h0 hlive => ?_, fun ha => ?_⟩
    · rw [hexec, readyRead, if_neg (by simp [ha]), if_neg (fun hc => by rw [h0] at hc; cases hc.1)]
    · rw [hexec, readyRead, if_neg (by simp [ha]), if_pos ⟨h0, hlive⟩]
      rfl
    · rw [hexec, readyRead, if_pos ha]
      rfl
  · refine ⟨_, exec_runWordReadComplete h hl hr, runWordRead_mem ws s1, runWordRead_settings ws s1, fun hm => ?_, fun hm => ?_⟩
    · have hrun : s1.rc.run ≠ .halted := by simp [serve_rc h, hr]
      obtain ⟨q, hq⟩ := enterHalted_rc .badAnchor 0 hrun
      obtain ⟨hn, -⟩ := enterHalted_badAnchor_notice 0 hrun
      rw [runWordRead_misaligned hm, hq, hn]
      exact ⟨rfl, rfl, rfl, enterHalted_corr _ _ _, rfl⟩
    · rw [runWordRead_aligned hm]
      cases hb : s1.rc.boardLine.filtered
      · rw [if_neg (by simp [boardPresent, hb])]
        obtain ⟨g1, g2, g3⟩ := requestNotice_requested .boardWaitEntered 1 0 .plain { areaSwitch ws s1 with
          rc := { (areaSwitch ws s1).rc with run := .boardWait, waitKind := .seatAtSwitch } }
        refine ⟨?_, ?_, fun _ => ⟨?_, g1, g2, g3⟩, nofun, ?_, ?_, ?_, ?_, ?_, ?_, ?_, ?_, ?_, ?_, ?_, ?_, ?_, ?_, ?_⟩
        all_goals simp only [requestNotice_rc, requestNotice_corr, requestNotice_div, requestNotice_fetch,
          requestNotice_log, requestNotice_link]
        all_goals rfl
      · rw [if_pos (by simp [boardPresent, hb])]
        exact ⟨rfl, rfl, nofun, fun _ => rfl, rfl, rfl, rfl, rfl, rfl, rfl, rfl, rfl, rfl, rfl, rfl, rfl, rfl, rfl, rfl⟩

end Sys2Proof.Proofs
end

section
/-! PROOFS. The head of the window, the room test and the log's notices. -/

namespace Sys2Proof.Machine

open Sys2Proof

/-! ## The head (R91, R174) -/

theorem headsLeave_iff (s : State) : headsLeave s = true ↔ s.rc.run = .running ∨ s.rc.run = .guardHold := by
  simp [headsLeave]

/-- When the window offers its head to the logger, and which entry that is. -/
theorem offeredHead_iff (s : State) (e : Entry) : offeredHead s = some e ↔
    (∃ rest, s.window = e :: rest) ∧ (s.rc.run = .running ∨ s.rc.run = .guardHold) ∧ unmeasured e = false
      ∧ e.kind ≠ .mark := by
  rw [← headsLeave_iff]
  unfold offeredHead
  cases s.window with
  | nil => simp
  | cons x rest =>
    dsimp only
    split
    next h =>
      simp only [Bool.and_eq_true, Bool.not_eq_true', decide_eq_true_eq] at h
      constructor
      · rintro ⟨⟩
        exact ⟨⟨rest, rfl⟩, h.1.1, h.1.2, h.2⟩
      · rintro ⟨⟨_, hw⟩, -⟩
        cases hw
        rfl
    next h =>
      refine ⟨nofun, ?_⟩
      rintro ⟨⟨_, hw⟩, hl, hu, hk⟩
      cases hw
      exact absurd (by simp [hl, hu, hk]) h

theorem exec_headTaken_of_free {s : State} {e : Entry} (h : offeredHead s = some e) (hb : s.log.busy = false)
    (hh : s.log.held = false) (hw : s.log.waiting = false) :
    exec .headTaken s = if hasRoom s then finish (takeHead e s) else finish (waitForRoom s) := by
  show execHeadTaken s = _
  simp only [execHeadTaken, h, hb, hh, hw]
  rfl

/-- A head that is not offered, or a logger that is not free, leaves everything as it is. -/
theorem exec_headTaken_idle {s : State} (h : offeredHead s = none ∨ s.log.busy = true ∨ s.log.held = true
    ∨ s.log.waiting = true) : exec .headTaken s = .next s := by
  show execHeadTaken s = _
  unfold execHeadTaken
  split
  · rfl
  · rcases h with h | h | h | h
    · simp_all
    all_goals exact if_pos (by simp [h])

theorem exec_markRemoved_of_mark {s : State} {e : Entry} {rest : List Entry} (h : s.window = e :: rest)
    (hr : s.rc.run = .running ∨ s.rc.run = .guardHold) (hk : e.kind = .mark) : exec .markRemoved s =
      .next (sealPort (settle (removeHead e (requestNotice .mark e.markValue (markParameter e) .plain s)))) := by
  show execMarkRemoved s = _
  simp only [execMarkRemoved, h]
  exact if_pos (by simp [(headsLeave_iff s).2 hr, hk])

/-! ## The acknowledged record (R175, R177) -/

theorem exec_recordWriteComplete {s s1 : State} {r : Request} {ws : List Word} (h : serve .record s = some (r, ws, s1)) :
    exec .recordWriteComplete s = .next (sealPort (recordWritten s1)) := by
  show execRecordWriteComplete s = _
  simp only [execRecordWriteComplete, h]
  rfl

/-- A request that is outstanding stays so when a notice is requested. -/
theorem mem_requestNotice_reqs {r : Request} {s : State} (k : NoticeKind) (x y : Word) (m : NoticeMark)
    (hr : r ∈ s.port.reqs) : r ∈ (requestNotice k x y m s).port.reqs := by
  obtain ⟨more, h⟩ := requestNotice_eq k x y m s
  rw [h]
  exact List.mem_append_left _ hr

theorem mem_logMarks_reqs {r : Request} {s : State} (f seq : Nat) (hr : r ∈ s.port.reqs) :
    r ∈ (logMarks f seq s).port.reqs := by
  unfold logMarks
  split
  · exact mem_requestNotice_reqs _ _ _ _ hr
  · split
    · exact mem_requestNotice_reqs _ _ _ _ hr
    · exact hr

/-- The notice of an advance of the fill index to `f` (R177). -/
theorem logMarks_queue {s : State} (f seq : Nat) (hi : s.notice.inForce = true) (hq : s.notice.queue.length < 16) :
    (logMarks f seq s).notice.queue = s.notice.queue ++
      (if f = s.settings.logSize / 2 then
        [⟨.logHalf, BitVec.ofNat 32 (s.settings.logSize / 2), BitVec.ofNat 32 seq, s.rc.time, .plain⟩]
       else if f = 0 then [⟨.logWrap, 0, BitVec.ofNat 32 seq, s.rc.time, .plain⟩]
       else []) := by
  unfold logMarks
  split
  next h => rw [requestNotice_queue hi hq, ← h]
  · split
    · exact requestNotice_queue hi hq
    · exact (List.append_nil _).symm

@[simp] theorem recordWritten_log (s : State) : (recordWritten s).log =
    { s.log with fill := (s.log.fill + 1) % s.settings.logSize, busy := false } := by
  simp [recordWritten]

/-! ## A read of the release index (R176) -/

/-- Serving a request changes memory and the outstanding requests. -/
theorem serve_eq {k : ReqKind} {s s1 : State} {r : Request} {ws : List Word} (h : serve k s = some (r, ws, s1)) :
    ∃ m q, s1 = { s with mem := m, port := { s.port with reqs := q } } := by
  obtain ⟨-, -, -, h1⟩ := serve_some h
  exact ⟨_, _, h1⟩

theorem exec_releaseReadComplete {s s1 : State} {r : Request} {v : Word} (h : serve .release s = some (r, [v], s1))
    (hl : r.live = true) : exec .releaseReadComplete s = .next (sealPort (settle (releaseRead v s1))) := by
  show execReleaseReadComplete s = _
  simp only [execReleaseReadComplete, h, hl]
  rfl

/-- The value read is held, and a read of ROOM's that the head waits behind is counted off. -/
def releaseTaken (v : Word) (s : State) : State :=
  { s with log := { s.log with release := v.toNat % s.settings.logSize, ahead := s.log.ahead - 1 } }

/-- A read that is not the head's own, which ROOM asked to repeat, is repeated (R4). -/
theorem releaseRead_repeated {v : Word} {s : State} (hw : s.log.waiting = false ∨ 0 < s.log.ahead)
    (ha : s.log.readAgain = true) : releaseRead v s = readReleaseAgain (releaseTaken v s) := by
  rw [releaseRead, if_neg, if_pos ha]
  · rfl
  · rcases hw with hw | hw
    · simp [hw]
    · simp [Nat.ne_of_gt hw]

/-- A read of ROOM's ahead of the head's own gives its value only. -/
theorem releaseRead_ahead {v : Word} {s : State} (hw : s.log.waiting = true) (hn : 0 < s.log.ahead)
    (ha : s.log.readAgain = false) : releaseRead v s = releaseTaken v s := by
  rw [releaseRead, if_neg (by simp [Nat.ne_of_gt hn]), if_neg (by simp [ha]), if_pos hw]
  rfl

/-- The head's own read, or one made while no head waits, is answered by the room test. -/
theorem releaseRead_tested {v : Word} {s : State}
    (h : (s.log.waiting = true ∧ s.log.ahead = 0) ∨ (s.log.waiting = false ∧ s.log.readAgain = false)) :
    releaseRead v s = roomRetest (releaseTaken v s) := by
  rcases h with ⟨hw, hn⟩ | ⟨hw, ha⟩
  · exact if_pos (by simp [hw, hn])
  · rw [releaseRead, if_neg (by simp [hw]), if_neg (by simp [ha]), if_neg (by simp [hw])]
    rfl

/-- Where no head waits and the logger is not held the room test has nothing to decide. -/
theorem roomRetest_of_free {s : State} (hw : s.log.waiting = false) (hh : s.log.held = false) : roomRetest s = s :=
  if_neg (by simp [hw, hh])

theorem releaseRead_of_free {v : Word} {s : State} (hw : s.log.waiting = false) (hh : s.log.held = false)
    (ha : s.log.readAgain = false) : releaseRead v s = releaseTaken v s := by
  rw [releaseRead_tested (.inr ⟨hw, ha⟩), roomRetest_of_free (s := releaseTaken v s) hw hh]

theorem roomRetest_full_held {s : State} (hroom : hasRoom s = false) (hh : s.log.held = true) : roomRetest s = s := by
  rw [roomRetest, if_pos (by simp [hh]), if_neg (by simp [hroom]), if_pos hh]

theorem roomRetest_full_waiting {s : State} (hroom : hasRoom s = false) (hw : s.log.waiting = true)
    (hh : s.log.held = false) : roomRetest s = setHeld s := by
  rw [roomRetest, if_pos (by simp [hw]), if_neg (by simp [hroom]), if_neg (by simp [hh])]

/-- Room found ends the hold and the wait. -/
def endLogHold (s : State) : State := { s with log := { s.log with held := false, waiting := false } }

theorem roomRetest_room_idle {s : State} (hroom : hasRoom s = true) (h : s.log.waiting = true ∨ s.log.held = true)
    (hno : offeredHead s = none ∨ s.log.busy = true) : roomRetest s = endLogHold s := by
  rw [roomRetest, if_pos (by simpa using h), if_pos hroom]
  change (match offeredHead s with
    | some e => if s.log.busy then endLogHold s else takeHead e (endLogHold s)
    | none => endLogHold s) = endLogHold s
  rcases hno with hno | hno
  · rw [hno]
  · split
    · exact if_pos hno
    · rfl

theorem roomRetest_room_taken {s : State} {e : Entry} (hroom : hasRoom s = true)
    (h : s.log.waiting = true ∨ s.log.held = true) (he : offeredHead s = some e) (hb : s.log.busy = false) :
    HeadTaken e (endLogHold s) (roomRetest s) := by
  rw [roomRetest, if_pos (by simpa using h), if_pos hroom]
  change HeadTaken e (endLogHold s) (match offeredHead s with
    | some e => if s.log.busy then endLogHold s else takeHead e (endLogHold s)
    | none => endLogHold s)
  rw [he]
  dsimp only
  rw [if_neg (by simp [hb])]
  exact takeHead_taken e _

@[simp] theorem setHeld_log (s : State) : (setHeld s).log = { s.log with held := true, waiting := false } := by
  simp [setHeld]

@[simp] theorem setHeld_pend (s : State) : (setHeld s).notice.pend = { s.notice.pend with logHeld := true } := by
  simp [setHeld, pendLogHeld]

/-- Setting held is reported with the fill index and the release index (R176). -/
theorem setHeld_queue {s : State} (hi : s.notice.inForce = true) (hq : s.notice.queue.length < 16) :
    (setHeld s).notice.queue = s.notice.queue
      ++ [⟨.logHeld, BitVec.ofNat 32 s.log.fill, BitVec.ofNat 32 s.log.release, s.rc.time, .plain⟩] :=
  requestNotice_queue hi hq

end Sys2Proof.Machine

namespace Sys2Proof.Proofs

open Sys2Proof Sys2Proof.Machine

/-- Settles O44: an offered head by the room test, a head not offered, and a MARK. -/
theorem headLeavesWindow : Obligations.HeadLeavesWindow := by
  unfold Obligations.HeadLeavesWindow
  refine fun s e rest hw hr => ⟨fun hk hu hb hh hn => ?_, fun hk hno => ?_, fun hk => ?_, fun n => rfl, fun k => ?_⟩
  · have hexec := exec_headTaken_of_free ((offeredHead_iff s e).2 ⟨⟨rest, hw⟩, hr, hu, hk⟩) hb hh hn
    refine ⟨fun hroom => ⟨takeHead e s, ?_, takeHead_taken e s⟩, fun hroom => ?_⟩
    · rw [hexec, if_pos ((hasRoom_iff s).2 hroom)]
      rfl
    · rw [hexec, if_neg fun hc => by have := (hasRoom_iff s).1 hc; omega]
      rfl
  · refine exec_headTaken_idle (hno.imp_left fun hu => Option.eq_none_iff_forall_ne_some.2 fun x hx => ?_)
    obtain ⟨⟨_, hx⟩, -, hux, -⟩ := (offeredHead_iff s x).1 hx
    rw [hw] at hx
    cases hx
    rw [hu] at hux
    cases hux
  · refine ⟨_, exec_markRemoved_of_mark hw hr hk, ?_, ?_, ?_, ?_, ?_, fun hi hq => requestNotice_queue hi hq⟩
    all_goals simp [hw]
  · cases k <;> simp [recordKindCode]

/-- Settles O46: the acknowledged record, then a release index read by the hold, the head and ROOM. -/
theorem logAdvancesAndWaits : Obligations.LogAdvancesAndWaits := by
  unfold Obligations.LogAdvancesAndWaits
  refine ⟨fun s s1 r ws h _ => ?_, fun s s1 r v h hl => ?_, offeredHead_iff, fun s => ⟨fun hh hg hn => ?_, fun h => ?_⟩⟩
  · obtain ⟨m, q, rfl⟩ := serve_eq h
    refine ⟨_, exec_recordWriteComplete h, recordWritten_mem _, recordWritten_rc _, recordWritten_log _, ?_, ?_⟩
    · exact mem_logMarks_reqs _ _ (List.mem_append_right _ (.head _))
    · exact fun hi hq => logMarks_queue _ _ hi hq
  · obtain ⟨m, q, rfl⟩ := serve_eq h
    have hexec := exec_releaseReadComplete h hl
    refine ⟨_, hexec, fun hw ha => ?_, fun hw ha => ?_, fun hw => ?_⟩
    · exact releaseRead_repeated hw ha
    · rcases hw with ⟨hw, hn⟩ | ⟨hw, hh⟩
      · exact releaseRead_ahead hw hn ha
      · exact releaseRead_of_free hw hh ha
    · rw [releaseRead_tested (s := { s with mem := m, port := { s.port with reqs := q } })
        (hw.imp_right fun ⟨g1, _, g3⟩ => ⟨g1, g3⟩)]
      have hask : s.log.waiting = true ∨ s.log.held = true := hw.imp And.left fun ⟨_, g2, _⟩ => g2
      refine ⟨fun hroom => ?_, fun hroom t ht => ?_⟩
      · have hfull : hasRoom (releaseTaken v { s with mem := m, port := { s.port with reqs := q } }) = false := by
          rw [Bool.eq_false_iff]
          exact fun hc => by have := (hasRoom_iff _).1 hc; exact absurd hroom (Int.not_lt.2 this)
        refine ⟨fun hh => ?_, fun hh => roomRetest_full_held hfull hh⟩
        have hwait : s.log.waiting = true := hask.resolve_right (by simp [hh])
        rw [roomRetest_full_waiting hfull hwait hh]
        exact ⟨setHeld_log _, setHeld_window _, setHeld_mem _, setHeld_rc _, setHeld_pend _,
          fun hi hq => setHeld_queue hi hq⟩
      · subst ht
        refine ⟨fun hno => roomRetest_room_idle ((hasRoom_iff _).2 hroom) hask hno, fun e he hb => ?_⟩
        exact roomRetest_room_taken ((hasRoom_iff _).2 hroom) hask he hb
  · exact if_pos (by simp [hh, hg, hn])
  · exact if_neg (by rcases h with h | h <;> simp [h])

end Sys2Proof.Proofs
end

section
/-! PROOFS. The Memory Port: a request served, a request that fails, and what a memory error leaves alone. -/

namespace Sys2Proof.Machine

open Sys2Proof

/-! ## When a request may be served (R13) -/

theorem inWindow_iff (r : Request) : r.inWindow = true ↔ r.addr + 4 * r.words ≤ 33554432 := decide_eq_true_iff

theorem inWindow_eq_false {r : Request} (h : 33554432 < r.addr + 4 * r.words) : r.inWindow = false := by
  rw [Bool.eq_false_iff]
  exact fun hc => by have := (inWindow_iff r).1 hc; omega

theorem mayServe_iff (before : List Request) (r : Request) : mayServe before r = true ↔
    ∀ q ∈ before, isFillWord q.kind = true ∨ (q.epoch = r.epoch ∧ reqBlock q.kind ≠ reqBlock r.kind) := by
  simp [mayServe]

theorem mayServe_eq_false {before : List Request} {r q : Request} (hq : q ∈ before) (hf : isFillWord q.kind = false)
    (h : q.epoch ≠ r.epoch ∨ reqBlock q.kind = reqBlock r.kind) : mayServe before r = false := by
  rw [Bool.eq_false_iff]
  intro hc
  rcases (mayServe_iff before r).1 hc q hq with hfill | ⟨he, hb⟩
  · rw [hf] at hfill
    cases hfill
  · exact h.elim (fun h => h he) hb

theorem splitReq_eq_none {k : ReqKind} {rs : List Request} (h : ∀ r ∈ rs, r.kind ≠ k) : splitReq k rs = none := by
  induction rs with
  | nil => rfl
  | cons q rs ih => rw [splitReq, if_neg (h q (.head _)), ih fun r hr => h r (.tail _ hr)]

/-! ## The words a request reads and writes (R13, R14) -/

/-- What a request that fails at its word `n` has done to memory: the words before it, none where it lies outside the window. -/
def failReq (m : List Host.Cell) (r : Request) (n : Nat) : List Host.Cell :=
  match r.body with
  | .read _ => m
  | .write ws => memSetWords m r.addr (ws.take (if r.inWindow then min n (r.words - 1) else 0))

theorem performReq_read {r : Request} {n : Nat} (h : r.body = .read n) (m : List Host.Cell) : performReq m r = m := by
  rw [performReq, h]

theorem performReq_write {r : Request} {ws : List Word} (h : r.body = .write ws) (hw : r.inWindow = true)
    (m : List Host.Cell) : performReq m r = memSetWords m r.addr ws := by
  simp only [performReq, h]
  exact if_pos hw

theorem failReq_read {r : Request} {k : Nat} (h : r.body = .read k) (m : List Host.Cell) (n : Nat) :
    failReq m r n = m := by
  rw [failReq, h]

theorem failReq_write {r : Request} {ws : List Word} (h : r.body = .write ws) (hw : r.inWindow = true)
    (m : List Host.Cell) (n : Nat) : failReq m r n = memSetWords m r.addr (ws.take (min n (ws.length - 1))) := by
  simp only [failReq, h, hw, Request.words, if_true]

theorem failReq_outside {r : Request} (hw : r.inWindow = false) (m : List Host.Cell) (n : Nat) : failReq m r n = m := by
  unfold failReq
  split
  · rfl
  · rw [hw]
    rfl

theorem memWord_memSetWords {m : List Host.Cell} (hm : Memory.wf m = true) (x : Nat) (ws : List Word) {i : Nat} {w : Word}
    (h : ws[i]? = some w) : memWord (memSetWords m x ws) (x + 4 * i) = w := by
  induction ws generalizing m x i with
  | nil => cases h
  | cons v ws ih =>
    rw [memSetWords]
    have hm' := memSetWord_wf x v hm
    cases i with
    | zero =>
      obtain rfl : v = w := by simpa using h
      rw [memWord_memSetWords_outside _ _ _ (.inl (by omega)) hm']
      exact memWord_memSetWord x v hm
    | succ i =>
      rw [show x + 4 * (i + 1) = x + 4 + 4 * i by omega]
      exact ih hm' (x + 4) (by simpa using h)

@[simp] theorem memWords_length (m : List Host.Cell) (x n : Nat) : (memWords m x n).length = n := by
  induction n generalizing x with
  | zero => rfl
  | succ n ih => rw [memWords, List.length_cons, ih]

theorem memWords_getElem? (m : List Host.Cell) (x : Nat) {n i : Nat} (h : i < n) :
    (memWords m x n)[i]? = some (memWord m (x + 4 * i)) := by
  induction n generalizing x i with
  | zero => omega
  | succ n ih =>
    cases i with
    | zero => rfl
    | succ i =>
      rw [show x + 4 * (i + 1) = x + 4 + 4 * i by omega]
      simpa [memWords] using ih (x + 4) (Nat.lt_of_succ_lt_succ h)

/-! ## Serving and failing, by the place of the request (R13, R14) -/

section
variable {s : State} {k : ReqKind} {before after : List Request} {r : Request}
  (hs : s.port.reqs = before ++ r :: after) (hk : r.kind = k) (hb : ∀ q ∈ before, q.kind ≠ k)
include hs hk hb

theorem serve_of_place : serve k s =
    if mayServe before r && r.inWindow then some (r, readData (performFills s.mem before) r, { s with
      mem := performReq (performFills s.mem before) r
      port := { s.port with reqs := withoutFills before ++ after } })
    else none := by
  rw [serve, hs, splitReq_append k before after r hk hb]

theorem serveFailing_of_place (n : Nat) : serveFailing k n s =
    if mayServe before r then some (r, { s with
      mem := failReq (performFills s.mem before) r n
      port := { s.port with reqs := withoutFills before ++ after } })
    else none := by
  rw [serveFailing, hs, splitReq_append k before after r hk hb]
  rfl

end

/-! ## A memory error (R14) -/

/-- The fields that only a completed request or a loading sets: the indices and what the loading reads gave. -/
structure KeepsHeld (s u : State) : Prop where
  fill : u.log.fill = s.log.fill
  capFill : u.log.capFill = s.log.capFill
  release : u.log.release = s.log.release
  noticeFill : u.notice.fill = s.notice.fill
  banks : u.unit.banks = s.unit.banks
  resNull : u.unit.resNull = s.unit.resNull
  capNull : u.unit.capNull = s.unit.capNull
  table : u.div.table = s.div.table

theorem KeepsHeld.trans {s t u : State} (h1 : KeepsHeld s t) (h2 : KeepsHeld t u) : KeepsHeld s u := by
  obtain ⟨a1, a2, a3, a4, a5, a6, a7, a8⟩ := h1
  obtain ⟨b1, b2, b3, b4, b5, b6, b7, b8⟩ := h2
  exact ⟨b1.trans a1, b2.trans a2, b3.trans a3, b4.trans a4, b5.trans a5, b6.trans a6, b7.trans a7, b8.trans a8⟩

@[simp] theorem requestNotice_fill (k : NoticeKind) (x y : Word) (m : NoticeMark) (s : State) :
    (requestNotice k x y m s).notice.fill = s.notice.fill := by
  obtain ⟨more, h⟩ := requestNotice_eq k x y m s
  rw [h]

/-- The writes of HALTED entries leave the notice fill index and every source but RUN_END. -/
theorem runHaltSeqs_notice (l : List HaltSeq) (s : State) : (runHaltSeqs l s).notice.fill = s.notice.fill
    ∧ (runHaltSeqs l s).notice.pend.memoryError = s.notice.pend.memoryError := by
  induction l generalizing s with
  | nil => exact ⟨rfl, rfl⟩
  | cons h t ih =>
    unfold runHaltSeqs
    split
    · exact ⟨rfl, rfl⟩
    · exact ⟨rfl, rfl⟩
    · obtain ⟨h1, h2⟩ := ih (requestNotice .runEnded (BitVec.ofNat 32 (endCodeCode h.endCode)) h.causes .halt (pendRunEnd s))
      rw [h1, h2]
      simp [pendRunEnd]

theorem enterHalted_notice (code : EndCode) (causes : Word) (s : State) :
    (enterHalted code causes s).notice.fill = s.notice.fill
    ∧ (enterHalted code causes s).notice.pend.memoryError = s.notice.pend.memoryError := by
  unfold enterHalted
  split
  · exact ⟨rfl, rfl⟩
  · dsimp only
    split
    · simp [pendRunEnd, ringOutOfForce]
    · split
      · obtain ⟨h1, h2⟩ := runHaltSeqs_notice [_] { endActivity s with rc := { (endActivity s).rc with
          run := .halted, endCode := code, underWay := false, endCauses := causes } }
        rw [h1, h2]
        simp
      · simp

theorem enterHalted_keepsHeld (code : EndCode) (causes : Word) (s : State) : KeepsHeld s (enterHalted code causes s) := by
  by_cases h : s.rc.run = .halted
  · rw [enterHalted_of_halted h]
    exact ⟨rfl, rfl, rfl, rfl, rfl, rfl, rfl, rfl⟩
  · obtain ⟨-, -, hdiv, hlog, src, grd, hunit⟩ := enterHalted_blocks code causes h
    refine ⟨?_, ?_, ?_, (enterHalted_notice code causes s).1, ?_, ?_, ?_, ?_⟩
    all_goals simp only [hdiv, hlog, hunit]

theorem runHaltSeqs_keepsHeld (l : List HaltSeq) (s : State) : KeepsHeld s (runHaltSeqs l s) := by
  refine ⟨?_, ?_, ?_, (runHaltSeqs_notice l s).1, ?_, ?_, ?_, ?_⟩ <;> simp

/-- A block that takes no data from its failed request sets none of these. -/
theorem requestFailed_keepsHeld (r : Request) (s : State) : KeepsHeld s (requestFailed r s) := by
  have hrefl : KeepsHeld s s := ⟨rfl, rfl, rfl, rfl, rfl, rfl, rfl, rfl⟩
  unfold requestFailed
  split
  case h_4 =>
    unfold advanceHalt
    split
    · exact hrefl
    · exact runHaltSeqs_keepsHeld _ s
  case h_6 =>
    unfold releaseFailed
    (repeat' split) <;> exact ⟨rfl, rfl, rfl, rfl, rfl, rfl, rfl, rfl⟩
  all_goals (repeat' split) <;> exact ⟨rfl, rfl, rfl, rfl, rfl, rfl, rfl, rfl⟩

/-- Of run control a failed request changes at most the writes of HALTED entries still to be made. -/
theorem requestFailed_rc (r : Request) (s : State) : ∃ q, (requestFailed r s).rc = { s.rc with haltSeqs := q } := by
  unfold requestFailed
  split
  case h_4 =>
    unfold advanceHalt
    split
    · exact ⟨s.rc.haltSeqs, rfl⟩
    · exact runHaltSeqs_rc _ s
  case h_6 =>
    unfold releaseFailed
    (repeat' split) <;> exact ⟨s.rc.haltSeqs, rfl⟩
  all_goals (repeat' split) <;> exact ⟨s.rc.haltSeqs, rfl⟩

theorem requestFailed_record {r : Request} (h : r.kind = .record) (s : State) :
    requestFailed r s = { s with log := { s.log with busy := false } } := by rw [requestFailed, h]

theorem requestFailed_notice {r : Request} (h : r.kind = .notice) (hl : r.live = true) (s : State) :
    requestFailed r s = dropFrontNotice s := by
  rw [requestFailed, h]
  exact if_pos hl

/-- In IDLE the second read that ROOM asked for follows a failed one (R4). -/
theorem requestFailed_release_again {r : Request} {s : State} (h : r.kind = .release) (hl : r.live = true)
    (ha : s.log.readAgain = true) (hi : s.rc.run = .idle) : requestFailed r s = readReleaseAgain s := by
  rw [requestFailed, h]
  exact (if_pos hl).trans (if_pos (by simp [ha, atRest, hi]))

theorem haltMemoryError_at_rest {s : State} (h : s.rc.run = .idle ∨ s.rc.run = .halted) : haltMemoryError s = s :=
  if_pos ((atRest_iff s).2 h)

theorem haltMemoryError_in_run {s : State} (h1 : s.rc.run ≠ .idle) (h2 : s.rc.run ≠ .halted) :
    haltMemoryError s = enterHalted .memoryError 0 s :=
  if_neg fun hc => ((atRest_iff s).1 hc).elim h1 h2

theorem haltMemoryError_keepsHeld (s : State) : KeepsHeld s (haltMemoryError s) := by
  unfold haltMemoryError
  split
  · exact ⟨rfl, rfl, rfl, rfl, rfl, rfl, rfl, rfl⟩
  · exact enterHalted_keepsHeld _ _ _

theorem haltMemoryError_pend (s : State) :
    (haltMemoryError s).notice.pend.memoryError = s.notice.pend.memoryError := by
  unfold haltMemoryError
  split
  · rfl
  · exact (enterHalted_notice _ _ _).2

/-- The state after a memory error of the request `r`, on the state `s` in which the Memory Port has dropped it. -/
def memoryErrorTaken (r : Request) (s : State) : State :=
  startNotice (haltMemoryError (pendMemoryError (requestFailed r s)))

theorem exec_memoryError {kind : ReqKind} {n : Nat} {s s1 : State} {r : Request}
    (h : serveFailing kind n s = some (r, s1)) :
    exec (.memoryError kind n) s = .next (sealPort (settle (memoryErrorTaken r s1))) := by
  show execMemoryError kind n s = _
  simp only [execMemoryError, h]
  rfl

theorem mem_startNotice_reqs {r : Request} {s : State} (hr : r ∈ s.port.reqs) : r ∈ (startNotice s).port.reqs := by
  obtain ⟨more, h⟩ := startNotice_eq s
  rw [h]
  exact List.mem_append_left _ hr

/-- What every memory error leaves, whichever block made the request. -/
theorem memoryErrorTaken_keepsHeld (r : Request) (s : State) : KeepsHeld s (memoryErrorTaken r s) := by
  have hpend : KeepsHeld (requestFailed r s) (pendMemoryError (requestFailed r s)) := ⟨rfl, rfl, rfl, rfl, rfl, rfl, rfl, rfl⟩
  have hstart : KeepsHeld (haltMemoryError (pendMemoryError (requestFailed r s))) (memoryErrorTaken r s) := by
    refine ⟨?_, ?_, ?_, ?_, ?_, ?_, ?_, ?_⟩ <;> simp [memoryErrorTaken]
  exact (requestFailed_keepsHeld r s).trans (hpend.trans ((haltMemoryError_keepsHeld _).trans hstart))

theorem memoryErrorTaken_pend (r : Request) (s : State) :
    (memoryErrorTaken r s).notice.pend.memoryError = true := by
  rw [memoryErrorTaken, startNotice_notice, haltMemoryError_pend]
  rfl

/-- In IDLE and HALTED the run is left as it is. -/
theorem memoryErrorTaken_at_rest (r : Request) {s : State} (h : s.rc.run = .idle ∨ s.rc.run = .halted) :
    memoryErrorTaken r s = startNotice (pendMemoryError (requestFailed r s)) := by
  obtain ⟨q, hq⟩ := requestFailed_rc r s
  have hrun : (pendMemoryError (requestFailed r s)).rc.run = s.rc.run := by
    rw [pendMemoryError_rc, hq]
  rw [memoryErrorTaken, haltMemoryError_at_rest (by rw [hrun]; exact h)]

/-- In every other run state the run halts with MEMORY_ERROR. -/
theorem memoryErrorTaken_in_run (r : Request) {s : State} (h1 : s.rc.run ≠ .idle) (h2 : s.rc.run ≠ .halted) :
    (pendMemoryError (requestFailed r s)).rc.run ≠ .halted
    ∧ memoryErrorTaken r s = startNotice (enterHalted .memoryError 0 (pendMemoryError (requestFailed r s))) := by
  obtain ⟨q, hq⟩ := requestFailed_rc r s
  have hrun : (pendMemoryError (requestFailed r s)).rc.run = s.rc.run := by
    rw [pendMemoryError_rc, hq]
  refine ⟨by rw [hrun]; exact h2, ?_⟩
  rw [memoryErrorTaken, haltMemoryError_in_run (by rw [hrun]; exact h1) (by rw [hrun]; exact h2)]

/-- A failed record write frees the logger, in every run state. -/
theorem memoryErrorTaken_record {r : Request} (h : r.kind = .record) (s : State) :
    (memoryErrorTaken r s).log.busy = false := by
  rw [memoryErrorTaken, startNotice_log, haltMemoryError]
  split
  · rw [requestFailed_record h]
    rfl
  next hrest =>
    have hrun : (pendMemoryError (requestFailed r s)).rc.run ≠ .halted := fun hc => hrest ((atRest_iff _).2 (.inr hc))
    obtain ⟨-, -, -, hlog, -⟩ := enterHalted_blocks .memoryError 0 hrun
    rw [hlog, requestFailed_record h]
    rfl

end Sys2Proof.Machine

namespace Sys2Proof.Proofs

open Sys2Proof Sys2Proof.Machine

/-- Settles O48: the place of a request among the outstanding ones, the memory error by run state, and the words in memory. -/
theorem portServesAndFails : Obligations.PortServesAndFails := by
  unfold Obligations.PortServesAndFails
  refine ⟨fun s r rest hs => ?_, fun kind n s s1 r h => ?_, fun s kind before after r m hs hk hb hm => ?_,
    fun s kind h => ?_, fun m q rest => ?_, fun kind => ?_, fun m x ws hm => ?_, fun m x => rfl, fun m r n h => ?_,
    fun s kind => ?_, fun s => ?_⟩
  · have hserve := serve_of_place (k := r.kind) (before := []) hs rfl nofun
    refine ⟨fun hw => ?_, fun hw => ?_, fun n => ?_⟩
    · rw [hserve, (inWindow_iff r).2 hw]
      exact ⟨_, rfl, rfl, fun n h => performReq_read h _, fun ws h => performReq_write h ((inWindow_iff r).2 hw) _⟩
    · rw [hserve, inWindow_eq_false hw]
      rfl
    · exact ⟨_, serveFailing_of_place (before := []) hs rfl nofun n, rfl, fun k h => failReq_read h _ n,
        fun data h hw => failReq_write h ((inWindow_iff r).2 hw) _ n, fun hw => failReq_outside (inWindow_eq_false hw) _ n⟩
  · obtain ⟨hk, -, h1⟩ := serveFailing_some h
    have hrc : s1.rc = s.rc := by rw [h1]
    have hlog : s1.log = s.log := by rw [h1]
    have hheld : KeepsHeld s (memoryErrorTaken r s1) :=
      KeepsHeld.trans (by rw [h1]; exact ⟨rfl, rfl, rfl, rfl, rfl, rfl, rfl, rfl⟩) (memoryErrorTaken_keepsHeld r s1)
    obtain ⟨g1, g2, g3, g4, g5, g6, g7, g8⟩ := hheld
    refine ⟨_, exec_memoryError h, memoryErrorTaken_pend r s1, by simp [memoryErrorTaken], g1, g2, g4, g3, g5, g6, g7, g8,
      ?_, ?_, ?_, fun hkind hl ha hi => ?_, fun hkind => memoryErrorTaken_record (hk.trans hkind) s1,
      fun hkind hl hrest => ?_, fun hrest => ?_, fun hi hh => ?_⟩
    · rw [memoryErrorTaken, startNotice_settings, haltMemoryError_settings, pendMemoryError_settings, requestFailed_settings, h1]
    · rw [memoryErrorTaken, startNotice_link, haltMemoryError_link, pendMemoryError_link, requestFailed_link, h1]
    · rw [memoryErrorTaken, startNotice_corr, haltMemoryError_corr, pendMemoryError_corr, requestFailed_corr, h1]
    · rw [memoryErrorTaken_at_rest r (.inl (hrc ▸ hi)),
        requestFailed_release_again (hk.trans hkind) hl (hlog ▸ ha) (hrc ▸ hi)]
      refine ⟨by rw [startNotice_log]; rfl, mem_startNotice_reqs ?_⟩
      rw [h1]
      exact List.mem_append_right _ (.head _)
    · rw [memoryErrorTaken_at_rest r (hrc ▸ hrest), requestFailed_notice (hk.trans hkind) hl, startNotice_notice, h1]
      rfl
    · obtain ⟨q, hq⟩ := requestFailed_rc r s1
      rw [memoryErrorTaken_at_rest r (hrc ▸ hrest), startNotice_rc, pendMemoryError_rc, hq, hrc]
      exact ⟨rfl, rfl⟩
    · obtain ⟨hrun, hu⟩ := memoryErrorTaken_in_run r (hrc ▸ hi) (hrc ▸ hh)
      obtain ⟨q, hq⟩ := enterHalted_rc .memoryError 0 hrun
      obtain ⟨-, hwindow, -, -, src, grd, hunit⟩ := enterHalted_blocks .memoryError 0 hrun
      rw [hu, startNotice_rc, startNotice_window, startNotice_unit, hq, hwindow, hunit]
      exact ⟨rfl, rfl, rfl, rfl⟩
  · subst hm
    refine ⟨fun hmay => ?_, fun ⟨q, hq, hf, h⟩ => ?_⟩
    · have hmay' := (mayServe_iff before r).2 hmay
      refine ⟨fun hw => ?_, fun hw => ?_, fun n => ?_⟩
      · have hin := (inWindow_iff r).2 hw
        rw [serve_of_place hs hk hb, hmay', hin]
        obtain ⟨kind', addr, body, live, epoch⟩ := r
        cases body with
        | read n => rfl
        | write ws => rw [performReq_write rfl hin]; rfl
      · rw [serve_of_place hs hk hb, hmay', inWindow_eq_false hw]
        rfl
      · rw [serveFailing_of_place hs hk hb, hmay']
        obtain ⟨kind', addr, body, live, epoch⟩ := r
        cases body with
        | read n => rfl
        | write ws =>
          by_cases hw : addr + 4 * ws.length ≤ 33554432
          · rw [failReq_write rfl ((inWindow_iff _).2 hw)]
            dsimp only
            rw [if_pos hw]
            rfl
          · rw [failReq_outside (inWindow_eq_false (Nat.lt_of_not_le hw))]
            dsimp only
            rw [if_neg hw]
            rfl
    · have hmay := mayServe_eq_false hq hf h
      exact ⟨by rw [serve_of_place hs hk hb, hmay]; rfl, fun n => by rw [serveFailing_of_place hs hk hb, hmay]; rfl⟩
  · exact ⟨by rw [serve, splitReq_eq_none h], fun n => by rw [serveFailing, splitReq_eq_none h]⟩
  · refine ⟨rfl, fun hf => ?_, fun ws hf hb hw => ?_⟩
    · rw [performFills, hf]
      rfl
    · have hin : q.inWindow = true := (inWindow_iff q).2 (by rw [Request.words, hb]; exact hw)
      rw [performFills, if_pos hf, performReq_write hb hin]
  · cases kind <;> simp [isFillWord, reqBlock]
  · exact ⟨fun i w h => memWord_memSetWords hm x ws h, fun y h => memByte_memSetWords_outside x ws h hm⟩
  · rw [readData, h]
    exact ⟨memWords_length m r.addr n, fun i hi => memWords_getElem? m r.addr hi⟩
  · refine ⟨by simp [hasReq], by simp [hasLive], ?_⟩
    simp [countLive, List.countP_eq_length_filter]
  · refine ⟨fun ⟨r, hr, he⟩ => ?_, fun h => ?_, fun r rest hs => ⟨fun hf => ?_, fun ws hf hb hw => ?_⟩⟩
    · exact if_pos (List.any_eq_true.2 ⟨r, hr, decide_eq_true he⟩)
    · refine if_neg fun hc => ?_
      obtain ⟨r, hr, he⟩ := List.any_eq_true.1 hc
      exact h r hr (of_decide_eq_true he)
    · rw [serveFillWord, hs]
      exact if_neg (by simp [hf])
    · have hin : r.inWindow = true := (inWindow_iff r).2 (by rw [Request.words, hb]; exact hw)
      rw [serveFillWord, hs]
      dsimp only
      rw [if_pos hf, performReq_write hb hin]

end Sys2Proof.Proofs
end

section
/-! PROOFS. The abort of a measurement, the interlock, and the relation `Calm` of two states that differ in no line, link state or
run state that the safe state speaks of. -/

namespace Sys2Proof.Machine

open Sys2Proof

/-! ## The abort of a measurement (R121, R140) -/

theorem abortMeasurement_of_idle {s : State} (h : s.unit.step = none) : abortMeasurement s = s := by
  rw [abortMeasurement, h]

theorem abortMeasurement_of_measuring {s : State} (h : s.unit.step ≠ none) : abortMeasurement s =
    startDeferred { dropReqs .capture s with
      unit := { s.unit with step := none, sourceOn := false, guardOn := false } } := by
  obtain ⟨r, hr⟩ := Option.ne_none_iff_exists'.1 h
  rw [abortMeasurement, hr]

@[simp] theorem abortMeasurement_step (s : State) : (abortMeasurement s).unit.step = none := by
  obtain ⟨src, grd, h⟩ := abortMeasurement_unit s
  rw [h]

/-- The abort of a measurement in progress turns the source and the guard driver off. -/
theorem abortMeasurement_source {s : State} (h : s.unit.step ≠ none) :
    (abortMeasurement s).unit.sourceOn = false ∧ (abortMeasurement s).unit.guardOn = false := by
  rw [abortMeasurement_of_measuring h]
  exact ⟨rfl, rfl⟩

/-- The abort of a measurement takes every held contact check (R121). -/
theorem abortMeasurement_deferred {s : State} (h : s.unit.step ≠ none) : DeferredTaken s (abortMeasurement s) := by
  intro p
  have hp : probe (abortMeasurement s) p = probe s p := by simp [probe]
  have hc : (abortMeasurement s).checks.get p = startHeld (probe s p) (s.checks.get p) := by
    rw [abortMeasurement_of_measuring h]
    exact Per.get_make _ p
  rw [hc, hp]
  obtain ⟨running, held⟩ := s.checks.get p
  cases running with
  | some c => rfl
  | none =>
    cases held with
    | none => rfl
    | some c => simp [startHeld, atLanding]

/-- What the end of the measurement makes of the unit depends on the unit alone. -/
theorem abortMeasurement_unit_congr {s t : State} (h : t.unit = s.unit) :
    (abortMeasurement t).unit = (abortMeasurement s).unit := by
  by_cases hs : s.unit.step = none
  · rw [abortMeasurement_of_idle hs, abortMeasurement_of_idle (h ▸ hs), h]
  · rw [abortMeasurement_of_measuring hs, abortMeasurement_of_measuring (h ▸ hs), ← h]
    rfl

/-! ## The interlock of the source (R133) -/

/-- The source is on only while the unit measures (R131, R132). -/
def SourceMeasures (s : State) : Prop := s.unit.sourceOn = true → s.unit.step.isSome = true

theorem InterlockHeld.sourceMeasures {s : State} (h : InterlockHeld s) : SourceMeasures s := fun hs => by
  obtain ⟨r, e, hr, -⟩ := h hs
  simp [hr]

theorem standsVerified_iff (s : State) (p : ProbeNo) :
    standsVerified s p = true ↔ (probe s p).state = .landed ∧ (probe s p).verified = true := by
  simp [standsVerified]

theorem interlockClosed_iff (s : State) (e : Entry) : interlockClosed s e = true ↔
    ∀ x ∈ e.roles, (probe s x.probe).state = .landed ∧ (probe s x.probe).verified = true := by
  simp [interlockClosed, standsVerified_iff]

/-- The measured entry lets the source be on. -/
theorem measuredEntry_closed_iff (s : State) : ((measuredEntryOf s).map (interlockClosed s)).getD false = true ↔
    ∃ r e, s.unit.step = some r ∧ entryOf s r.entry = some e
      ∧ ∀ x ∈ e.roles, (probe s x.probe).state = .landed ∧ (probe s x.probe).verified = true := by
  unfold measuredEntryOf
  cases hr : s.unit.step with
  | none => simp
  | some r =>
    cases he : entryOf s r.entry with
    | none => simp [he]
    | some e => simp [he, interlockClosed_iff]

theorem interlock_of_held {s : State} (h : InterlockHeld s) : interlock s = s := by
  refine if_neg fun hc => ?_
  obtain ⟨hon, hopen⟩ := Bool.and_eq_true_iff.1 hc
  rw [(measuredEntry_closed_iff s).2 (h hon)] at hopen
  cases hopen

theorem interlock_of_not_held {s : State} (h : ¬InterlockHeld s) : interlock s = abortMeasurement s := by
  obtain ⟨hon, hopen⟩ := Classical.not_imp.1 h
  refine if_pos (Bool.and_eq_true_iff.2 ⟨hon, ?_⟩)
  rw [Bool.not_eq_true', Bool.eq_false_iff]
  exact fun hc => hopen ((measuredEntry_closed_iff s).1 hc)

/-- The end of a step enforces the interlock. -/
theorem interlock_held {s : State} (h : SourceMeasures s) : InterlockHeld (interlock s) := by
  by_cases hi : InterlockHeld s
  · rwa [interlock_of_held hi]
  · obtain ⟨hon, -⟩ := Classical.not_imp.1 hi
    have hm : s.unit.step ≠ none := fun hc => by
      have := h hon
      simp [hc] at this
    rw [interlock_of_not_held hi]
    intro hc
    rw [(abortMeasurement_source hm).1] at hc
    cases hc

/-! ## What the device does of its own accord -/

/-- The run state asks for a closed guard: a run goes on, or a START has not seen it open (R15, R18, R29). -/
def NeedsGuard (s : State) : Prop :=
  guardedRun s.rc.run = true ∨ (s.rc.run = .starting ∧ s.rc.guardSeenOpen = false)

theorem guardRespected_iff (s : State) : GuardRespected s ↔
    (s.rc.guardLine.taken = false → guardOpen s = true) ∧ (NeedsGuard s → guardOpen s = false) := by
  constructor
  · rintro ⟨h1, h2, h3⟩
    exact ⟨h1, fun h => h.elim h3 fun ⟨hr, hg⟩ => h2 hr hg⟩
  · rintro ⟨h1, h2⟩
    exact ⟨h1, fun hr hg => h2 (.inr ⟨hr, hg⟩), fun hr => h2 (.inl hr)⟩

/-- No per-probe order can be taken: a STOP is outstanding, the guard reads open or the link is down (R99). -/
def OrdersBarred (s : State) : Prop := s.link.stop.isSome = true ∨ guardOpen s = true ∨ s.link.up = false

theorem mayOrder_iff (p : ProbeNo) (o : Order) (s : State) : mayOrder p o s = true ↔
    (probe s p).order = none ∧ ¬OrdersBarred s ∧ ((probe s p).state ≠ .faulted ∨ isPark o = true) := by
  simp [mayOrder, OrdersBarred, and_assoc]

/-- The measurement and the drivers go on as they were, or the source and the guard driver are off. -/
def SourceKept (s t : State) : Prop :=
  (t.unit.step.isSome = s.unit.step.isSome ∧ t.unit.sourceOn = s.unit.sourceOn ∧ t.unit.guardOn = s.unit.guardOn)
    ∨ (t.unit.sourceOn = false ∧ t.unit.guardOn = false)

theorem SourceKept.of_unit {s t : State} (h : t.unit = s.unit) : SourceKept s t := .inl (by rw [h]; exact ⟨rfl, rfl, rfl⟩)

theorem SourceKept.trans {s t u : State} (h1 : SourceKept s t) (h2 : SourceKept t u) : SourceKept s u := by
  rcases h2 with ⟨a1, a2, a3⟩ | h2
  · unfold SourceKept
    rw [a1, a2, a3]
    exact h1
  · exact .inr h2

/-- The device has gone on without an event of the guard, the link or a measurement that begins: it has taken orders where it may
and ended others, at most turned the source off, and left no run state that needs no guard for one that does. -/
structure Calm (s t : State) : Prop where
  guardLine : t.rc.guardLine = s.rc.guardLine
  needsGuard : NeedsGuard t → NeedsGuard s
  up : t.link.up = s.link.up
  stop : t.link.stop = s.link.stop
  quiet : OrdersBarred s → ∀ p, (probe s p).order = none → (probe t p).order = none
  sequence : SendSequence s → SendSequence t
  source : SourceKept s t

theorem Calm.guardOpen {s t : State} (h : Calm s t) : guardOpen t = guardOpen s := by
  rw [Machine.guardOpen, h.guardLine, Machine.guardOpen]

theorem Calm.ordersBarred {s t : State} (h : Calm s t) : OrdersBarred t ↔ OrdersBarred s := by
  rw [OrdersBarred, h.stop, h.guardOpen, h.up, OrdersBarred]

theorem Calm.trans {s t u : State} (h1 : Calm s t) (h2 : Calm t u) : Calm s u where
  guardLine := h2.guardLine.trans h1.guardLine
  needsGuard := h1.needsGuard ∘ h2.needsGuard
  up := h2.up.trans h1.up
  stop := h2.stop.trans h1.stop
  quiet := fun hb p hp => h2.quiet (h1.ordersBarred.2 hb) p (h1.quiet hb p hp)
  sequence := h2.sequence ∘ h1.sequence
  source := h1.source.trans h2.source

theorem Calm.safe {s t : State} (h : Calm s t) (hs : SafeState s) : SafeState t := by
  obtain ⟨hl, hg, g1, g2, g3⟩ := hs
  obtain ⟨r1, r2⟩ := (guardRespected_iff s).1 hg
  refine ⟨fun hb p => h.quiet (h.ordersBarred.1 hb) p (hl (h.ordersBarred.1 hb) p), (guardRespected_iff t).2 ⟨?_, ?_⟩, ?_⟩
  · rw [h.guardOpen, h.guardLine]
    exact r1
  · rw [h.guardOpen]
    exact r2 ∘ h.needsGuard
  · unfold SourceGuarded
    rw [h.guardOpen]
    rcases h.source with ⟨a1, a2, a3⟩ | ⟨a1, a2⟩
    · rw [a1, a2, a3]
      exact ⟨g1, g2, g3⟩
    · simp [a1, a2]

theorem Calm.sourceMeasures {s t : State} (h : Calm s t) (hs : SourceMeasures s) : SourceMeasures t := by
  rcases h.source with ⟨a1, a2, -⟩ | ⟨a1, -⟩
  · unfold SourceMeasures
    rwa [a1, a2]
  · simp [SourceMeasures, a1]

/-! ### Activities that keep every order -/

/-- An activity that keeps the status of the link, its orders and their sequence, and the guard line. -/
theorem Calm.of_orders {s t : State} (hup : t.link.up = s.link.up) (hstop : t.link.stop = s.link.stop)
    (hsent : t.link.sent = s.link.sent) (ho : ∀ p, (probe t p).order = (probe s p).order) (hs : SourceKept s t)
    (hg : t.rc.guardLine = s.rc.guardLine) (hn : NeedsGuard t → NeedsGuard s) : Calm s t where
  guardLine := hg
  needsGuard := hn
  up := hup
  stop := hstop
  quiet := fun _ p hp => (ho p).trans hp
  sequence := fun ⟨h1, h2⟩ => ⟨by rwa [hsent], fun p => by rw [hsent, ho]; exact h2 p⟩
  source := hs

theorem probe_of_link {s t : State} (h : t.link = s.link) (p : ProbeNo) : probe t p = probe s p := by
  rw [probe, h, probe]

/-- An activity that leaves the link alone. -/
theorem Calm.of_run {s t : State} (hl : t.link = s.link) (hs : SourceKept s t) (hg : t.rc.guardLine = s.rc.guardLine)
    (hn : NeedsGuard t → NeedsGuard s) : Calm s t :=
  .of_orders (by rw [hl]) (by rw [hl]) (by rw [hl]) (fun p => by rw [probe_of_link hl]) hs hg hn

/-- An activity that leaves the link and run control alone. -/
theorem Calm.of_source {s t : State} (hl : t.link = s.link) (hr : t.rc = s.rc) (hs : SourceKept s t) : Calm s t :=
  .of_run hl hs (by rw [hr]) (by simp only [NeedsGuard, hr, imp_self])

/-- An activity that leaves the link, the unit and run control alone. -/
theorem Calm.of_same {s t : State} (hl : t.link = s.link) (hu : t.unit = s.unit) (hr : t.rc = s.rc) : Calm s t :=
  .of_source hl hr (.of_unit hu)

theorem Calm.refl (s : State) : Calm s s := .of_same rfl rfl rfl

/-- An activity repeated over a list. -/
theorem Calm.foldl {α : Type} {f : State → α → State} (h : ∀ s x, Calm s (f s x)) (l : List α) (s : State) :
    Calm s (l.foldl f s) := by
  induction l generalizing s with
  | nil => exact .refl s
  | cons x l ih => exact (h s x).trans (ih (f s x))

/-- A probe record replaced, its order kept. -/
theorem Calm.setProbe {p : ProbeNo} {r : Probe} {s : State} (h : r.order = (probe s p).order) :
    Calm s (setProbe p r s) := by
  refine .of_orders rfl rfl rfl (fun q => ?_) (.of_unit rfl) rfl id
  by_cases hq : q = p
  · rw [hq, probe_setProbe_same, h]
  · rw [probe_setProbe_other hq]

/-- Every probe record changed, its order kept. -/
theorem Calm.mapProbes {f : Probe → Probe} (h : ∀ r, (f r).order = r.order) (s : State) : Calm s (mapProbes f s) :=
  .of_orders rfl rfl rfl (fun p => by rw [probe_mapProbes, h]) (.of_unit rfl) rfl id

/-! ### Orders taken and ended (R99, R100, R102, R104, R105) -/

theorem takeOrder_order (p q : ProbeNo) (o : Order) (s : State) :
    (probe (takeOrder p o s) q).order = if q = p then some o else (probe s q).order := by
  split
  next h => rw [h, probe_takeOrder_same, (orderedProbe_order _ _ _).1]
  next h => rw [probe_takeOrder_other h]

theorem Calm.takeOrder {p : ProbeNo} {o : Order} {s : State} (h : mayOrder p o s = true) : Calm s (takeOrder p o s) := by
  obtain ⟨hp, hb, -⟩ := (mayOrder_iff p o s).1 h
  refine ⟨rfl, id, rfl, rfl, fun hc => absurd hc hb, fun ⟨h1, h2⟩ => ⟨?_, fun q => ?_⟩, .of_unit rfl⟩
  · have hn : p ∉ s.link.sent := fun hc => by
      have := (h2 p).1 hc
      simp [hp] at this
    rw [takeOrder_sent]
    exact h1.append (List.nodup_singleton p) (by simpa using hn)
  · rw [takeOrder_sent, takeOrder_order, List.mem_append, List.mem_singleton, h2 q]
    split
    next hq => simp [hq]
    next hq => simp [hq]

theorem Calm.requestOrder {p : ProbeNo} {o : Order} {s t : State} (h : requestOrder p o s = some t) : Calm s t := by
  obtain ⟨hm, rfl⟩ := requestOrder_some h
  exact .takeOrder hm

theorem Calm.endOrder {p : ProbeNo} {r : Probe} (h : r.order = none) (s : State) : Calm s (endOrder p r s) := by
  have ho : ∀ q, (probe (Machine.endOrder p r s) q).order = if q = p then none else (probe s q).order := fun q => by
    split
    next hq => rw [hq, probe_endOrder_same, h]
    next hq => rw [probe_endOrder_other hq]
  refine ⟨rfl, id, rfl, rfl, fun _ q hq => ?_, fun ⟨h1, h2⟩ => ⟨h1.erase p, fun q => ?_⟩, .of_unit rfl⟩
  · rw [ho, hq, ite_self]
  · rw [ho, endOrder_sent, h1.mem_erase_iff, h2 q]
    split
    next hq => simp [hq]
    next hq => simp [hq]

/-! ### The measurement's end and the entries of the window -/

theorem abortMeasurement_sourceKept (s : State) : SourceKept s (abortMeasurement s) := by
  by_cases h : s.unit.step = none
  · rw [abortMeasurement_of_idle h]
    exact .of_unit rfl
  · exact .inr (abortMeasurement_source h)

theorem abortMeasurement_calm (s : State) : Calm s (abortMeasurement s) :=
  .of_source (abortMeasurement_link s) (abortMeasurement_rc s) (abortMeasurement_sourceKept s)

end Sys2Proof.Machine
end

section
/-! PROOFS. What the window, run control and the consequences of a step do is `Calm`: none of it reaches the lines or the link. -/

namespace Sys2Proof.Machine

open Sys2Proof

/-! ### The window: serving, failing, checks (R79..R85, R122..R127) -/

theorem requestNotice_calm (k : NoticeKind) (x y : Word) (m : NoticeMark) (s : State) : Calm s (requestNotice k x y m s) :=
  .of_same (by simp) (by simp) (by simp)

theorem updateEntry_calm (u : Nat) (f : Entry → Entry) (s : State) : Calm s (updateEntry u f s) := .of_same rfl rfl rfl

theorem failEntry_calm (u : Nat) (c : Cause) (d : Nat) (s : State) : Calm s (failEntry u c d s) := by
  have hf := updateEntry_calm u (failedEntry c d) s
  unfold failEntry
  split
  · exact .refl s
  · split
    · dsimp only
      split
      · exact hf.trans (abortMeasurement_calm _)
      · exact hf
    · exact .refl s

theorem liftProbe_calm (q : ProbeNo) (s : State) : Calm s (liftProbe q s) := by
  unfold liftProbe
  cases h : requestOrder q .lift s with
  | none => exact .refl s
  | some t => exact .requestOrder h

theorem resolveConflict_calm (e : Entry) (q : ProbeNo) (s : State) : Calm s (resolveConflict e q s) := by
  unfold resolveConflict
  split
  · exact .refl s
  · split
    · exact liftProbe_calm q s
    · split
      · split
        · exact .refl s
        · exact liftProbe_calm q s
      · split
        · split
          · exact .refl s
          next h => exact (Calm.requestOrder h).trans (updateEntry_calm _ _ _)
        · exact .refl s

theorem serveRole_calm (u i : Nat) (s : State) : Calm s (serveRole u i s) := by
  unfold serveRole
  split
  · exact .refl s
  · split
    · exact .refl s
    · split
      · dsimp only
        split
        · exact updateEntry_calm _ _ s
        · split
          · exact failEntry_calm _ _ _ s
          · split
            · split
              · exact .refl s
              next h => exact (Calm.requestOrder h).trans (updateEntry_calm _ _ _)
            · exact .foldl (fun s q => resolveConflict_calm _ q s) _ s
      · exact .refl s

theorem serveMember_calm (u i : Nat) (s : State) : Calm s (serveMember u i s) := by
  unfold serveMember
  split
  · exact .refl s
  · split
    · exact .refl s
    · split
      · dsimp only
        split
        · exact updateEntry_calm _ _ s
        · split
          · exact failEntry_calm _ _ _ s
          · split
            · exact .refl s
            next h => exact (Calm.requestOrder h).trans (updateEntry_calm _ _ _)
      · exact .refl s

theorem sweepFaulted_calm (u : Nat) (s : State) : Calm s (sweepFaulted u s) := by
  unfold sweepFaulted
  split
  · exact .refl s
  · split
    · exact .refl s
    · split
      · exact .refl s
      · exact failEntry_calm _ _ _ s

theorem serveEntry_calm (u : Nat) (s : State) : Calm s (serveEntry u s) := by
  unfold serveEntry
  split
  · exact .refl s
  · exact ((Calm.foldl (fun s i => serveRole_calm u i s) _ s).trans
      (Calm.foldl (fun s i => serveMember_calm u i s) _ _)).trans (sweepFaulted_calm u _)

theorem servingPass_calm (s : State) : Calm s (servingPass s) := by
  unfold servingPass
  split
  · exact .foldl (fun s u => serveEntry_calm u s) _ s
  · exact .refl s

theorem changeCounts_calm (p : ProbeNo) (touch miss : Nat) (s : State) : Calm s (changeCounts p touch miss s) := by
  have hset : ∀ r : Probe, r.order = (probe s p).order → Calm s (setProbe p r s) := fun r h => .setProbe h
  unfold changeCounts
  dsimp only
  split
  · exact hset _ rfl
  · split
    · exact hset _ rfl
    · refine (hset _ ?_).trans (requestNotice_calm _ _ _ _ _)
      rfl

theorem roleLanded_calm (p : ProbeNo) (first : Bool) (s : State) : Calm s (roleLanded p first s) :=
  .of_same (by simp) (by simp) (by simp)

theorem memberCompleted_calm (p : ProbeNo) (k : EntryKind) (s : State) : Calm s (memberCompleted p k s) :=
  .of_same (by simp) (by simp) (by simp)

theorem chargeProbe_calm (p : ProbeNo) (c : Cause) (d : Nat) (s : State) : Calm s (chargeProbe p c d s) := by
  unfold chargeProbe
  split
  · exact .refl s
  · exact failEntry_calm _ _ _ s

theorem checkFailed_calm (p : ProbeNo) (e : Entry) (i : Nat) (r : Role) (s : State) : Calm s (checkFailed p e i r s) := by
  unfold checkFailed
  split
  · dsimp only
    split
    · exact .refl s
    next h => exact (Calm.requestOrder h).trans (updateEntry_calm _ _ _)
  · exact failEntry_calm _ _ _ s

theorem tableResult_calm (p : ProbeNo) (c : CheckRec) (pass : Bool) (s : State) : Calm s (tableResult p c pass s) := by
  have h1 : Calm s (if pass && atLanding (probe s p) c then setProbe p { probe s p with verified := true } s else s) := by
    split
    · exact .setProbe rfl
    · exact .refl s
  unfold tableResult
  dsimp only
  split
  · exact h1.trans (changeCounts_calm _ _ _ _)
  · exact h1

theorem windowResult_calm (p : ProbeNo) (c : CheckRec) (pass : Bool) (s : State) : Calm s (windowResult p c pass s) := by
  unfold windowResult
  split
  · exact .refl s
  · split
    · exact .refl s
    · split
      · split
        · exact updateEntry_calm _ _ s
        · exact checkFailed_calm _ _ _ _ s
      · exact .refl s

/-! ### Run control's own sequences (R19, R20..R27) -/

theorem not_needsGuard_of_run {s : State} {r : RunState} (h : s.rc.run = r) (hg : guardedRun r = false) (hs : r ≠ .starting) :
    ¬NeedsGuard s := by
  rintro (hc | ⟨hc, -⟩)
  · rw [h, hg] at hc
    cases hc
  · exact hs (h.symm.trans hc)

/-- An activity that leaves the link alone and the run state that asks for a guard. -/
theorem Calm.of_unguarded {s t : State} {r : RunState} (hl : t.link = s.link) (hs : SourceKept s t)
    (hg : t.rc.guardLine = s.rc.guardLine) (hr : t.rc.run = r) (hn : guardedRun r = false) (hst : r ≠ .starting) : Calm s t :=
  .of_run hl hs hg fun hc => absurd hc (not_needsGuard_of_run hr hn hst)

theorem needsGuard_congr {s t : State} (h : t.rc.run = s.rc.run) (hg : t.rc.guardSeenOpen = s.rc.guardSeenOpen) :
    NeedsGuard t → NeedsGuard s := by
  rw [NeedsGuard, h, hg]
  exact id

@[simp] theorem endActivity_unit_eq (s : State) : (endActivity s).unit = (abortMeasurement s).unit := by
  have h : (endActivity s).unit = (abortMeasurement (stopFetcher s)).unit := by simp [endActivity]
  rw [h, abortMeasurement_unit_congr (stopFetcher_unit s)]

theorem endActivity_calm (s : State) : Calm s (endActivity s) :=
  .of_run (by simp) (by unfold SourceKept; rw [endActivity_unit_eq]; exact abortMeasurement_sourceKept s) (by simp)
    (needsGuard_congr (by simp) (by simp))

/-- The unit after a HALTED entry is that after the abort of its measurement (R27). -/
theorem enterHalted_unit (code : EndCode) (causes : Word) {s : State} (h : s.rc.run ≠ .halted) :
    (enterHalted code causes s).unit = (abortMeasurement s).unit := by
  unfold enterHalted
  rw [if_neg h]
  dsimp only
  (repeat' split) <;> simp

theorem enterHalted_calm (code : EndCode) (causes : Word) (s : State) : Calm s (enterHalted code causes s) := by
  by_cases h : s.rc.run = .halted
  · rw [enterHalted_of_halted h]
    exact .refl s
  · obtain ⟨q, hq⟩ := enterHalted_rc code causes h
    refine .of_unguarded (r := .halted) (enterHalted_link _ _ _) ?_ (by rw [hq]) (by rw [hq]) rfl nofun
    unfold SourceKept
    rw [enterHalted_unit code causes h]
    exact abortMeasurement_sourceKept s

theorem parkOne_calm (p : ProbeNo) (s : State) : Calm s (parkOne p s) := by
  unfold parkOne
  split
  · exact .refl s
  · split
    · exact .refl s
    next h => exact (Calm.requestOrder h).trans (.of_run rfl (.of_unit rfl) rfl id)

theorem parkAll_calm (s : State) : Calm s (parkAll s) := .foldl (fun s p => parkOne_calm p s) _ s

theorem enterStopping_calm (code : EndCode) (s : State) : Calm s (enterStopping code s) :=
  .of_unguarded (r := .stopping) rfl (.of_unit rfl) rfl rfl rfl nofun

theorem finishStopping_calm (s : State) : Calm s (finishStopping s) :=
  .of_unguarded (r := .idle) rfl (.of_unit rfl) rfl rfl rfl nofun

theorem runStopPhase_calm (ph : ClosePhase) (s : State) : Calm s (runStopPhase ph s) := by
  have h1 : Calm s { s with rc := { s.rc with stopSeq := some ph } } := .of_run rfl (.of_unit rfl) rfl id
  unfold runStopPhase
  dsimp only
  split
  · exact h1.trans (.of_same rfl rfl rfl)
  · exact h1.trans (.of_same rfl rfl rfl)
  · split
    · exact h1.trans (requestNotice_calm _ _ _ _ _)
    · exact h1.trans (finishStopping_calm _)

/-- The state in which the completion of STOPPING is judged: the probes have been given their PARKs, unless parking has been given
up (R25, R26). -/
def stoppingParked (s : State) : State := if s.rc.parkGivenUp then s else parkAll s

theorem stoppingParked_calm (s : State) : Calm s (stoppingParked s) := by
  unfold stoppingParked
  split
  · exact .refl s
  · exact parkAll_calm s

/-- In STOPPING before its closing writes: the PARKs, then the first closing write where STOPPING completes (R25, R26). -/
theorem stoppingSettle_of_stopping {s : State} (h : s.rc.run = .stopping) (hq : s.rc.stopSeq = none) : stoppingSettle s =
    if stoppingComplete (stoppingParked s) then
      runStopPhase (firstClose ((stoppingParked s).rc.loadedGood && decide ((stoppingParked s).rc.pendingEnd ≠ .badAnchor))
        (stoppingParked s).rc.underWay) (stoppingParked s)
    else stoppingParked s := if_pos ⟨h, hq⟩

theorem stoppingSettle_of_not {s : State} (h : ¬(s.rc.run = .stopping ∧ s.rc.stopSeq = none)) :
    stoppingSettle s = s := if_neg h

theorem stoppingSettle_calm (s : State) : Calm s (stoppingSettle s) := by
  by_cases h : s.rc.run = .stopping ∧ s.rc.stopSeq = none
  · rw [stoppingSettle_of_stopping h.1 h.2]
    split
    · exact (stoppingParked_calm s).trans (runStopPhase_calm _ _)
    · exact stoppingParked_calm s
  · rw [stoppingSettle_of_not h]
    exact .refl s

theorem enterChainWait_calm {s : State} (h : NeedsGuard s) : Calm s (enterChainWait s) :=
  .of_run (by simp) (.of_unit (by simp)) (by simp [enterChainWait]) fun _ => h

theorem enterBoardChange_calm {s : State} (h : NeedsGuard s) : Calm s (enterBoardChange s) :=
  .of_run (by simp) (.of_unit (by simp)) (by simp [enterBoardChange]) fun _ => h

theorem needsGuard_of_run {s : State} (h : guardedRun s.rc.run = true) : NeedsGuard s := .inl h

theorem areaMove_calm (s : State) : Calm s (areaMove s) := by
  unfold areaMove
  split
  next h =>
    have hn : NeedsGuard s := needsGuard_of_run (by rw [h.2]; rfl)
    have h1 : Calm s { s with rc := { s.rc with areaSeq := none } } := .of_run rfl (.of_unit rfl) rfl id
    dsimp only
    split
    · exact h1.trans (enterStopping_calm _ _)
    · split
      · exact h1.trans (enterBoardChange_calm hn)
      · exact h1.trans (enterChainWait_calm hn)
  · exact .refl s

theorem unfault_order (r : Probe) : (unfault r).order = r.order := by
  unfold unfault
  split <;> rfl

theorem runBegin_calm (s : State) : Calm s (runBegin s) :=
  .of_orders (by simp [runBegin]; rfl) (by simp [runBegin]; rfl) (by simp [runBegin])
    (fun p => by rw [probe_runBegin, unfault_order]) (.of_unit (by simp)) (by simp)
    (needsGuard_congr (by simp) (by simp))

theorem boardSettle_calm (s : State) : Calm s (boardSettle s) := by
  unfold boardSettle
  split
  · exact .refl s
  next h =>
    have hn : NeedsGuard s := needsGuard_of_run (by rw [not_not.1 h]; rfl)
    split
    · split
      · exact (runBegin_calm s).trans (.of_run rfl (.of_unit rfl) rfl fun _ =>
          needsGuard_of_run (by rw [runBegin_rc, not_not.1 h]; rfl))
      · exact .refl s
    · split
      · exact .of_run rfl (.of_unit rfl) rfl fun _ => hn
      · exact .refl s
    · have h1 : Calm s { s with rc := { s.rc with seenAbsent := s.rc.seenAbsent || !boardPresent s } } :=
        .of_run rfl (.of_unit rfl) rfl id
      have h2 := h1.trans (parkAll_calm _)
      dsimp only
      split
      · refine h2.trans (enterChainWait_calm ?_)
        obtain ⟨m, hm⟩ := parkAll_rc { s with rc := { s.rc with seenAbsent := s.rc.seenAbsent || !boardPresent s } }
        exact needsGuard_of_run (by rw [hm, not_not.1 h]; rfl)
      · exact h2

theorem beginTxn_calm (s : State) : Calm s (beginTxn s) := .of_same (by simp) (by simp) (by simp)

theorem interlock_calm (s : State) : Calm s (interlock s) := by
  rcases interlock_cases s with h | h
  · rw [h]
    exact .refl s
  · rw [h]
    exact abortMeasurement_calm s

theorem settle_calm (s : State) : Calm s (settle s) :=
  ((((((areaMove_calm s).trans (boardSettle_calm _)).trans (stoppingSettle_calm _)).trans (servingPass_calm _)).trans
    (beginTxn_calm _)).trans (interlock_calm _))

theorem sealPort_calm (s : State) : Calm s (sealPort s) := .of_same (by simp) (by simp) (by simp)

end Sys2Proof.Machine
end

section
/-! PROOFS. What the Diversion Unit, the logger, the fetcher, the notices and the loading do is `Calm` as well. -/

namespace Sys2Proof.Machine

open Sys2Proof

/-! ### The Diversion Unit, the logger and the measurement's completion -/

theorem flush_calm (s : State) : Calm s (flush s) :=
  .of_source (flush_link s) (flush_rc s) (abortMeasurement_sourceKept s)

theorem haltByTable_calm (s : State) : Calm s (haltByTable s) := (flush_calm s).trans (enterHalted_calm _ _ _)

theorem haltDoubleFault_calm (c : Cause) (s : State) : Calm s (haltDoubleFault c s) := by
  have h1 : Calm s { s with div := { s.div with secondCause := some c } } := .of_same rfl rfl rfl
  exact (h1.trans (flush_calm _)).trans (enterHalted_calm _ _ _)

theorem enterDiversion_calm (after : Bool) (c : Cause) (snap : Snapshot) (s : State) :
    Calm s (enterDiversion after c snap s) := by
  have h : (enterDiversion after c snap s).unit = (flush s).unit := by simp [enterDiversion]
  refine .of_source (enterDiversion_link _ _ _ _) (enterDiversion_rc _ _ _ _) ?_
  rw [SourceKept, h]
  exact abortMeasurement_sourceKept s

theorem failureStep_calm (e : Entry) (s : State) : Calm s (failureStep e s) := by
  unfold failureStep decideRecoveryFailure decideFailure
  split
  · split
    · split
      · exact .refl s
      · exact haltDoubleFault_calm _ s
      · exact haltByTable_calm s
    · dsimp only
      split
      · exact .refl s
      · exact enterDiversion_calm _ _ _ s
      · exact haltByTable_calm s
  · exact .refl s

theorem tipService_calm (e : Entry) (s : State) : Calm s (tipService e s) := by
  unfold tipService
  split
  · exact .refl s
  · split
    · exact .refl s
    · exact enterDiversion_calm _ _ _ s
    · exact haltByTable_calm s

theorem retryBookkeeping_calm (e : Entry) (s : State) : Calm s (retryBookkeeping e s) := by
  unfold retryBookkeeping
  split
  · exact .refl s
  · split
    · exact .refl s
    · exact .of_same rfl rfl rfl

theorem removeHead_calm (e : Entry) (s : State) : Calm s (removeHead e s) := by
  have h1 : Calm s { s with window := s.window.drop 1 } := .of_same rfl rfl rfl
  exact ((h1.trans (retryBookkeeping_calm e _)).trans (failureStep_calm e _)).trans (tipService_calm e _)

theorem resumeDiversion_calm (m : ResumeMode) (s : State) : Calm s (resumeDiversion m s) := by
  unfold resumeDiversion
  split
  · exact haltByTable_calm s
  · exact .of_same (by simp) (by simp) (by simp)
  · exact .of_same (by simp) (by simp) (by simp)
  · exact .refl s
  · exact .refl s

theorem takeHead_calm (e : Entry) (s : State) : Calm s (takeHead e s) := by
  have h1 : Calm s (writeRecord e s) := .of_same (by simp) (by simp) (by simp)
  have h2 : ∀ u, Calm u { u with rc := { u.rc with summary := countRemoval e u.rc.summary } } := fun u =>
    .of_run rfl (.of_unit rfl) rfl id
  have h3 : ∀ u, Calm u (noticeFailure s.log.nextSeq e u) := fun u => .of_same (by simp) (by simp) (by simp)
  exact ((h1.trans (h2 _)).trans (h3 _)).trans (removeHead_calm e _)

theorem roomRetest_calm (s : State) : Calm s (roomRetest s) := by
  have h1 : Calm s { s with log := { s.log with held := false, waiting := false } } := .of_same rfl rfl rfl
  unfold roomRetest
  split
  · split
    · dsimp only
      split
      · split
        · exact h1
        · exact h1.trans (takeHead_calm _ _)
      · exact h1
    · split
      · exact .refl s
      · exact .of_same (by simp) (by simp) (by simp)
  · exact .refl s

theorem releaseRead_calm (v : Word) (s : State) : Calm s (releaseRead v s) := by
  have h1 : Calm s (releaseTaken v s) := .of_same rfl rfl rfl
  unfold releaseRead
  dsimp only
  split
  · exact h1.trans (roomRetest_calm _)
  · split
    · exact h1.trans (.of_same rfl rfl rfl)
    · split
      · exact h1
      · exact h1.trans (roomRetest_calm _)

theorem completeStep_calm (r : StepRec) (g : Reading) (s : State) : Calm s (completeStep r g s) :=
  .of_source (completeStep_link r g s) (completeStep_rc r g s) (.inr ⟨rfl, rfl⟩)

theorem captureTaken_calm (r : StepRec) (s : State) : Calm s (captureTaken r s) := by
  unfold captureTaken
  dsimp only
  split
  · refine Calm.trans ?_ (completeStep_calm _ _ _)
    exact .of_same (by simp) (by simp) (by simp)
  · exact .of_same (by simp) (by simp) (by simp)

theorem captureAcked_calm (live : Bool) (s : State) : Calm s (captureAcked live s) := by
  unfold captureAcked
  split
  · exact .refl s
  · split
    · split
      · exact captureTaken_calm _ s
      · exact .of_same rfl rfl rfl
    · exact .of_same rfl rfl rfl

/-! ### The fetcher, chaining, notices and loading -/

theorem landFrom_rc (ws : List Word) (pts : List PointRec) (lim : Option LimitRec) (k : MeasKind) (i : Nat) (s : State) :
    (landFrom ws pts lim k i s).rc = s.rc := by
  unfold landFrom
  split
  · split
    · rfl
    · dsimp only
      (repeat' split) <;> rfl
  · rfl

theorem keepOutRead_rc (ws : List Word) (pts : List PointRec) (lim : Option LimitRec) (k : MeasKind) (i : Nat) (w : Word)
    (s : State) : (keepOutRead ws pts lim k i w s).rc = s.rc := by
  unfold keepOutRead
  split
  · rfl
  · split
    · rfl
    · split
      · rfl
      · split
        · rfl
        · exact landFrom_rc _ _ _ _ _ s

theorem recordsRead_rc (ws : List Word) (pts : List PointRec) (given : Bool) (lim : Option LimitRec) (s : State) :
    (recordsRead ws pts given lim s).rc = s.rc := by
  unfold recordsRead
  split
  · rfl
  · exact landFrom_rc _ _ _ _ _ s
  · rfl

theorem readPoints_rc (ws : List Word) (pts : List PointRec) (s : State) : (readPoints ws pts s).rc = s.rc := by
  unfold readPoints
  split
  · rfl
  · split
    · rfl
    · split
      · rfl
      · exact recordsRead_rc _ _ _ _ s

theorem entryRead_rc (ws : List Word) (s : State) : (entryRead ws s).rc = s.rc := by
  unfold entryRead actCall actReturn actMainOnly actSetBank actResume
  (repeat' split) <;> rfl

/-- A step whose group is disabled is counted as skipped; nothing else of run control changes (R35, R51). -/
theorem groupRead_rc (ws : List Word) (w : Word) (s : State) : ∃ c, (groupRead ws w s).rc = { s.rc with summary := c } := by
  unfold groupRead
  split
  · split
    · exact ⟨s.rc.summary, rfl⟩
    · exact ⟨s.rc.summary, readPoints_rc ws [] s⟩
  · split
    · exact ⟨s.rc.summary, rfl⟩
    · exact ⟨_, rfl⟩

/-- A read of the fetcher leaves run control but the area summary. -/
theorem txnRead_rc (ws : List Word) (s : State) : ∃ c, (txnRead ws s).rc = { s.rc with summary := c } := by
  unfold txnRead
  split
  · exact ⟨s.rc.summary, rfl⟩
  · exact ⟨s.rc.summary, entryRead_rc ws s⟩
  · exact groupRead_rc _ _ s
  · exact ⟨s.rc.summary, readPoints_rc _ _ s⟩
  · exact ⟨s.rc.summary, recordsRead_rc _ _ _ _ s⟩
  · split
    · exact ⟨s.rc.summary, rfl⟩
    · exact ⟨s.rc.summary, keepOutRead_rc _ _ _ _ _ _ s⟩

theorem txnRead_calm (ws : List Word) (s : State) : Calm s (txnRead ws s) := by
  obtain ⟨c, hc⟩ := txnRead_rc ws s
  exact .of_run (by simp) (.of_unit (by simp)) (by rw [hc]) (needsGuard_congr (by rw [hc]) (by rw [hc]))

theorem startNotice_calm (s : State) : Calm s (startNotice s) := .of_same (by simp) (by simp) (by simp)

theorem areaWritten_calm (s : State) : Calm s (areaWritten s) := by
  have h1 : ∀ ph, Calm s { s with rc := { s.rc with areaSeq := some ph } } := fun ph => .of_run rfl (.of_unit rfl) rfl id
  unfold areaWritten
  split
  · exact (h1 .ready).trans (.of_same rfl rfl rfl)
  · exact (h1 .doneCount).trans (.of_same rfl rfl rfl)
  · exact (h1 _).trans (requestNotice_calm _ _ _ _ _)
  all_goals exact .refl s

theorem stoppingWritten_calm (s : State) : Calm s (stoppingWritten s) := by
  unfold stoppingWritten
  split
  · exact .refl s
  · exact .refl s
  · exact runStopPhase_calm _ s

theorem advanceHalt_calm (s : State) : Calm s (advanceHalt s) := by
  unfold advanceHalt
  split
  · exact .refl s
  · obtain ⟨q, hq⟩ := runHaltSeqs_rc _ s
    exact .of_run (by simp) (.of_unit (by simp)) (by rw [hq]) (needsGuard_congr (by rw [hq]) (by rw [hq]))

theorem afterNotice_calm (m : NoticeMark) (s : State) : Calm s (afterNotice m s) := by
  cases m with
  | area => exact .of_run rfl (.of_unit rfl) rfl id
  | stopping => exact finishStopping_calm s
  | plain => exact .refl s
  | halt => exact .refl s

theorem noticeWritten_calm (s : State) : Calm s (noticeWritten s) := by
  unfold noticeWritten
  split
  · exact .refl s
  · dsimp only
    refine ((Calm.trans ?_ (afterNotice_calm _ _))).trans (startNotice_calm _)
    split <;> exact .of_same rfl rfl rfl

theorem serve_calm {k : ReqKind} {s s1 : State} {r : Request} {ws : List Word} (h : serve k s = some (r, ws, s1)) :
    Calm s s1 := by
  obtain ⟨m, q, rfl⟩ := serve_eq h
  exact .of_same rfl rfl rfl

theorem completeNotice_calm {s s1 : State} (h : completeNotice s = some s1) : Calm s s1 := by
  unfold completeNotice at h
  split at h
  · cases h
  next hs =>
    cases h
    split
    · exact (serve_calm hs).trans (noticeWritten_calm _)
    · exact (serve_calm hs).trans (.of_same (by simp) (by simp) (by simp))

theorem requestFailed_calm (r : Request) (s : State) : Calm s (requestFailed r s) := by
  unfold requestFailed dropFrontNotice releaseFailed
  split
  case h_4 => exact advanceHalt_calm s
  all_goals (repeat' split) <;> exact .of_same rfl rfl rfl

theorem haltMemoryError_calm (s : State) : Calm s (haltMemoryError s) := by
  unfold haltMemoryError
  split
  · exact .refl s
  · exact enterHalted_calm _ _ s

theorem memoryErrorTaken_calm (r : Request) (s : State) : Calm s (memoryErrorTaken r s) := by
  have hp : ∀ u, Calm u (pendMemoryError u) := fun u => .of_same rfl rfl rfl
  exact (((requestFailed_calm r s).trans (hp _)).trans (haltMemoryError_calm _)).trans (startNotice_calm _)

theorem runWordRead_calm {ws : List Word} {s : State} (h : s.rc.run = .chainWait) : Calm s (runWordRead ws s) := by
  have hn : NeedsGuard s := needsGuard_of_run (by rw [h]; rfl)
  have ha : Calm s (areaSwitch ws s) := .of_run rfl (.of_unit rfl) rfl fun _ => hn
  unfold runWordRead
  split
  · exact enterHalted_calm _ _ s
  · dsimp only
    split
    · exact .of_run rfl (.of_unit rfl) rfl fun _ => hn
    · exact .of_run (by simp; rfl) (.of_unit (by simp; rfl)) (by simp; rfl) fun _ => hn

theorem startInto_calm (st : RunState) {s : State} (h : s.rc.run = .starting) : Calm s (startInto st s) := by
  unfold startInto
  split
  · exact .of_unguarded (r := .guardHold) rfl (.of_unit rfl) rfl rfl rfl nofun
  next hg => exact .of_run rfl (.of_unit rfl) rfl fun _ => .inr ⟨h, by simpa using hg⟩

theorem startChecks_calm (ws : List Word) {s : State} (h : s.rc.run = .starting) : Calm s (startChecks ws s) := by
  have h1 : Calm s (recordRunWord ws { s with rc := { s.rc with loadStep := none } }) := .of_run rfl (.of_unit rfl) rfl id
  unfold startChecks
  split
  · exact enterHalted_calm _ _ s
  · split
    · exact .of_unguarded (r := .idle) (by simp [failStart]) (.of_unit (by simp [failStart])) (by simp [failStart])
        (by simp [failStart]) rfl nofun
    · split
      · exact enterHalted_calm _ _ s
      · dsimp only
        split
        · exact (h1.trans (runBegin_calm _)).trans (startInto_calm _ (by rw [runBegin_rc]; exact h))
        · refine Calm.trans ?_ (startInto_calm _ (by rw [requestNotice_rc]; exact h))
          refine Calm.trans ?_ (requestNotice_calm _ _ _ _ _)
          exact .of_run rfl (.of_unit rfl) rfl id

theorem loadWear_calm (ws : List Word) (s : State) : Calm s (loadWear ws s) :=
  .of_orders rfl rfl rfl (fun p => by simp [probe, loadWear, loadedProbe]) (.of_unit rfl) rfl id

theorem loadNext_calm (st : LoadStep) (addr words : Nat) (s : State) : Calm s (loadNext st addr words s) :=
  .of_run rfl (.of_unit rfl) rfl id

theorem loadingRead_calm (base : Nat) (ws : List Word) {s : State} (h : s.rc.run = .starting) :
    Calm s (loadingRead base ws s) := by
  unfold loadingRead
  split
  · exact .refl s
  · unfold anchorRead
    dsimp only
    split
    · refine Calm.trans ?_ (loadNext_calm _ _ _ _)
      refine Calm.of_run (by simp) (.of_unit (by simp)) (by simp) (needsGuard_congr (by simp) (by simp))
    · refine Calm.trans ?_ (enterHalted_calm _ _ _)
      exact .of_run rfl (.of_unit rfl) rfl id
  · unfold bankRead
    dsimp only
    split <;> exact .of_run rfl (.inl ⟨rfl, rfl, rfl⟩) rfl id
  · exact .of_run rfl (.inl ⟨rfl, rfl, rfl⟩) rfl id
  · unfold diversionRead
    dsimp only
    (repeat' split) <;> exact .of_run rfl (.of_unit rfl) rfl id
  · exact (loadWear_calm ws s).trans (loadNext_calm _ _ _ _)
  · exact startChecks_calm ws h

end Sys2Proof.Machine
end

section
/-! PROOFS. What every step keeps of the safe state, the interlock and the send sequence; the orders, the guard and the link. -/

namespace Sys2Proof.Machine

open Sys2Proof

/-! ## What every step keeps -/

/-- What a step keeps of the safe state, the interlock and the send sequence (SafeStateKept). -/
structure StepKeeps (s t : State) : Prop where
  safe : SafeState s → SafeState t
  interlock : EntriesDistinct s → InterlockHeld s → InterlockHeld t
  sequence : SendSequence s → SendSequence t

/-- What a command keeps before the consequences of its step, which enforce the interlock. -/
structure Keeps (s u : State) : Prop where
  safe : SafeState s → SafeState u
  source : SourceMeasures s → SourceMeasures u
  sequence : SendSequence s → SendSequence u

theorem Keeps.trans {s t u : State} (h1 : Keeps s t) (h2 : Keeps t u) : Keeps s u :=
  ⟨h2.safe ∘ h1.safe, h2.source ∘ h1.source, h2.sequence ∘ h1.sequence⟩

theorem Calm.keeps {s t : State} (h : Calm s t) : Keeps s t := ⟨h.safe, h.sourceMeasures, h.sequence⟩

theorem InterlockHeld.of_idle {s : State} (hm : SourceMeasures s) (h : s.unit.step = none) : InterlockHeld s := fun hs => by
  have := hm hs
  simp [h] at this

/-- A measurement that goes on over the same entry, with the same window and link. -/
theorem InterlockHeld.of_still {s t : State} (h : InterlockHeld s) (hw : t.window = s.window) (hl : t.link = s.link)
    (hs : t.unit.sourceOn = true → s.unit.sourceOn = true)
    (he : t.unit.step.map (·.entry) = s.unit.step.map (·.entry)) : InterlockHeld t := fun ht => by
  obtain ⟨r, e, hr, hu, hx⟩ := h (hs ht)
  rw [hr] at he
  obtain ⟨r', hr', hre⟩ := Option.map_eq_some_iff.1 he
  refine ⟨r', e, hr', ?_, fun x hm => ?_⟩
  · rw [hre, entryOf, hw, ← entryOf, hu]
  · rw [probe_of_link hl]
    exact hx x hm

theorem Keeps.settled {s u : State} (h : Keeps s u) : StepKeeps s (sealPort (settle u)) := by
  have hc := (settle_calm u).trans (sealPort_calm _)
  refine ⟨hc.safe ∘ h.safe, fun _ hi => ?_, hc.sequence ∘ h.sequence⟩
  have hv : Calm u (beginTxn (servingPass (stoppingSettle (boardSettle (areaMove u))))) :=
    ((((areaMove_calm u).trans (boardSettle_calm _)).trans (stoppingSettle_calm _)).trans (servingPass_calm _)).trans
      (beginTxn_calm _)
  have hset : InterlockHeld (settle u) := interlock_held (hv.sourceMeasures (h.source hi.sourceMeasures))
  exact hset.of_still (sealPort_window _) (sealPort_link _) (by simp) (by simp)

/-- A command that touches neither the window, the link nor the measured entry. -/
theorem StepKeeps.of_still {s t : State} (h : Keeps s t) (hw : t.window = s.window) (hl : t.link = s.link)
    (hs : t.unit.sourceOn = true → s.unit.sourceOn = true)
    (he : t.unit.step.map (·.entry) = s.unit.step.map (·.entry)) : StepKeeps s t :=
  ⟨h.safe, fun _ hi => hi.of_still hw hl hs he, h.sequence⟩

/-- A command that touches neither the window, the link, the unit nor run control. -/
theorem StepKeeps.of_same {s t : State} (hw : t.window = s.window) (hl : t.link = s.link) (hu : t.unit = s.unit)
    (hr : t.rc = s.rc) : StepKeeps s t :=
  .of_still (Calm.of_same hl hu hr).keeps hw hl (by rw [hu]; exact id) (by rw [hu])

theorem StepKeeps.refl (s : State) : StepKeeps s s := .of_same rfl rfl rfl rfl

theorem StepKeeps.seal {s t : State} (h : StepKeeps s t) : StepKeeps s (sealPort t) := by
  have hc := sealPort_calm t
  exact ⟨hc.safe ∘ h.safe, fun hd hi => (h.interlock hd hi).of_still (by simp) (by simp) (by simp) (by simp),
    hc.sequence ∘ h.sequence⟩

theorem ends_same (s : State) : Ends (.next s) (StepKeeps s) := (ends_next _ _).2 (.refl s)

theorem Keeps.ends {s u : State} (h : Keeps s u) : Ends (finish u) (StepKeeps s) := (ends_finish _ _).2 h.settled

theorem Calm.ends {s u : State} (h : Calm s u) : Ends (finish u) (StepKeeps s) := h.keeps.ends

theorem StepKeeps.ends {s t : State} (h : StepKeeps s t) : Ends (.next t) (StepKeeps s) := (ends_next _ _).2 h

theorem StepKeeps.ends_done {s t : State} (h : StepKeeps s t) : Ends (done t) (StepKeeps s) := (Machine.ends_done _ _).2 h.seal

/-! ### The events of the lines and the link, a measurement that begins, resets -/

/-- The status of the link changes while no order is outstanding. -/
theorem Keeps.of_no_orders {s t : State} (ho : SafeState s → ∀ p, (probe s p).order = none)
    (hp : t.link.probes = s.link.probes) (hsent : t.link.sent = s.link.sent) (hu : t.unit = s.unit) (hr : t.rc = s.rc) :
    Keeps s t := by
  have hprobe : ∀ p, probe t p = probe s p := fun p => by rw [probe, hp, probe]
  refine ⟨fun hs => ⟨fun _ p => (by rw [hprobe, ho hs p]), ?_, ?_⟩, ?_, ?_⟩
  · unfold GuardRespected guardOpen
    rw [hr]
    exact hs.2.1
  · unfold SourceGuarded guardOpen
    rw [hr, hu]
    exact hs.2.2
  · unfold SourceMeasures
    rw [hu]
    exact id
  · unfold SendSequence
    simp only [hsent, hprobe]
    exact id

/-- The run state changes while the guard reads closed. -/
theorem Keeps.of_closed {s t : State} (hg : guardOpen s = false) (hl : t.link = s.link) (hu : t.unit = s.unit)
    (hline : t.rc.guardLine = s.rc.guardLine) : Keeps s t := by
  have hopen : guardOpen t = guardOpen s := by rw [guardOpen, hline, guardOpen]
  have hprobe : ∀ p, probe t p = probe s p := probe_of_link hl
  refine ⟨fun ⟨h1, h2, h3⟩ => ⟨?_, ?_, ?_⟩, ?_, ?_⟩
  · unfold LinkQuiet
    simp only [hprobe, hopen, hl]
    exact h1
  · refine (guardRespected_iff t).2 ⟨?_, fun _ => hopen.trans hg⟩
    rw [hopen, hline]
    exact h2.1
  · unfold SourceGuarded
    rw [hu, hopen]
    exact h3
  · unfold SourceMeasures
    rw [hu]
    exact id
  · unfold SendSequence
    simp only [hprobe, hl]
    exact id

theorem voidOrders_order (p : ProbeNo) (s : State) : (probe (voidOrders s) p).order = none := by
  rw [probe_voidOrders, (voidedProbe_order _).1]

theorem voidOrders_calm (s : State) : Calm s (voidOrders s) where
  guardLine := rfl
  needsGuard := id
  up := rfl
  stop := rfl
  quiet := fun _ p _ => voidOrders_order p s
  sequence := fun _ => ⟨List.nodup_nil, fun p => by rw [voidOrders_order]; simp⟩
  source := .of_unit rfl

/-- STOP sent, or not, after every order has been voided (R108, R109). -/
theorem sendStop_keeps {s : State} (h : ∀ p, (probe s p).order = none) : Keeps s (sendStop s) := by
  refine .of_no_orders (fun _ => h) ?_ ?_ (by simp) (by simp) <;> (unfold sendStop; split <;> rfl)

theorem unknownProbe_order (r : Probe) : (unknownProbe r).order = r.order := rfl

theorem allUnknown_calm (s : State) : Calm s (allUnknown s) := .mapProbes unknownProbe_order s

/-- A STOP that has ended had no order outstanding beside it (R110). -/
theorem stopEnded_keeps {s : State} (h : s.link.stop.isSome = true) : Keeps s (stopEnded s) := by
  have h1 : Keeps s { s with link := { s.link with stop := none } } :=
    .of_no_orders (fun hs => hs.1 (.inl h)) rfl rfl rfl rfl
  exact (h1.trans (allUnknown_calm _).keeps).trans (abortMeasurement_calm _).keeps

theorem loseLink_calm (s : State) : Calm s (loseLink s) := by
  unfold loseLink
  split
  · exact .refl s
  · exact enterHalted_calm _ _ s

theorem faultProbe_calm (p : ProbeNo) (code : Byte) (c : Cause) (d : Nat) (s : State) : Calm s (faultProbe p code c d s) := by
  have h1 : Calm s (endOrder p (faultedProbe code (probe s p)) s) := .endOrder rfl s
  have hm : ∀ o u, Calm u (markParkFailed p o u) := fun o u => by
    unfold markParkFailed
    split
    · exact .of_run rfl (.of_unit rfl) rfl id
    · exact .refl u
  unfold faultProbe
  refine Calm.trans (Calm.trans ?_ (hm _ _)) (chargeProbe_calm _ _ _ _)
  split
  · exact h1.trans (abortMeasurement_calm _)
  · exact h1

theorem landProbe_calm (p : ProbeNo) (first : Bool) (s : State) : Calm s (landProbe p first s) :=
  ((Calm.endOrder rfl s).trans (changeCounts_calm _ _ _ _)).trans (roleLanded_calm _ _ _)

theorem boardLossByState_keeps (s : State) : Keeps s (boardLossByState s) := by
  have hv := (voidOrders_calm s).keeps
  have hstop := hv.trans (sendStop_keeps fun p => voidOrders_order p s)
  unfold boardLossByState
  split
  · exact (hstop.trans (abortMeasurement_calm _).keeps).trans (enterHalted_calm _ _ _).keeps
  · exact (hstop.trans (abortMeasurement_calm _).keeps).trans (enterHalted_calm _ _ _).keeps
  · split
    · exact (hv.trans (abortMeasurement_calm _).keeps).trans (enterHalted_calm _ _ _).keeps
    · unfold seeAbsent
      split
      · exact Calm.keeps (.of_run rfl (.of_unit rfl) rfl id)
      · exact (Calm.refl s).keeps
  all_goals exact (Calm.refl s).keeps

@[simp] theorem probe_sendStop (p : ProbeNo) (s : State) : probe (sendStop s) p = probe s p := by
  unfold sendStop
  split <;> rfl

@[simp] theorem sendStop_sent (s : State) : (sendStop s).link.sent = s.link.sent := by
  unfold sendStop
  split <;> rfl

/-- The guard opening voids every order (R29, R108). -/
@[simp] theorem probe_guardStop (p : ProbeNo) (s : State) : probe (guardStop s) p = voidedProbe (probe s p) := by
  unfold guardStop
  rw [probe_of_link (abortMeasurement_link _), probe_sendStop, probe_voidOrders, probe_of_link (guardNotice_link _ _)]
  rfl

@[simp] theorem guardStop_sent (s : State) : (guardStop s).link.sent = [] := by simp [guardStop]

/-- The guard opening ends the measurement (R29, R140). -/
theorem guardStop_unit (s : State) : (guardStop s).unit = (abortMeasurement s).unit :=
  abortMeasurement_unit_congr (by simp)

theorem guardByState_guardLine (s : State) : (guardByState s).rc.guardLine = s.rc.guardLine := by
  unfold guardByState
  split <;> rfl

/-- No run state needs the guard closed after it has opened (R18, R29). -/
theorem guardByState_needsGuard (s : State) : ¬NeedsGuard (guardByState s) := by
  cases h : s.rc.run with
  | running | paused | chainWait | boardWait => simp [guardByState, enterGuardHold, NeedsGuard, guardedRun, h]
  | starting | stopping | guardHold | idle | halted => simp [guardByState, NeedsGuard, guardedRun, h]

theorem guardOpened_keeps (s : State) : Keeps s (guardByState (guardStop s)) := by
  have hline : (guardByState (guardStop s)).rc.guardLine = { s.rc.guardLine with filtered := true } := by
    rw [guardByState_guardLine, guardStop_rc]
  have hopen : guardOpen (guardByState (guardStop s)) = true := by rw [guardOpen, hline]
  have horder : ∀ p, (probe (guardByState (guardStop s)) p).order = none := fun p => by
    rw [probe_of_link (guardByState_link _), probe_guardStop, (voidedProbe_order _).1]
  have hunit : (guardByState (guardStop s)).unit = (abortMeasurement s).unit := by
    rw [guardByState_unit, guardStop_unit]
  have hoff : SourceMeasures s → (abortMeasurement s).unit.sourceOn = false := fun hs => by
    rw [Bool.eq_false_iff]
    intro hc
    have := (abortMeasurement_calm s).sourceMeasures hs hc
    simp at this
  refine ⟨fun ⟨_, _, hg, hm, _⟩ => ⟨fun _ => horder, (guardRespected_iff _).2 ⟨fun _ => hopen, fun h => ?_⟩, ?_⟩,
    fun hs => ?_, fun _ => ⟨?_, fun p => ?_⟩⟩
  · exact absurd h (guardByState_needsGuard _)
  · have h := hoff hm
    have hg' : (abortMeasurement s).unit.guardOn = true → (abortMeasurement s).unit.sourceOn = true := by
      rcases abortMeasurement_sourceKept s with ⟨-, a2, a3⟩ | ⟨-, a3⟩
      · rw [a2, a3]
        exact hg
      · simp [a3]
    unfold SourceGuarded
    rw [hunit, h] at *
    exact ⟨hg', nofun, nofun⟩
  · unfold SourceMeasures
    rw [hunit, hoff hs]
    nofun
  · rw [guardByState_link, guardStop_sent]
    exact List.nodup_nil
  · rw [guardByState_link, guardStop_sent, horder]
    simp

end Sys2Proof.Machine
end

section
/-! PROOFS. What each command of the lines, the link and the measurement keeps. -/

namespace Sys2Proof.Machine

open Sys2Proof

/-- The guard's first level is taken: until then it has read open, so nothing was under way that the level could stop (R28). -/
theorem firstGuardLevel_keeps {s : State} (ht : s.rc.guardLine.taken = false) {l : Line} (hl : l.taken = true) :
    Keeps s { s with rc := { s.rc with guardLine := l } } := by
  refine ⟨fun ⟨h1, h2, h3, h4, h5⟩ => ?_, id, id⟩
  obtain ⟨r1, r2⟩ := (guardRespected_iff s).1 h2
  have hopen := r1 ht
  refine ⟨fun _ => h1 (.inr (.inl hopen)), (guardRespected_iff _).2 ⟨fun hc => ?_, fun hn => ?_⟩, h3, h4, fun hon => ?_⟩
  · exact absurd (hl.symm.trans hc) nofun
  · exact absurd (hopen.symm.trans (r2 hn)) nofun
  · exact absurd (hopen.symm.trans (h5 hon)) nofun

/-- The guard has closed (R28, R31): a closed guard asks for nothing that an open one did not. -/
theorem guardLine_closed_keeps {s : State} {l : Line} (hl : l.taken = true) (hc : l.filtered = false) :
    Keeps s { s with rc := { s.rc with guardLine := l } } := by
  refine ⟨fun ⟨h1, h2, h3, h4, h5⟩ => ⟨?_, (guardRespected_iff _).2 ⟨fun hn => ?_, fun _ => hc⟩, h3, h4, fun _ => hc⟩, id, id⟩
  · rintro (hb | hb | hb)
    · exact h1 (.inl hb)
    · exact absurd (hc.symm.trans hb) nofun
    · exact h1 (.inr (.inr hb))
  · exact absurd (hl.symm.trans hn) nofun

theorem execFirstLevelTaken_keeps (l : MachineLine) (s : State) : Ends (execFirstLevelTaken l s) (StepKeeps s) := by
  unfold execFirstLevelTaken
  split
  · exact ends_same s
  next ht =>
    refine Keeps.ends ?_
    cases l with
    | guard => exact firstGuardLevel_keeps (Bool.eq_false_iff.2 ht) rfl
    | board => exact Calm.keeps (.of_run rfl (.of_unit rfl) rfl id)

theorem execRawLineChange_keeps (l : MachineLine) (b : Bool) (s : State) : Ends (execRawLineChange l b s) (StepKeeps s) := by
  cases l with
  | guard => exact StepKeeps.ends (.of_still ⟨id, id, id⟩ rfl rfl id rfl)
  | board => exact StepKeeps.ends (.of_still ⟨id, id, id⟩ rfl rfl id rfl)

theorem canChange_iff (v : Line) (level : Bool) :
    canChange v level = true ↔ v.taken = true ∧ v.raw = level ∧ v.filtered ≠ level := by
  simp [canChange, and_assoc]

theorem execGuardOpened_keeps (s : State) : Ends (execGuardOpened s) (StepKeeps s) := by
  unfold execGuardOpened
  split
  · exact (guardOpened_keeps s).ends
  · exact ends_same s

theorem guardNotice_calm (k : NoticeKind) (s : State) : Calm s (guardNotice k s) :=
  .of_same (by simp) (by simp) (by simp)

theorem execGuardClosed_keeps (s : State) : Ends (execGuardClosed s) (StepKeeps s) := by
  unfold execGuardClosed
  split
  next h =>
    obtain ⟨ht, -⟩ := (canChange_iff _ _).1 h
    have h1 : Keeps s { s with rc := { s.rc with guardLine := { s.rc.guardLine with filtered := false } } } :=
      guardLine_closed_keeps ht rfl
    have h2 : ∀ u, Calm u (pendGuard u) := fun u => .of_same rfl rfl rfl
    exact ((h1.trans (h2 _).keeps).trans (guardNotice_calm _ _).keeps).ends
  · exact ends_same s

theorem execBoardLost_keeps (s : State) : Ends (execBoardLost s) (StepKeeps s) := by
  unfold execBoardLost
  split
  · refine (Keeps.trans (Calm.keeps ?_) (boardLossByState_keeps _)).ends
    exact .of_run rfl (.of_unit rfl) rfl id
  · exact ends_same s

theorem execBoardSeated_keeps (s : State) : Ends (execBoardSeated s) (StepKeeps s) := by
  unfold execBoardSeated
  split
  · exact Calm.ends (.of_run rfl (.of_unit rfl) rfl id)
  · exact ends_same s

theorem execLinkDown_keeps (s : State) : Ends (execLinkDown s) (StepKeeps s) := by
  have h2 : ∀ u, (∀ p, (probe u p).order = none) → Keeps u { u with link := { u.link with stop := none, up := false } } :=
    fun u ho => .of_no_orders (fun _ => ho) rfl rfl rfl rfl
  unfold execLinkDown
  split
  · refine (Keeps.trans (Keeps.trans (Keeps.trans ?_ (allUnknown_calm _).keeps) (abortMeasurement_calm _).keeps)
      (loseLink_calm _).keeps).ends
    exact (voidOrders_calm s).keeps.trans (h2 _ fun p => voidOrders_order p s)
  · exact ends_same s

theorem execLinkUp_keeps (s : State) : Ends (execLinkUp s) (StepKeeps s) := by
  unfold execLinkUp
  split
  · exact ends_same s
  next h =>
    have hdown : s.link.up = false := Bool.eq_false_iff.2 h
    refine (Keeps.of_no_orders (fun hs => hs.1 (.inr (.inr hdown))) ?_ ?_ (by simp) (by simp)).ends
    · unfold sendStop
      split <;> rfl
    · rw [sendStop_sent]

theorem execStopped_keeps (s : State) : Ends (execStopped s) (StepKeeps s) := by
  unfold execStopped
  split
  next h =>
    refine ((stopEnded_keeps h).trans (Calm.keeps ?_)).ends
    exact .of_run rfl (.of_unit rfl) rfl id
  · refine StepKeeps.ends (.of_still (Calm.keeps ?_) rfl rfl id rfl)
    exact .of_run rfl (.of_unit rfl) rfl id

theorem execStopDeadlineExpiry_keeps (s : State) : Ends (execStopDeadlineExpiry s) (StepKeeps s) := by
  unfold execStopDeadlineExpiry
  split
  next h => exact ((stopEnded_keeps h).trans (loseLink_calm _).keeps).ends
  · exact ends_same s

/-! ### A measurement that begins (R86, R132, R133) -/

/-- An entry of the window is the one of its number, where numbers are distinct. -/
theorem entryOf_of_mem {s : State} {e : Entry} (hd : EntriesDistinct s) (he : e ∈ s.window) : entryOf s e.uid = some e := by
  obtain ⟨hn, -⟩ := hd
  unfold entryOf
  cases hf : s.window.find? fun x => decide (x.uid = e.uid) with
  | none => simpa using List.find?_eq_none.1 hf e he
  | some x =>
    obtain ⟨hx, hu⟩ := entryOf_some hf
    rw [List.inj_on_of_nodup_map hn hx he hu]

/-- An entry changed, its number kept, is found changed. -/
theorem entryOf_updateEntry {u : Nat} {f : Entry → Entry} (hf : ∀ e, (f e).uid = e.uid) (s : State) :
    entryOf (updateEntry u f s) u = (entryOf s u).map f := by
  have hg : ∀ e : Entry, (if e.uid = u then f e else e).uid = e.uid := fun e => by
    split
    · exact hf e
    · rfl
  unfold entryOf updateEntry
  rw [List.find?_map]
  simp only [Function.comp_def, hg]
  cases h : s.window.find? fun e => decide (e.uid = u) with
  | none => rfl
  | some e =>
    obtain ⟨-, he⟩ := entryOf_some h
    simp [he]

theorem mayTake_iff (s : State) (e : Entry) : mayTake s e = true ↔
    s.unit.step = none ∧ s.rc.run = .running ∧ e.kind = .measure ∧ e.state = .ready
      ∧ ∀ x ∈ e.roles, (probe s x.probe).state = .landed ∧ (probe s x.probe).verified = true := by
  simp [mayTake, unitIdle, interlockClosed_iff, and_assoc]

theorem takeEntry_keeps {s : State} {e : Entry} (k : MeasKind) (he : e ∈ s.window) (hm : mayTake s e = true) :
    StepKeeps s (takeEntry e k s) := by
  obtain ⟨-, hrun, -, -, hx⟩ := (mayTake_iff s e).1 hm
  refine ⟨fun ⟨h1, h2, _⟩ => ⟨h1, h2, fun _ => rfl, fun _ => rfl, fun _ => ?_⟩, fun hd _ _ => ?_, id⟩
  · exact h2.2.2 (by rw [hrun]; rfl)
  · exact ⟨takenStep s e k, _, rfl, (entryOf_updateEntry (f := fun e => { e with state := .measuring }) (fun _ => rfl) _).trans
      (congrArg _ (entryOf_of_mem hd he)), hx⟩

theorem execMeasurementTake_keeps (s : State) : Ends (execMeasurementTake s) (StepKeeps s) := by
  unfold execMeasurementTake
  split
  · exact ends_same s
  next he =>
    split
    · exact ends_same s
    · split
      next hm => exact (takeEntry_keeps _ (List.mem_of_find?_eq_some he) hm).ends
      · exact ends_same s

/-! ### A measurement that goes on -/

/-- The step record replaced by one over the same entry. -/
theorem setStep_keeps {r r' : StepRec} {s : State} (h : s.unit.step = some r) (he : r'.entry = r.entry) :
    StepKeeps s (setStep r' s) := by
  refine .of_still (Calm.keeps (.of_source rfl rfl (.inl ⟨?_, rfl, rfl⟩))) rfl rfl id ?_
  · rw [h]
    rfl
  · simp [setStep, h, he]

theorem execSettleElapsed_keeps (s : State) : Ends (execSettleElapsed s) (StepKeeps s) := by
  unfold execSettleElapsed
  split
  · exact ends_same s
  next h =>
    split
    · exact (setStep_keeps h (by rfl)).ends
    · exact ends_same s

theorem execSample_keeps (v : BitVec 20) (s : State) : Ends (execSample v s) (StepKeeps s) := by
  unfold execSample
  split
  · exact ends_same s
  next h =>
    split
    · exact (setStep_keeps h (by rfl)).ends
    · exact ends_same s

theorem execRampCrossing_keeps (n : Nat) (s : State) : Ends (execRampCrossing n s) (StepKeeps s) := by
  unfold execRampCrossing
  split
  · exact ends_same s
  next h =>
    split
    · exact (setStep_keeps h (by rfl)).ends
    · exact ends_same s

theorem execRampTimeLimit_keeps (s : State) : Ends (execRampTimeLimit s) (StepKeeps s) := by
  unfold execRampTimeLimit
  split
  · exact ends_same s
  next h =>
    split
    · exact (setStep_keeps h (by rfl)).ends
    · exact ends_same s

theorem finalAttempt_keeps {r r' : StepRec} {s : State} (limited : Bool) (h : s.unit.step = some r)
    (he : r'.entry = r.entry) : StepKeeps s (finalAttempt limited r' s) := by
  refine .of_still (Calm.keeps (.of_source rfl rfl (.inr ⟨rfl, rfl⟩))) rfl rfl nofun ?_
  simp [finalAttempt, h, he]

theorem execAttemptJudged_keeps (n : Nat) (s : State) : Ends (execAttemptJudged n s) (StepKeeps s) := by
  unfold execAttemptJudged
  split
  · exact ends_same s
  next h =>
    split
    · refine StepKeeps.ends ?_
      unfold judgeAttempt
      dsimp only
      split
      · exact finalAttempt_keeps _ h rfl
      · split
        · exact setStep_keeps h rfl
        · exact finalAttempt_keeps _ h rfl
    · exact ends_same s

theorem execClassificationReturned_keeps (s : State) : Ends (execClassificationReturned s) (StepKeeps s) := by
  unfold execClassificationReturned
  split
  · exact ends_same s
  next h =>
    split
    · dsimp only
      split
      · exact (setStep_keeps h (by rfl)).ends
      · exact (completeStep_calm _ _ s).ends
    · exact ends_same s

theorem execCaptureHandoff_keeps (s : State) : Ends (execCaptureHandoff s) (StepKeeps s) := by
  unfold execCaptureHandoff
  split
  · exact ends_same s
  next h =>
    split
    · refine StepKeeps.ends_done (.of_still (Calm.keeps ?_) (by simp) (by simp) (by simp [setStep]) ?_)
      · exact .of_source (by simp) (by simp) (.inl ⟨by simp [setStep, h], by simp [setStep], by simp [setStep]⟩)
      · simp [setStep, h]
    · exact ends_same s

end Sys2Proof.Machine
end

section
/-! PROOFS. What the other commands keep, every step, and the safe state. -/

namespace Sys2Proof.Machine

open Sys2Proof

/-! ### The other commands -/

theorem setRefused_keeps (s : State) : Ends (.next (setRefused s)) (StepKeeps s) :=
  StepKeeps.ends (.of_same rfl rfl rfl rfl)

/-- START takes the guard's level as it stands (R18). -/
theorem enterStarting_keeps (which : Area) (s : State) : Keeps s (enterStarting which s) := by
  refine ⟨fun ⟨h1, h2, h3⟩ => ⟨h1, (guardRespected_iff _).2 ⟨h2.1, ?_⟩, h3⟩, id, id⟩
  rintro (hn | ⟨-, hn⟩)
  · cases hn
  · exact hn

theorem startRun_keeps (which : Area) (s : State) : StepKeeps s (startRun which s) := by
  have h1 := enterStarting_keeps which s
  by_cases hg : anchorGood s.regs.anchor.toNat = true
  · rw [startRun_of_good which hg]
    exact .of_still (h1.trans (Calm.keeps (.of_same rfl rfl rfl))) rfl rfl id rfl
  · have h2 := h1.trans (enterHalted_calm .badAnchor 0 _).keeps
    have hstep : (enterHalted .badAnchor 0 (enterStarting which s)).unit.step = none := by
      rw [enterHalted_unit _ _ (enterStarting_run which s), abortMeasurement_step]
    rw [startRun_of_bad which hg]
    exact ⟨h2.safe, fun _ hi => .of_idle (h2.source hi.sourceMeasures) hstep, h2.sequence⟩

theorem execStartA_keeps (s : State) : Ends (execStartA s) (StepKeeps s) := by
  unfold execStartA
  split
  · exact (startRun_keeps .a s).ends_done
  · exact setRefused_keeps s

theorem execStartB_keeps (s : State) : Ends (execStartB s) (StepKeeps s) := by
  unfold execStartB
  split
  · exact (startRun_keeps .b s).ends_done
  · exact setRefused_keeps s

theorem continueHold_guardLine (s : State) : (continueHold s).rc.guardLine = s.rc.guardLine := by
  unfold continueHold
  dsimp only
  split <;> rfl

theorem execContinueRun_keeps (s : State) : Ends (execContinueRun s) (StepKeeps s) := by
  unfold execContinueRun
  split
  next h =>
    refine Calm.ends (.of_run rfl (.of_unit rfl) rfl fun _ => needsGuard_of_run ?_)
    rw [h]
    rfl
  · split
    next h =>
      have hg : guardOpen s = false := by
        simp only [holdOver, Bool.and_eq_true, Bool.not_eq_true'] at h
        exact h.2
      exact (Keeps.of_closed hg (continueHold_link s) (continueHold_unit s) (continueHold_guardLine s)).ends
    · exact setRefused_keeps s
  all_goals exact setRefused_keeps s

theorem execStop_keeps (s : State) : Ends (execStop s) (StepKeeps s) := by
  have hstop : Calm s (enterStopping .aborted (endActivity s)) := (endActivity_calm s).trans (enterStopping_calm _ _)
  unfold execStop
  split
  case h_7 => exact (enterStopping_calm _ s).ends
  case h_8 => exact setRefused_keeps s
  case h_9 => exact setRefused_keeps s
  all_goals exact hstop.ends

theorem execRoom_keeps (s : State) : Ends (execRoom s) (StepKeeps s) := by
  unfold execRoom
  split
  · rw [roomReady_eq, roomRelease_eq]
    exact StepKeeps.ends_done (.of_still (Calm.keeps (.of_run rfl (.of_unit rfl) rfl id)) rfl rfl id rfl)
  · exact ends_same s

/-- A reset leaves nothing under way (R37). -/
theorem resetWith_keeps (g : RegWindow) {ps : Per Probe} (hp : ∀ p, (ps.get p).order = none) (s : State) :
    StepKeeps s (resetWith g ps s) := by
  refine ⟨fun _ => ⟨fun _ => hp, ⟨fun _ => rfl, nofun, nofun⟩, nofun, nofun, nofun⟩, fun _ _ => nofun, fun _ =>
    ⟨List.nodup_nil, fun p => ?_⟩⟩
  rw [show (probe (resetWith g ps s) p).order = none from hp p]
  exact ⟨nofun, nofun⟩

theorem wrapTime_keeps (s : State) : StepKeeps s (wrapTime s) := by
  have h1 : Calm s { s with rc := { s.rc with time := 0 } } := .of_run rfl (.of_unit rfl) rfl id
  exact .of_still (h1.trans (requestNotice_calm _ _ _ _ _)).keeps (by simp) (by simp) (by simp) (by simp)

theorem execTimeStampTick_keeps (s : State) : Ends (execTimeStampTick s) (StepKeeps s) := by
  unfold execTimeStampTick
  split
  · exact ends_same s
  · split
    · exact (wrapTime_keeps s).ends_done
    · exact StepKeeps.ends (.of_still (Calm.keeps (.of_run rfl (.of_unit rfl) rfl id)) rfl rfl id rfl)

theorem execTimeWrap_keeps (s : State) : Ends (execTimeWrap s) (StepKeeps s) := by
  unfold execTimeWrap
  split
  · exact (wrapTime_keeps s).ends_done
  · exact ends_same s

theorem staleReport_keeps (s : State) : Ends (staleReport s) (StepKeeps s) :=
  StepKeeps.ends (.of_still (Calm.keeps (.of_run rfl (.of_unit rfl) rfl id)) rfl rfl id rfl)

theorem execLanded_keeps (p : ProbeNo) (tag : BitVec 4) (s : State) : Ends (execLanded p tag s) (StepKeeps s) := by
  unfold execLanded
  split
  · exact (landProbe_calm p true s).ends
  · exact (landProbe_calm p false s).ends
  all_goals exact staleReport_keeps s

theorem execLifted_keeps (p : ProbeNo) (tag : BitVec 4) (s : State) : Ends (execLifted p tag s) (StepKeeps s) := by
  unfold execLifted
  split
  · exact (Calm.endOrder rfl s).ends
  all_goals exact staleReport_keeps s

theorem execParked_keeps (p : ProbeNo) (tag : BitVec 4) (s : State) : Ends (execParked p tag s) (StepKeeps s) := by
  unfold execParked
  split
  · exact ((Calm.endOrder rfl s).trans (memberCompleted_calm p .park _)).ends
  all_goals exact staleReport_keeps s

theorem execCleaned_keeps (p : ProbeNo) (tag : BitVec 4) (s : State) : Ends (execCleaned p tag s) (StepKeeps s) := by
  unfold execCleaned
  split
  · exact ((Calm.endOrder rfl s).trans (memberCompleted_calm p .clean _)).ends
  all_goals exact staleReport_keeps s

theorem execOrderDeadlineExpiry_keeps (p : ProbeNo) (s : State) : Ends (execOrderDeadlineExpiry p s) (StepKeeps s) := by
  unfold execOrderDeadlineExpiry
  split
  · exact (faultProbe_calm _ _ _ _ s).ends
  · exact ends_same s

theorem execLoadingReadComplete_keeps (s : State) : Ends (execLoadingReadComplete s) (StepKeeps s) := by
  unfold execLoadingReadComplete
  split
  · exact ends_same s
  next h =>
    split
    next hc =>
      have hrun : s.rc.run = .starting := by simpa using (Bool.and_eq_true_iff.1 hc).2
      exact ((serve_calm h).trans (loadingRead_calm _ _ (by rw [serve_rc h, hrun]))).ends
    · exact (serve_calm h).ends

theorem execFetchReadComplete_keeps (s : State) : Ends (execFetchReadComplete s) (StepKeeps s) := by
  unfold execFetchReadComplete
  split
  · exact ends_same s
  next h =>
    split
    · exact ((serve_calm h).trans (txnRead_calm _ _)).ends
    · exact (serve_calm h).ends

theorem execReturnReleased_keeps (s : State) : Ends (execReturnReleased s) (StepKeeps s) := by
  unfold execReturnReleased
  split
  · exact Calm.ends (.of_same (by simp) (by simp) (by simp))
  · exact ends_same s

theorem execEndDrained_keeps (s : State) : Ends (execEndDrained s) (StepKeeps s) := by
  unfold execEndDrained
  split
  · exact Calm.ends (.of_run rfl (.of_unit rfl) rfl id)
  · exact ends_same s

theorem mayRelease_iff (s : State) : mayRelease s = true ↔ s.window = [] ∧ s.rc.run = .running := by
  simp [mayRelease, List.isEmpty_iff]

theorem execPauseDrained_keeps (s : State) : Ends (execPauseDrained s) (StepKeeps s) := by
  unfold execPauseDrained
  split
  next h =>
    obtain ⟨-, hrun⟩ := (mayRelease_iff s).1 h.2
    refine Calm.ends (Calm.trans ?_ (requestNotice_calm _ _ _ _ _))
    exact .of_run rfl (.of_unit rfl) rfl fun _ => needsGuard_of_run (by rw [hrun]; rfl)
  · exact ends_same s

theorem execResumeReleased_keeps (s : State) : Ends (execResumeReleased s) (StepKeeps s) := by
  unfold execResumeReleased
  split
  · split
    · refine Calm.ends (Calm.trans ?_ (resumeDiversion_calm _ _))
      exact .of_same rfl rfl rfl
    · exact ends_same s
  all_goals exact ends_same s

theorem execAreaWriteComplete_keeps (s : State) : Ends (execAreaWriteComplete s) (StepKeeps s) := by
  unfold execAreaWriteComplete
  split
  · split
    · exact ends_same s
    next h => exact (completeNotice_calm h).ends
  · split
    · exact ends_same s
    next h =>
      split
      · exact ((serve_calm h).trans (areaWritten_calm _)).ends
      · exact (serve_calm h).ends

theorem execReadyPoll_keeps (s : State) : Ends (execReadyPoll s) (StepKeeps s) := by
  unfold execReadyPoll
  split
  · exact StepKeeps.ends_done (.of_same rfl rfl rfl rfl)
  · exact ends_same s

/-- A request served within a step that touches nothing the safe state speaks of. -/
theorem serve_keeps {k : ReqKind} {s s1 : State} {r : Request} {ws : List Word} (h : serve k s = some (r, ws, s1)) :
    StepKeeps s s1 := by
  obtain ⟨m, q, rfl⟩ := serve_eq h
  exact .of_same rfl rfl rfl rfl

theorem StepKeeps.trans_still {s t u : State} (h : StepKeeps s t) (hk : Keeps t u) (hw : u.window = t.window)
    (hl : u.link = t.link) (hu : u.unit = t.unit) : StepKeeps s u :=
  ⟨hk.safe ∘ h.safe, fun hd hi => (h.interlock hd hi).of_still hw hl (by rw [hu]; exact id) (by rw [hu]),
    hk.sequence ∘ h.sequence⟩

theorem readyRead_calm (w : Word) (s : State) : Calm s (readyRead w s) := by
  unfold readyRead
  split
  · exact .of_run rfl (.of_unit rfl) rfl id
  · split <;> exact .of_same rfl rfl rfl

theorem execReadyReadComplete_keeps (s : State) : Ends (execReadyReadComplete s) (StepKeeps s) := by
  unfold execReadyReadComplete
  split
  · exact ends_same s
  next h =>
    split
    · exact ((serve_keeps h).trans_still (readyRead_calm _ _).keeps (by simp) (by simp) (by simp)).ends_done
    · exact (serve_keeps h).ends_done

theorem execRunWordReadComplete_keeps (s : State) : Ends (execRunWordReadComplete s) (StepKeeps s) := by
  unfold execRunWordReadComplete
  split
  · exact ends_same s
  next h =>
    split
    next hc =>
      have hrun : s.rc.run = .chainWait := by simpa using (Bool.and_eq_true_iff.1 hc).2
      exact ((serve_calm h).trans (runWordRead_calm (by rw [serve_rc h, hrun]))).ends
    · exact (serve_calm h).ends

theorem execStoppingWriteComplete_keeps (s : State) : Ends (execStoppingWriteComplete s) (StepKeeps s) := by
  unfold execStoppingWriteComplete
  split
  · split
    · exact ends_same s
    next h => exact (completeNotice_calm h).ends
  · split
    · exact ends_same s
    next h =>
      split
      · exact ((serve_calm h).trans (stoppingWritten_calm _)).ends
      · exact (serve_calm h).ends

theorem execHaltWriteComplete_keeps (s : State) : Ends (execHaltWriteComplete s) (StepKeeps s) := by
  unfold execHaltWriteComplete
  split
  · split
    · exact ends_same s
    next h => exact (completeNotice_calm h).ends
  · split
    · exact ends_same s
    next h => exact ((serve_calm h).trans (advanceHalt_calm _)).ends

theorem serveFailing_calm {k : ReqKind} {n : Nat} {s s1 : State} {r : Request} (h : serveFailing k n s = some (r, s1)) :
    Calm s s1 := by
  obtain ⟨-, -, h1⟩ := serveFailing_some h
  rw [h1]
  exact .of_same rfl rfl rfl

theorem execMemoryError_keeps (k : ReqKind) (n : Nat) (s : State) : Ends (execMemoryError k n s) (StepKeeps s) := by
  unfold execMemoryError
  split
  · exact ends_same s
  next h => exact ((serveFailing_calm h).trans (memoryErrorTaken_calm _ _)).ends

theorem execCheckEnd_keeps (p : ProbeNo) (loop : Option Nat) (s : State) : Ends (execCheckEnd p loop s) (StepKeeps s) := by
  unfold execCheckEnd
  split
  · exact ends_same s
  · refine Calm.ends (Calm.trans (Calm.trans ?_ (tableResult_calm _ _ _ _)) (windowResult_calm _ _ _ _))
    exact .of_same rfl rfl rfl

theorem execCaptureWriteComplete_keeps (s : State) : Ends (execCaptureWriteComplete s) (StepKeeps s) := by
  unfold execCaptureWriteComplete
  split
  · exact ends_same s
  next h => exact ((serve_calm h).trans (captureAcked_calm _ _)).ends

theorem execHeadTaken_keeps (s : State) : Ends (execHeadTaken s) (StepKeeps s) := by
  unfold execHeadTaken
  split
  · exact ends_same s
  · split
    · exact ends_same s
    · split
      · exact (takeHead_calm _ s).ends
      · exact Calm.ends (.of_same rfl rfl rfl)

theorem execMarkRemoved_keeps (s : State) : Ends (execMarkRemoved s) (StepKeeps s) := by
  unfold execMarkRemoved
  split
  · exact ends_same s
  · split
    · exact ((requestNotice_calm _ _ _ _ s).trans (removeHead_calm _ _)).ends
    · exact ends_same s

theorem execRecordWriteComplete_keeps (s : State) : Ends (execRecordWriteComplete s) (StepKeeps s) := by
  unfold execRecordWriteComplete
  split
  · exact ends_same s
  next h =>
    refine ((serve_keeps h).trans_still (Calm.keeps ?_) (by simp) (by simp) (by simp)).ends_done
    exact .of_same (by simp) (by simp) (by simp)

theorem execReleaseReadComplete_keeps (s : State) : Ends (execReleaseReadComplete s) (StepKeeps s) := by
  unfold execReleaseReadComplete
  split
  · exact ends_same s
  next h =>
    split
    · exact ((serve_calm h).trans (releaseRead_calm _ _)).ends
    · exact (serve_keeps h).ends_done

theorem execReleasePoll_keeps (s : State) : Ends (execReleasePoll s) (StepKeeps s) := by
  unfold execReleasePoll
  split
  · exact StepKeeps.ends_done (.of_same rfl rfl rfl rfl)
  · exact ends_same s

theorem execNoticeWriteComplete_keeps (s : State) : Ends (execNoticeWriteComplete s) (StepKeeps s) := by
  unfold execNoticeWriteComplete
  split
  · exact ends_same s
  next h => exact (completeNotice_calm h).ends

/-! ### Every command -/

theorem execUndefinedCommandCode_keeps (code : Byte) (s : State) :
    Ends (execUndefinedCommandCode code s) (StepKeeps s) := by
  unfold execUndefinedCommandCode
  split
  · exact ends_same s
  · exact setRefused_keeps s

theorem execAnchorWrite_keeps (v : Word) (s : State) : Ends (execAnchorWrite v s) (StepKeeps s) := by
  unfold execAnchorWrite
  split
  · exact StepKeeps.ends (.of_same rfl rfl rfl rfl)
  · exact setRefused_keeps s

theorem exec_stepKeeps (c : Instr) (s : State) : Ends (exec c s) (StepKeeps s) := by
  cases c with
  | startA => exact execStartA_keeps s
  | startB => exact execStartB_keeps s
  | continueRun => exact execContinueRun_keeps s
  | stop => exact execStop_keeps s
  | room => exact execRoom_keeps s
  | softReset => exact (resetWith_keeps _ (fun p => by rw [Per.get_map]; rfl) s).ends
  | undefinedCommandCode code => exact execUndefinedCommandCode_keeps code s
  | anchorWrite v => exact execAnchorWrite_keeps v s
  | stateWrite v => exact StepKeeps.ends (.of_same rfl rfl rfl rfl)
  | causeRead => exact StepKeeps.ends (.of_same rfl rfl rfl rfl)
  | irqEnableWrite v => exact StepKeeps.ends (.of_same rfl rfl rfl rfl)
  | ignoredRegisterWrite reg v => exact ends_same s
  | por => exact (resetWith_keeps _ (fun p => by rw [Per.get_all]; rfl) s).ends
  | pin => exact (resetWith_keeps _ (fun p => by rw [Per.get_all]; rfl) s).ends
  | rawLineChange l b => exact execRawLineChange_keeps l b s
  | firstLevelTaken l => exact execFirstLevelTaken_keeps l s
  | guardOpened => exact execGuardOpened_keeps s
  | guardClosed => exact execGuardClosed_keeps s
  | boardLost => exact execBoardLost_keeps s
  | boardSeated => exact execBoardSeated_keeps s
  | linkDown => exact execLinkDown_keeps s
  | linkUp => exact execLinkUp_keeps s
  | timeStampTick => exact execTimeStampTick_keeps s
  | timeWrap => exact execTimeWrap_keeps s
  | landed p tag => exact execLanded_keeps p tag s
  | lifted p tag => exact execLifted_keeps p tag s
  | parked p tag => exact execParked_keeps p tag s
  | cleaned p tag => exact execCleaned_keeps p tag s
  | fault p tag code => exact (faultProbe_calm _ _ _ _ s).ends
  | stopped => exact execStopped_keeps s
  | orderDeadlineExpiry p => exact execOrderDeadlineExpiry_keeps p s
  | stopDeadlineExpiry => exact execStopDeadlineExpiry_keeps s
  | loadingReadComplete => exact execLoadingReadComplete_keeps s
  | fetchReadComplete => exact execFetchReadComplete_keeps s
  | returnReleased => exact execReturnReleased_keeps s
  | endDrained => exact execEndDrained_keeps s
  | pauseDrained => exact execPauseDrained_keeps s
  | resumeReleased => exact execResumeReleased_keeps s
  | areaWriteComplete => exact execAreaWriteComplete_keeps s
  | readyPoll => exact execReadyPoll_keeps s
  | readyReadComplete => exact execReadyReadComplete_keeps s
  | runWordReadComplete => exact execRunWordReadComplete_keeps s
  | stoppingWriteComplete => exact execStoppingWriteComplete_keeps s
  | haltWriteComplete => exact execHaltWriteComplete_keeps s
  | memoryError k n => exact execMemoryError_keeps k n s
  | checkEnd p loop => exact execCheckEnd_keeps p loop s
  | measurementTake => exact execMeasurementTake_keeps s
  | settleElapsed => exact execSettleElapsed_keeps s
  | sample v => exact execSample_keeps v s
  | rampCrossing n => exact execRampCrossing_keeps n s
  | rampTimeLimit => exact execRampTimeLimit_keeps s
  | attemptJudged n => exact execAttemptJudged_keeps n s
  | classificationReturned => exact execClassificationReturned_keeps s
  | captureHandoff => exact execCaptureHandoff_keeps s
  | captureWriteComplete => exact execCaptureWriteComplete_keeps s
  | headTaken => exact execHeadTaken_keeps s
  | markRemoved => exact execMarkRemoved_keeps s
  | recordWriteComplete => exact execRecordWriteComplete_keeps s
  | releaseReadComplete => exact execReleaseReadComplete_keeps s
  | releasePoll => exact execReleasePoll_keeps s
  | noticeWriteComplete => exact execNoticeWriteComplete_keeps s

/-- A step serves a fill word or runs a command; the queue of waiting commands is no part of what it keeps. -/
theorem step_stepKeeps {s t : State} (h : step s = .next t) : StepKeeps s t := by
  unfold step at h
  split at h
  · obtain rfl := Host.Outcome.next.inj h
    exact .of_same (by simp) (by simp) (by simp) (by simp)
  next c cs _ =>
    obtain ⟨u, hu, hk⟩ := exec_stepKeeps c (s.withPending cs)
    obtain rfl : u = t := Host.Outcome.next.inj (hu.symm.trans h)
    exact ⟨hk.safe, hk.interlock, hk.sequence⟩

end Sys2Proof.Machine

namespace Sys2Proof.Proofs

open Sys2Proof Sys2Proof.Machine

/-- Settles O60: every command keeps the three invariants, and so does the fill word that an idle step serves. -/
theorem safeStateKept : Obligations.SafeStateKept := by
  unfold Obligations.SafeStateKept
  intro s t h
  have hk := step_stepKeeps h
  exact ⟨hk.safe, hk.interlock, hk.sequence⟩

end Sys2Proof.Proofs
end

section
/-! PROOFS. How the consequences of a step are composed in each run state, and the invariants right after a power-on reset. -/

namespace Sys2Proof.Machine

open Sys2Proof

/-! ## The stages of settle by run state (R20, R21, R22, R25, R42, R79) -/

theorem areaMove_of_not {s : State} (h : ¬(s.rc.areaSeq = some .move ∧ s.rc.run = .running)) : areaMove s = s := if_neg h

theorem areaMove_of_move {s : State} (h : s.rc.areaSeq = some .move) (hr : s.rc.run = .running) : areaMove s =
    if s.rc.follow then
      if s.rc.boardChange then enterBoardChange { s with rc := { s.rc with areaSeq := none } }
      else enterChainWait { s with rc := { s.rc with areaSeq := none } }
    else enterStopping .finished { s with rc := { s.rc with areaSeq := none } } := by
  rw [areaMove, if_pos ⟨h, hr⟩]
  cases hf : s.rc.follow <;> simp [hf]

theorem enterChainWait_rc (s : State) :
    (enterChainWait s).rc = { s.rc with run := .chainWait, readyAgain := false } := by
  simp [enterChainWait]

theorem enterBoardChange_rc (s : State) : (enterBoardChange s).rc =
    { s.rc with run := .boardWait, waitKind := .change, seenAbsent := !boardPresent s, parking := Per.all .none } := by
  simp [enterBoardChange]

@[simp] theorem areaMove_boardLine (s : State) : (areaMove s).rc.boardLine = s.rc.boardLine := by
  by_cases h : s.rc.areaSeq = some .move ∧ s.rc.run = .running
  · rw [areaMove_of_move h.1 h.2]
    split
    · split
      · rw [enterBoardChange_rc]
      · rw [enterChainWait_rc]
    · rfl
  · rw [areaMove_of_not h]

theorem boardSettle_of_not {s : State} (h : s.rc.run ≠ .boardWait) : boardSettle s = s := if_pos h

theorem boardSettle_of_start {s : State} (h : s.rc.run = .boardWait) (hk : s.rc.waitKind = .seatAtStart) : boardSettle s =
    if boardPresent s then { runBegin s with rc := { (runBegin s).rc with run := .running } } else s := by
  rw [boardSettle, if_neg (not_not.2 h), hk]

theorem boardSettle_of_switch {s : State} (h : s.rc.run = .boardWait) (hk : s.rc.waitKind = .seatAtSwitch) : boardSettle s =
    if boardPresent s then { s with rc := { s.rc with run := .running } } else s := by
  rw [boardSettle, if_neg (not_not.2 h), hk]

/-- An absent board is noted (R22). -/
def absenceNoted (s : State) : State := { s with rc := { s.rc with seenAbsent := s.rc.seenAbsent || !boardPresent s } }

/-- The state in which the end of a board-change wait is judged: the absence is noted and the probes have been given their PARKs
(R22). -/
def changeParked (s : State) : State := parkAll (absenceNoted s)

theorem boardSettle_of_change {s : State} (h : s.rc.run = .boardWait) (hk : s.rc.waitKind = .change) : boardSettle s =
    if boardChangeOver (changeParked s) then enterChainWait (changeParked s) else changeParked s := by
  rw [boardSettle, if_neg (not_not.2 h), hk]
  rfl

theorem changeParked_rc (s : State) :
    ∃ m, (changeParked s).rc = { s.rc with seenAbsent := s.rc.seenAbsent || !boardPresent s, parking := m } :=
  parkAll_rc _

/-- What a BOARD_WAIT leads to: it goes on, or the run begins or goes on, or a board change ends in CHAIN_WAIT. -/
theorem boardSettle_run {s : State} (h : s.rc.run = .boardWait) :
    (boardSettle s).rc.boardLine = s.rc.boardLine ∧ (boardSettle s).rc.run ≠ .stopping
    ∧ (s.rc.waitKind = .change → (boardSettle s).rc.run ≠ .running) := by
  cases hk : s.rc.waitKind with
  | seatAtStart =>
    rw [boardSettle_of_start h hk]
    split
    · exact ⟨by simp, nofun, nofun⟩
    · exact ⟨rfl, by simp [h], nofun⟩
  | seatAtSwitch =>
    rw [boardSettle_of_switch h hk]
    split
    · exact ⟨rfl, nofun, nofun⟩
    · exact ⟨rfl, by simp [h], nofun⟩
  | change =>
    obtain ⟨m, hm⟩ := changeParked_rc s
    rw [boardSettle_of_change h hk]
    split
    · rw [enterChainWait_rc, hm]
      exact ⟨rfl, nofun, nofun⟩
    · rw [hm]
      exact ⟨rfl, by simp [h], by simp [h]⟩

@[simp] theorem boardSettle_boardLine (s : State) : (boardSettle s).rc.boardLine = s.rc.boardLine := by
  by_cases h : s.rc.run = .boardWait
  · exact (boardSettle_run h).1
  · rw [boardSettle_of_not h]

/-- Giving the probes their PARKs in STOPPING changes, of run control, their marks only. -/
theorem stoppingParked_rc (s : State) : ∃ m, (stoppingParked s).rc = { s.rc with parking := m } := by
  unfold stoppingParked
  split
  · exact ⟨s.rc.parking, rfl⟩
  · exact parkAll_rc s

theorem finishStopping_rc (s : State) : (finishStopping s).rc =
    { s.rc with run := .idle, endCode := s.rc.pendingEnd, underWay := false, stopSeq := none } := rfl

/-- A closing step of STOPPING goes on with it or, without the notice ring, ends it. -/
theorem runStopPhase_rc (ph : ClosePhase) (s : State) : (runStopPhase ph s).rc = { s.rc with stopSeq := some ph }
    ∨ (runStopPhase ph s).rc =
      { s.rc with run := .idle, endCode := s.rc.pendingEnd, underWay := false, stopSeq := none } := by
  cases ph with
  | wear p => exact .inl rfl
  | summary => exact .inl rfl
  | notice =>
    cases hf : s.notice.inForce with
    | true => exact .inl (by simp [runStopPhase, hf])
    | false => exact .inr (by simp [runStopPhase, hf, finishStopping_rc])

theorem stoppingSettle_run {s : State} (h : s.rc.run = .stopping) :
    (stoppingSettle s).rc.boardLine = s.rc.boardLine ∧ (stoppingSettle s).rc.run ≠ .running := by
  by_cases hq : s.rc.stopSeq = none
  · obtain ⟨m, hm⟩ := stoppingParked_rc s
    rw [stoppingSettle_of_stopping h hq]
    split
    · rcases runStopPhase_rc (firstClose ((stoppingParked s).rc.loadedGood
          && decide ((stoppingParked s).rc.pendingEnd ≠ .badAnchor)) (stoppingParked s).rc.underWay) (stoppingParked s)
        with hr | hr
      · rw [hr, hm]
        exact ⟨rfl, by simp [h]⟩
      · rw [hr, hm]
        exact ⟨rfl, nofun⟩
    · rw [hm]
      exact ⟨rfl, by simp [h]⟩
  · rw [stoppingSettle_of_not fun hc => hq hc.2]
    exact ⟨rfl, by simp [h]⟩

theorem stoppingSettle_of_run {s : State} (h : s.rc.run ≠ .stopping) : stoppingSettle s = s :=
  stoppingSettle_of_not fun hc => h hc.1

@[simp] theorem stoppingSettle_boardLine (s : State) : (stoppingSettle s).rc.boardLine = s.rc.boardLine := by
  by_cases h : s.rc.run = .stopping
  · exact (stoppingSettle_run h).1
  · rw [stoppingSettle_of_run h]

@[simp] theorem settle_boardLine (s : State) : (settle s).rc.boardLine = s.rc.boardLine := by simp [settle]

theorem servingPass_of_not {s : State} (h : s.rc.run ≠ .running) : servingPass s = s := if_neg h

theorem beginTxn_of_not {s : State} (h : s.rc.run ≠ .running) : beginTxn s = s := if_neg (by simp [canBegin, h])

/-- Outside RUNNING the window is not served and nothing is fetched. -/
theorem serve_and_fetch_of_not {s : State} (h : s.rc.run ≠ .running) : beginTxn (servingPass s) = s := by
  rw [servingPass_of_not h, beginTxn_of_not h]

theorem areaMove_of_run {s : State} (h : s.rc.run ≠ .running) : areaMove s = s := areaMove_of_not fun hc => h hc.2

/-- The move after an area leads to STOPPING, to a board change or to CHAIN_WAIT. -/
theorem areaMove_run {s : State} (h : s.rc.areaSeq = some .move) (hr : s.rc.run = .running) :
    (areaMove s).rc.run ≠ .running ∧ ((areaMove s).rc.run = .boardWait → (areaMove s).rc.waitKind = .change) := by
  rw [areaMove_of_move h hr]
  split
  · split
    · rw [enterBoardChange_rc]
      exact ⟨nofun, fun _ => rfl⟩
    · rw [enterChainWait_rc]
      exact ⟨nofun, nofun⟩
  · exact ⟨nofun, nofun⟩

/-! ## settle by run state -/

theorem settle_of_running {s : State} (h : s.rc.run = .running) (hm : s.rc.areaSeq ≠ some .move) :
    settle s = interlock (beginTxn (servingPass s)) := by
  rw [settle, areaMove_of_not fun hc => hm hc.1, boardSettle_of_not (by simp [h]), stoppingSettle_of_run (by simp [h])]

theorem settle_of_move {s : State} (h : s.rc.run = .running) (hm : s.rc.areaSeq = some .move) :
    settle s = interlock (stoppingSettle (boardSettle (areaMove s))) := by
  obtain ⟨hrun, hwait⟩ := areaMove_run hm h
  have hboard : (boardSettle (areaMove s)).rc.run ≠ .running := by
    by_cases hw : (areaMove s).rc.run = .boardWait
    · exact (boardSettle_run hw).2.2 (hwait hw)
    · rwa [boardSettle_of_not hw]
  have hstop : (stoppingSettle (boardSettle (areaMove s))).rc.run ≠ .running := by
    by_cases hs : (boardSettle (areaMove s)).rc.run = .stopping
    · exact (stoppingSettle_run hs).2
    · rwa [stoppingSettle_of_run hs]
  rw [settle, serve_and_fetch_of_not hstop]

theorem settle_of_boardWait {s : State} (h : s.rc.run = .boardWait) :
    settle s = interlock (beginTxn (servingPass (boardSettle s))) := by
  rw [settle, areaMove_of_run (by simp [h]), stoppingSettle_of_run (boardSettle_run h).2.1]

theorem settle_of_stopping {s : State} (h : s.rc.run = .stopping) : settle s = interlock (stoppingSettle s) := by
  rw [settle, areaMove_of_run (by simp [h]), boardSettle_of_not (by simp [h]), serve_and_fetch_of_not (stoppingSettle_run h).2]

theorem settle_of_other {s : State} (h1 : s.rc.run ≠ .running) (h2 : s.rc.run ≠ .boardWait) (h3 : s.rc.run ≠ .stopping) :
    settle s = interlock s := by
  rw [settle, areaMove_of_run h1, boardSettle_of_not h2, stoppingSettle_of_run h3, serve_and_fetch_of_not h1]

/-- What the end of a measurement changes (R121, R140). -/
theorem abortMeasurement_eq {s : State} (h : s.unit.step ≠ none) : abortMeasurement s = { s with
    unit := { s.unit with step := none, sourceOn := false, guardOn := false }
    checks := (abortMeasurement s).checks
    port := { s.port with reqs := s.port.reqs.map fun r => if r.kind = .capture then { r with live := false } else r } } := by
  rw [abortMeasurement_of_measuring h]
  rfl

theorem settle_stop_eq (s : State) : (settle s).link.stop = s.link.stop := (settle_calm s).stop

theorem settle_up_eq (s : State) : (settle s).link.up = s.link.up := (settle_calm s).up

theorem settle_guardLine_eq (s : State) : (settle s).rc.guardLine = s.rc.guardLine := (settle_calm s).guardLine

/-! ## The reset state (R37) -/

/-- At reset the guard reads open and no probe has an order. -/
theorem safeState_reset : SafeState State.reset :=
  ⟨fun _ p => by rw [probe_reset]; rfl, ⟨fun _ => rfl, nofun, nofun⟩, nofun, nofun, nofun⟩

theorem interlockHeld_reset : InterlockHeld State.reset := nofun

theorem sendSequence_reset : SendSequence State.reset :=
  ⟨List.nodup_nil, fun p => by rw [probe_reset]; exact ⟨nofun, nofun⟩⟩

end Sys2Proof.Machine

namespace Sys2Proof.Proofs

open Sys2Proof Sys2Proof.Machine

/-- Settles O55: which stages of settle do nothing in each run state. -/
theorem settleLeaves : Obligations.SettleLeaves := by
  unfold Obligations.SettleLeaves
  intro s
  exact ⟨settle_mem s, settle_regs s, settle_settings s, settle_corr s, settle_pending s, settle_free s, settle_nextUid s,
    settle_up_eq s, settle_stop_eq s, settle_guardLine_eq s, settle_boardLine s, rfl, settle_of_running, settle_of_move,
    settle_of_boardWait, settle_of_stopping,
    fun h1 h2 h3 => ⟨settle_of_other h1 h2 h3, fun hi => by rw [settle_of_other h1 h2 h3, interlock_of_held hi]⟩,
    interlock_of_held, interlock_of_not_held, abortMeasurement_of_idle,
    fun h => ⟨abortMeasurement_deferred h, abortMeasurement_eq h⟩⟩

/-- Settles O57: the window, the stack and the queue are empty, the source is off, and every probe's record is the reset one. -/
theorem invariantsAtReset : Obligations.InvariantsAtReset := by
  unfold Obligations.InvariantsAtReset
  exact ⟨reset_mem_wf, Nat.zero_le _, Nat.zero_le _, Nat.zero_le _,
    fun p => by simp [Probe.reset],
    ⟨List.nodup_nil, fun _ h => absurd h List.not_mem_nil⟩,
    safeState_reset, interlockHeld_reset, sendSequence_reset⟩

end Sys2Proof.Proofs
end

section
/-! PROOFS. What entering HALTED ends and leaves, and the closing writes. -/

namespace Sys2Proof.Machine

open Sys2Proof

/-! ## Entering HALTED (R27) -/

@[simp] theorem abortMeasurement_epoch (s : State) : (abortMeasurement s).port.epoch = s.port.epoch := by
  unfold abortMeasurement
  split <;> rfl

@[simp] theorem endActivity_epoch (s : State) : (endActivity s).port.epoch = s.port.epoch :=
  abortMeasurement_epoch (stopFetcher s)

/-- Wherever the wear table is to be written and no earlier HALTED entry has writes left, the first closing write is issued at
once. -/
theorem enterHalted_wear {code : EndCode} (causes : Word) {s : State} (h : s.rc.run ≠ .halted) (hc : code ≠ .badAnchor)
    (hg : s.rc.loadedGood = true) (hs : s.rc.run ≠ .starting) (hq : s.rc.haltSeqs = []) :
    (enterHalted code causes s).port.reqs = (endActivity s).port.reqs ++
      [⟨.haltWrite, s.settings.wearBase, .write (wearWords (probe s 0)), true, s.port.epoch⟩] := by
  simp [enterHalted, h, hc, hg, hs, hq, firstClose, runHaltSeqs, issue, probe, probeOfNat]

end Sys2Proof.Machine

namespace Sys2Proof.Proofs

open Sys2Proof Sys2Proof.Machine

/-- Settles O19: HALTED entry block by block, the first wear record where no earlier entry has writes left. -/
theorem haltedEntryEffects : Obligations.HaltedEntryEffects := by
  unfold Obligations.HaltedEntryEffects
  intro code causes s
  refine ⟨enterHalted_of_halted, fun h => ?_⟩
  obtain ⟨q, hrc⟩ := enterHalted_rc code causes h
  obtain ⟨hfetch, hwindow, hdiv, hlog, -⟩ := enterHalted_blocks code causes h
  have hunit := enterHalted_unit code causes h
  refine ⟨by rw [hrc], by rw [hrc], by rw [hrc], hfetch, ?_, fun hm => ?_, hwindow, hdiv, enterHalted_link _ _ s,
    enterHalted_mem _ _ s, by rw [hlog], by rw [hrc], ?_, fun hc hg hs hq => ?_⟩
  · rw [hunit, abortMeasurement_step]
  · rw [hunit]
    exact (abortMeasurement_source hm).1
  · rintro rfl
    obtain ⟨hnotice, hlen⟩ := enterHalted_badAnchor_notice causes h
    exact ⟨by rw [hnotice], by rw [hnotice], hlen⟩
  · rw [enterHalted_wear causes h hc hg hs hq, List.getLast?_concat]
    rfl

end Sys2Proof.Proofs
end

section
/-! PROOFS. STOP, the parking of STOPPING and its completion. -/

namespace Sys2Proof.Machine

open Sys2Proof

/-! ## STOP taken (R25) -/

/-- STOP ends the activity of a run and enters STOPPING with the end code ABORTED. -/
theorem exec_stop_of_activity {s : State} (h1 : s.rc.run ≠ .idle) (h2 : s.rc.run ≠ .stopping) (h3 : s.rc.run ≠ .halted) :
    exec .stop s = .next (sealPort (settle (enterStopping .aborted (endActivity s)))) := by
  show execStop s = _
  unfold execStop
  split
  · rfl
  · rfl
  · rfl
  · rfl
  · rfl
  · rfl
  next h => exact absurd h h3
  next h => exact absurd h h1
  next h => exact absurd h h2

theorem exec_stop_of_halted {s : State} (h : s.rc.run = .halted) :
    exec .stop s = .next (sealPort (settle (enterStopping s.rc.endCode s))) := by
  show execStop s = _
  simp only [execStop, h]
  rfl

/-! ## A probe's PARK (R22, R25) -/

/-- A probe can be given a PARK in every state but under an order (R99, R108, R109). -/
theorem mayOrder_park_iff (p : ProbeNo) (s : State) :
    mayOrder p .park s = true ↔ (probe s p).order = none ∧ ¬OrdersBarred s := by
  rw [mayOrder_iff]
  simp [isPark]

theorem ordersBarred_iff (s : State) :
    OrdersBarred s ↔ s.link.stop ≠ none ∨ s.rc.guardLine.filtered = true ∨ s.link.up = false := by
  simp [OrdersBarred, guardOpen, Option.ne_none_iff_isSome]

theorem requestOrder_eq_none_iff (p : ProbeNo) (o : Order) (s : State) :
    requestOrder p o s = none ↔ mayOrder p o s = false := by
  cases h : mayOrder p o s <;> simp [requestOrder, h]

/-- The probe needs no PARK of the Run Controller's, its last one has failed, or none can be taken. -/
def ParkIdle (s : State) (p : ProbeNo) : Prop :=
  (probe s p).state = .parked ∨ s.rc.parking.get p = .failed ∨ mayOrder p .park s = false

theorem not_parkIdle_iff (s : State) (p : ProbeNo) : ¬ParkIdle s p ↔
    (probe s p).state ≠ .parked ∧ s.rc.parking.get p ≠ .failed ∧ mayOrder p .park s = true := by
  simp [ParkIdle]

theorem parkAll_of_idle {s : State} (h : ∀ p, ParkIdle s p) : parkAll s = s :=
  List.foldl_fixed' (fun p => (parkOne_eq p s).1 (h p)) allProbes

theorem probe_parkAll_of_idle {s : State} {p : ProbeNo} (h : ParkIdle s p) : probe (parkAll s) p = probe s p := by
  rw [(parkAll_at p s).1, (parkOne_eq p s).1 h]

/-- A probe given a PARK goes PARKING under that order, and the PARK is marked as the Run Controller's own. -/
theorem parkAll_of_not_idle {s : State} {p : ProbeNo} (h : ¬ParkIdle s p) :
    probe (parkAll s) p = orderedProbe s.settings .park (probe s p) ∧ (parkAll s).rc.parking.get p = .issued := by
  obtain ⟨h1, h2, h3⟩ := (not_parkIdle_iff s p).1 h
  obtain ⟨hp, hm⟩ := parkAll_at p s
  rw [hp, hm, (parkOne_eq p s).2 h1 h2 h3]
  exact ⟨probe_takeOrder_same p .park s, by simp [setParkMark]⟩

/-! ## The completion of STOPPING (R26) -/

theorem all_allProbes_iff (f : ProbeNo → Bool) : allProbes.all f = true ↔ ∀ p, f p = true := by
  have mem : ∀ p : ProbeNo, p ∈ allProbes := by decide
  rw [List.all_eq_true]
  exact ⟨fun h p => h p (mem p), fun h p _ => h p⟩

theorem noOrders_iff (s : State) : noOrders s = true ↔ (∀ p, (probe s p).order = none) ∧ s.link.stop = none := by
  rw [noOrders, Bool.and_eq_true, all_allProbes_iff, and_comm]
  simp

theorem allParked_iff (s : State) : allParked s = true ↔
    ∀ p, (probe s p).state = .parked ∨ ((probe s p).state = .faulted ∧ s.rc.parking.get p = .failed) := by
  rw [allParked, all_allProbes_iff]
  simp

/-- Nothing is left to wait for in STOPPING: no order, no write of an earlier HALTED entry, and no probe to park. -/
def StoppingOver (s : State) : Prop :=
  (∀ p, (probe s p).order = none) ∧ s.link.stop = none ∧ s.rc.haltSeqs = []
  ∧ ((∀ p, (probe s p).state = .parked ∨ ((probe s p).state = .faulted ∧ s.rc.parking.get p = .failed))
    ∨ s.rc.guardLine.filtered = true ∨ s.rc.parkGivenUp = true ∨ s.link.up = false)

theorem stoppingComplete_iff (s : State) : stoppingComplete s = true ↔ StoppingOver s := by
  simp [stoppingComplete, StoppingOver, noOrders_iff, allParked_iff, guardOpen, and_assoc, or_assoc]

/-- A STOPPING that is over gives no PARK: each probe is parked or its PARK has failed, or no PARK can be taken. -/
theorem stoppingParked_of_over {s : State} (h : StoppingOver s) : stoppingParked s = s := by
  obtain ⟨-, -, -, hwhy⟩ := h
  unfold stoppingParked
  split
  · rfl
  next hg =>
    refine parkAll_of_idle fun p => ?_
    rcases hwhy with hall | hopen | hgiven | hdown
    · exact (hall p).imp id fun hf => .inl hf.2
    · exact .inr (.inr (by simp [mayOrder, guardOpen, hopen]))
    · exact absurd hgiven hg
    · exact .inr (.inr (by simp [mayOrder, hdown]))

/-- A PARK just given is an order outstanding, so parking never completes STOPPING in the step that gives one. -/
theorem stoppingParked_of_no_orders {s : State} (h : ∀ p, (probe (stoppingParked s) p).order = none) :
    stoppingParked s = s := by
  unfold stoppingParked at h ⊢
  split
  · rfl
  next hg =>
    rw [if_neg hg] at h
    refine parkAll_of_idle fun p => ?_
    by_contra hp
    have hordered := h p
    rw [(parkAll_of_not_idle hp).1] at hordered
    cases hordered

theorem stoppingComplete_parked_iff (s : State) : stoppingComplete (stoppingParked s) = true ↔ StoppingOver s := by
  rw [stoppingComplete_iff]
  refine ⟨fun h => ?_, fun h => (stoppingParked_of_over h).symm ▸ h⟩
  rwa [stoppingParked_of_no_orders h.1] at h

theorem stoppingSettle_of_over {s : State} (h : s.rc.run = .stopping) (hq : s.rc.stopSeq = none) (ho : StoppingOver s) :
    stoppingSettle s =
      runStopPhase (firstClose (s.rc.loadedGood && decide (s.rc.pendingEnd ≠ .badAnchor)) s.rc.underWay) s := by
  rw [stoppingSettle_of_stopping h hq, if_pos ((stoppingComplete_parked_iff s).2 ho), stoppingParked_of_over ho]

theorem stoppingSettle_of_not_over {s : State} (h : s.rc.run = .stopping) (hq : s.rc.stopSeq = none) (ho : ¬StoppingOver s) :
    stoppingSettle s = stoppingParked s := by
  rw [stoppingSettle_of_stopping h hq, if_neg (mt (stoppingComplete_parked_iff s).1 ho)]

/-- Without a good anchor, or ended by a bad one, a run leaves the wear table alone (R36). -/
theorem noWear_of {s : State} (h : s.rc.loadedGood = false ∨ s.rc.pendingEnd = .badAnchor) :
    (s.rc.loadedGood && decide (s.rc.pendingEnd ≠ .badAnchor)) = false := by
  rcases h with h | h <;> simp [h]

theorem firstClose_of_wear {wear : Bool} (h : wear = true) (underWay : Bool) : firstClose wear underWay = .wear 0 := if_pos h

theorem firstClose_of_summary {wear underWay : Bool} (h : wear = false) (hu : underWay = true) :
    firstClose wear underWay = .summary := by
  rw [h, hu]
  rfl

theorem firstClose_of_notice {wear underWay : Bool} (h : wear = false) (hu : underWay = false) :
    firstClose wear underWay = .notice := by
  rw [h, hu]
  rfl

/-! ## The closing writes of STOPPING (R26) -/

theorem runStopPhase_notice_of_ring {s : State} (h : s.notice.inForce = true) : runStopPhase .notice s =
    requestNotice .runEnded (BitVec.ofNat 32 (endCodeCode s.rc.pendingEnd)) s.rc.endCauses .stopping
      { s with rc := { s.rc with stopSeq := some .notice } } := if_pos h

theorem runStopPhase_notice_of_no_ring {s : State} (h : s.notice.inForce = false) : runStopPhase .notice s =
    finishStopping { s with rc := { s.rc with stopSeq := some .notice } } := if_neg (by simp [h])

/-- The last closing step requests RUN_ENDED or, without the notice ring, ends STOPPING. -/
theorem runStopPhase_notice (s : State) :
    (s.notice.inForce = true → (runStopPhase .notice s).rc = { s.rc with stopSeq := some .notice }
      ∧ (s.notice.queue.length < 16 → (runStopPhase .notice s).notice.queue = s.notice.queue ++
        [⟨.runEnded, BitVec.ofNat 32 (endCodeCode s.rc.pendingEnd), s.rc.endCauses, s.rc.time, .stopping⟩])
      ∧ (16 ≤ s.notice.queue.length → (runStopPhase .notice s).notice.held = s.notice.held ++
        [⟨.runEnded, BitVec.ofNat 32 (endCodeCode s.rc.pendingEnd), s.rc.endCauses, s.rc.time, .stopping⟩]))
    ∧ (s.notice.inForce = false → (runStopPhase .notice s).rc.run = .idle
      ∧ (runStopPhase .notice s).rc.endCode = s.rc.pendingEnd ∧ (runStopPhase .notice s).notice.pend.runEnd = true) := by
  refine ⟨fun hi => ?_, fun hi => ?_⟩
  · rw [runStopPhase_notice_of_ring hi]
    obtain ⟨-, hqueued, hheld⟩ := requestNotice_requested .runEnded (BitVec.ofNat 32 (endCodeCode s.rc.pendingEnd))
      s.rc.endCauses .stopping { s with rc := { s.rc with stopSeq := some .notice } }
    exact ⟨requestNotice_rc _ _ _ _ _, fun hl => (hqueued hi hl).1, fun hl => (hheld hi hl).2⟩
  · rw [runStopPhase_notice_of_no_ring hi]
    exact ⟨rfl, rfl, rfl⟩

/-- STOPPING has begun its closing writes, or has ended, exactly where nothing was left to wait for. -/
theorem stoppingSettle_closes_iff {s : State} (h : s.rc.run = .stopping) (hq : s.rc.stopSeq = none) :
    (stoppingSettle s).rc.stopSeq ≠ none ∨ (stoppingSettle s).rc.run = .idle ↔ StoppingOver s := by
  by_cases ho : StoppingOver s
  · rw [stoppingSettle_of_over h hq ho]
    refine iff_of_true ?_ ho
    rcases runStopPhase_rc (firstClose (s.rc.loadedGood && decide (s.rc.pendingEnd ≠ .badAnchor)) s.rc.underWay) s with hr | hr
    · exact .inl (by rw [hr]; exact Option.some_ne_none _)
    · exact .inr (by rw [hr])
  · obtain ⟨m, hm⟩ := stoppingParked_rc s
    rw [stoppingSettle_of_not_over h hq ho, hm]
    exact iff_of_false (by simp [hq, h]) ho

/-- A probe that is parked, whose PARK has failed, or that cannot be given one stays as it was. -/
theorem probe_stoppingSettle_of_idle {s : State} (h : s.rc.run = .stopping) (hq : s.rc.stopSeq = none) {p : ProbeNo}
    (hp : ParkIdle s p ∨ s.rc.parkGivenUp = true) : probe (stoppingSettle s) p = probe s p := by
  by_cases ho : StoppingOver s
  · rw [stoppingSettle_of_over h hq ho, probe, runStopPhase_link, probe]
  · rw [stoppingSettle_of_not_over h hq ho, stoppingParked]
    split
    · rfl
    next hg => exact probe_parkAll_of_idle (hp.resolve_right hg)

/-- A probe that can be given a PARK keeps STOPPING from being over. -/
theorem not_stoppingOver_of_not_idle {s : State} {p : ProbeNo} (hg : s.rc.parkGivenUp = false) (hp : ¬ParkIdle s p) :
    ¬StoppingOver s := by
  intro ho
  obtain ⟨h1, h2, h3⟩ := (not_parkIdle_iff s p).1 hp
  have hbar := ((mayOrder_park_iff p s).1 h3).2
  obtain ⟨-, -, -, hall | hopen | hgiven | hdown⟩ := ho
  · exact (hall p).elim h1 fun hf => h2 hf.2
  · exact hbar ((ordersBarred_iff s).2 (.inr (.inl hopen)))
  · exact absurd hgiven (by simp [hg])
  · exact hbar ((ordersBarred_iff s).2 (.inr (.inr hdown)))

theorem stoppingSettle_of_not_idle {s : State} (h : s.rc.run = .stopping) (hq : s.rc.stopSeq = none) {p : ProbeNo}
    (hg : s.rc.parkGivenUp = false) (hp : ¬ParkIdle s p) :
    probe (stoppingSettle s) p = orderedProbe s.settings .park (probe s p) ∧ (stoppingSettle s).rc.parking.get p = .issued := by
  rw [stoppingSettle_of_not_over h hq (not_stoppingOver_of_not_idle hg hp), stoppingParked, if_neg (by simp [hg])]
  exact parkAll_of_not_idle hp

end Sys2Proof.Machine

namespace Sys2Proof.Proofs

open Sys2Proof Sys2Proof.Machine

/-- Settles O14: what STOP ends is `endActivity`; a probe is parked unless it is `ParkIdle`; STOPPING completes exactly where it
is `StoppingOver`, and then no PARK is given in the same step. -/
theorem stopEntersStopping : Obligations.StopEntersStopping := by
  unfold Obligations.StopEntersStopping
  refine ⟨fun s => ⟨fun h1 h2 h3 => ⟨_, exec_stop_of_activity h1 h2 h3, rfl, rfl, endActivity_window s, ?_, fun hm => ?_,
    endActivity_div s, ?_, endActivity_fetch s, endActivity_link s, endActivity_mem s, ?_, ?_, rfl, rfl, rfl,
    endActivity_reqs_length s⟩, exec_stop_of_halted⟩, fun s h hq => ⟨fun p => ⟨fun hp => ?_, fun h1 h2 hg h3 h4 h5 h6 => ?_⟩,
    stoppingSettle_closes_iff h hq, fun h1 h2 h3 h4 => ?_⟩⟩
  · rw [show (enterStopping .aborted (endActivity s)).unit = (endActivity s).unit from rfl, endActivity_unit_eq,
      abortMeasurement_step]
  · rw [show (enterStopping .aborted (endActivity s)).unit = (endActivity s).unit from rfl, endActivity_unit_eq]
    exact abortMeasurement_source hm
  · rw [show (enterStopping .aborted (endActivity s)).log = (endActivity s).log from rfl, endActivity_log]
  · simp [enterStopping]
  · simp [enterStopping]
  · refine probe_stoppingSettle_of_idle h hq ?_
    rw [requestOrder_eq_none_iff] at hp
    rcases hp with hp | hp | hp | hp
    · exact .inl (.inl hp)
    · exact .inl (.inr (.inl hp))
    · exact .inr hp
    · exact .inl (.inr (.inr hp))
  · have hmay : mayOrder p .park s = true := (mayOrder_park_iff p s).2 ⟨h3, by simp [ordersBarred_iff, h4, h5, h6]⟩
    exact stoppingSettle_of_not_idle h hq hg ((not_parkIdle_iff s p).2 ⟨h1, h2, hmay⟩)
  · rw [stoppingSettle_of_over h hq ⟨h1, h2, h3, h4⟩]
    refine ⟨fun hl hb => ?_, fun hn hu => ?_, fun hn hu => ?_⟩
    · rw [firstClose_of_wear (by simp [hl, hb])]
      rfl
    · rw [firstClose_of_summary (noWear_of hn) hu]
      rfl
    · rw [firstClose_of_notice (noWear_of hn) hu]
      obtain ⟨hring, hnoring⟩ := runStopPhase_notice s
      exact ⟨fun hi => ⟨(hring hi).1, (hring hi).2.1⟩, hnoring⟩

end Sys2Proof.Proofs
end

section
/-! PROOFS. Held entries released with the window empty, and the area-completion writes with the move after them. -/

namespace Sys2Proof.Machine

open Sys2Proof

/-! ## Held RETURN, END and PAUSE (R46, R47, R48) -/

theorem popFrame_of_append {s : State} {fs : List Frame} {f : Frame} (h : s.fetch.stack = fs ++ [f]) : popFrame s =
    { s with fetch := { s.fetch with held := none, list := f.list, index := f.index, stack := fs } } := by
  simp [popFrame, h]

/-- Without the notice ring a request comes to nothing (R179). -/
theorem requestNotice_of_no_ring {k : NoticeKind} {x y : Word} {m : NoticeMark} {s : State} (h : s.notice.inForce = false) :
    requestNotice k x y m s = s := if_pos (by simp [h])

theorem exec_returnReleased_of_held {s : State} (hh : s.fetch.held = some .ret) (hm : mayRelease s = true) :
    exec .returnReleased s = .next (sealPort (settle (popFrame s))) := if_pos ⟨hh, hm⟩

theorem exec_endDrained_of_held {s : State} (hh : s.fetch.held = some .endOfArea) (hm : mayRelease s = true) :
    exec .endDrained s = .next (sealPort (settle
      (issue .areaWrite (currentRunWord s + 0x20) (.write (summaryWords s.rc.summary)) { s with
        fetch := { s.fetch with held := none, stopped := true }, rc := { s.rc with areaSeq := some .summary } }))) :=
  if_pos ⟨hh, hm⟩

/-- PAUSED as a held PAUSE enters it: the fetcher stopped at the entry after it (R48). -/
def pauseReleased (s : State) : State := { s with
  fetch := { s.fetch with held := none, stopped := true, index := s.fetch.index + 1 }
  rc := { s.rc with run := .paused } }

theorem exec_pauseDrained_of_held {s : State} (hh : s.fetch.held = some .pause) (hm : mayRelease s = true) :
    exec .pauseDrained s = .next (sealPort (settle (requestNotice .paused 0 0 .plain (pauseReleased s)))) := if_pos ⟨hh, hm⟩

/-! ## A notice that something waits for is written (R21, R26, R180) -/

theorem frontMark_of {s : State} {n : Notice} {q : List Notice} {m : NoticeMark} (hq : s.notice.queue = n :: q)
    (hm : n.mark = m) : frontMark s m = true := by
  simp [frontMark, hq, hm]

theorem completeNotice_of_live {s s1 : State} {r : Request} {ws : List Word} (h : serve .notice s = some (r, ws, s1))
    (hl : r.live = true) : completeNotice s = some (noticeWritten s1) := by
  simp [completeNotice, h, hl]

/-- The front notice written: the fill index has advanced, and then what waits for the notice goes on. -/
theorem noticeWritten_eq {s : State} {n : Notice} {q : List Notice} (h : s.notice.queue = n :: q) :
    ∃ t, noticeWritten s = startNotice (afterNotice n.mark t) ∧ t.rc = s.rc
      ∧ t.notice.fill = (s.notice.fill + 1) % 128 := by
  refine ⟨_, by rw [noticeWritten, h], ?_, ?_⟩
  · dsimp only
    split <;> rfl
  · dsimp only
    split <;> rfl

/-- Serving a request leaves the notices as they were. -/
theorem serve_notice {k : ReqKind} {s s1 : State} {r : Request} {ws : List Word} (h : serve k s = some (r, ws, s1)) :
    s1.notice = s.notice := by
  obtain ⟨m, q, rfl⟩ := serve_eq h
  rfl

/-! ## The area-completion writes (R21) -/

theorem exec_areaWriteComplete_of_write {s s1 : State} {r : Request} {ws : List Word}
    (h : serve .areaWrite s = some (r, ws, s1)) (hl : r.live = true) (hn : s.rc.areaSeq ≠ some .notice) :
    exec .areaWriteComplete s = .next (sealPort (settle (areaWritten s1))) := by
  show execAreaWriteComplete s = _
  rw [execAreaWriteComplete, if_neg fun hc => hn hc.1, h]
  exact if_pos hl

theorem exec_areaWriteComplete_of_notice {s s1 : State} {r : Request} {ws : List Word} {n : Notice} {q : List Notice}
    (h : serve .notice s = some (r, ws, s1)) (hl : r.live = true) (ha : s.rc.areaSeq = some .notice)
    (hq : s.notice.queue = n :: q) (hm : n.mark = .area) :
    exec .areaWriteComplete s = .next (sealPort (settle (noticeWritten s1))) := by
  show execAreaWriteComplete s = _
  rw [execAreaWriteComplete, if_pos ⟨ha, frontMark_of hq hm⟩, completeNotice_of_live h hl]
  rfl

theorem areaWritten_of_summary {s : State} (h : s.rc.areaSeq = some .summary) : areaWritten s = areaWrite .ready 0x00 0 s := by
  rw [areaWritten, h]

theorem areaWritten_of_ready {s : State} (h : s.rc.areaSeq = some .ready) :
    areaWritten s = areaWrite .doneCount 0x1C (s.rc.doneCount + 1) s := by
  rw [areaWritten, h]

theorem areaWritten_of_doneCount {s : State} (h : s.rc.areaSeq = some .doneCount) : areaWritten s = areaNotice s := by
  rw [areaWritten, h]

/-- The AREA_DONE notice is requested, and the area's completion waits for it only while the ring is in force. -/
theorem areaNotice_requested (s : State) :
    (areaNotice s).rc = { s.rc with areaSeq := some (if s.notice.inForce then .notice else .move) }
    ∧ NoticeRequested ⟨.areaDone, BitVec.ofNat 32 (areaCode s.rc.area), s.rc.doneCount + 1, s.rc.time, .area⟩ s
      (areaNotice s) :=
  ⟨requestNotice_rc _ _ _ _ _, requestNotice_requested _ _ _ _
    { s with rc := { s.rc with areaSeq := some (if s.notice.inForce then .notice else .move) } }⟩

/-! ## The move after an area (R21, R22, R23) -/

theorem areaMove_of_finished {s : State} (h : s.rc.areaSeq = some .move) (hr : s.rc.run = .running)
    (hf : s.rc.follow = false) : areaMove s = enterStopping .finished { s with rc := { s.rc with areaSeq := none } } := by
  rw [areaMove_of_move h hr, if_neg (by simp [hf])]

theorem areaMove_of_change {s : State} (h : s.rc.areaSeq = some .move) (hr : s.rc.run = .running)
    (hf : s.rc.follow = true) (hb : s.rc.boardChange = true) :
    areaMove s = enterBoardChange { s with rc := { s.rc with areaSeq := none } } := by
  rw [areaMove_of_move h hr, if_pos hf, if_pos hb]

theorem areaMove_of_chain {s : State} (h : s.rc.areaSeq = some .move) (hr : s.rc.run = .running)
    (hf : s.rc.follow = true) (hb : s.rc.boardChange = false) :
    areaMove s = enterChainWait { s with rc := { s.rc with areaSeq := none } } := by
  rw [areaMove_of_move h hr, if_pos hf, if_neg (by simp [hb])]

theorem enterBoardChange_requested (s : State) :
    NoticeRequested ⟨.boardWaitEntered, 2, 0, s.rc.time, .plain⟩ s (enterBoardChange s) :=
  requestNotice_requested .boardWaitEntered 2 0 .plain { s with rc := { s.rc with
    run := .boardWait, waitKind := .change, seenAbsent := !boardPresent s, parking := Per.all .none } }

theorem enterChainWait_requested (s : State) :
    NoticeRequested ⟨.chainWaitEntered, BitVec.ofNat 32 (areaCode s.rc.area.other), 0, s.rc.time, .plain⟩ s
      (enterChainWait s) :=
  requestNotice_requested .chainWaitEntered (BitVec.ofNat 32 (areaCode s.rc.area.other)) 0 .plain
    { s with rc := { s.rc with run := .chainWait, readyAgain := false } }

@[simp] theorem requestNotice_epoch (k : NoticeKind) (x y : Word) (m : NoticeMark) (s : State) :
    (requestNotice k x y m s).port.epoch = s.port.epoch := by
  obtain ⟨more, h⟩ := requestNotice_eq k x y m s
  rw [h]

/-- CHAIN_WAIT begins with a read of the other area's READY flag (R23). -/
theorem enterChainWait_ready (s : State) : (enterChainWait s).port.reqs.getLast? =
    some ⟨.ready, runWordAddr s.settings.anchorBase s.rc.area.other, .read 1, true, s.port.epoch⟩ := by
  simp [enterChainWait, readReady, issue]

end Sys2Proof.Machine

namespace Sys2Proof.Proofs

open Sys2Proof Sys2Proof.Machine

/-- Settles O15: each held entry's row is taken, the window being empty in RUNNING. -/
theorem heldEntriesReleased : Obligations.HeldEntriesReleased := by
  unfold Obligations.HeldEntriesReleased
  refine ⟨fun s fs f hh hw hr hs => ?_, fun s hh hw hr => ?_, fun s hh hw hr => ?_⟩
  · rw [exec_returnReleased_of_held hh ((mayRelease_iff s).2 ⟨hw, hr⟩), popFrame_of_append hs]
  · exact exec_endDrained_of_held hh ((mayRelease_iff s).2 ⟨hw, hr⟩)
  · exact ⟨_, exec_pauseDrained_of_held hh ((mayRelease_iff s).2 ⟨hw, hr⟩), requestNotice_rc _ _ _ _ _,
      requestNotice_fetch _ _ _ _ _, requestNotice_link _ _ _ _ _, requestNotice_mem _ _ _ _ _,
      (requestNotice_window _ _ _ _ _).trans hw, requestNotice_unit _ _ _ _ _, requestNotice_div _ _ _ _ _,
      requestNotice_log _ _ _ _ _, requestNotice_inForce _ _ _ _ _, requestNotice_pend _ _ _ _ _,
      requestNotice_requested _ _ _ _ (pauseReleased s),
      fun hi => by rw [requestNotice_of_no_ring (s := pauseReleased s) hi]; rfl⟩

/-- Settles O16: each area-completion write leads to the next, the last to the notice, and the notice to the move. -/
theorem areaWritesAndMove : Obligations.AreaWritesAndMove := by
  unfold Obligations.AreaWritesAndMove
  refine ⟨fun s => ⟨fun s1 r ws h hl => ?_, fun s1 r ws n q h hl ha hq hm => ?_⟩, fun s ha hr => ?_, rfl, rfl⟩
  · have hrc := serve_rc h
    refine ⟨fun ha => ?_, fun ha => ?_, fun ha => ?_⟩
    · rw [exec_areaWriteComplete_of_write h hl (by simp [ha]), areaWritten_of_summary (hrc.symm ▸ ha)]
      rfl
    · rw [exec_areaWriteComplete_of_write h hl (by simp [ha]), areaWritten_of_ready (hrc.symm ▸ ha)]
      rfl
    · obtain ⟨hu, hnone, hqueued, hheld⟩ := areaNotice_requested s1
      refine ⟨areaNotice s1, ?_, requestNotice_mem _ _ _ _ _, hu, requestNotice_link _ _ _ _ _,
        requestNotice_window _ _ _ _ _, requestNotice_fetch _ _ _ _ _, fun hi hl => (hqueued hi hl).1,
        fun hi hl => (hheld hi hl).2, hnone⟩
      rw [exec_areaWriteComplete_of_write h hl (by simp [ha]), areaWritten_of_doneCount (hrc.symm ▸ ha)]
  · obtain ⟨t, ht, htrc, hfill⟩ := noticeWritten_eq ((serve_notice h).symm ▸ hq)
    refine ⟨_, exec_areaWriteComplete_of_notice h hl ha hq hm, ?_, noticeWritten_mem s1, ?_⟩
    · rw [ht, hm, startNotice_rc, afterNotice, htrc]
    · rw [ht, hm, startNotice_notice, ← serve_notice h]
      exact hfill
  · refine ⟨fun hf => ?_, fun hf hb => ?_, fun hf hb => ?_, areaMove_mem s, areaMove_window s, areaMove_link s⟩
    · rw [areaMove_of_finished ha hr hf]
      exact ⟨rfl, rfl, rfl, rfl, rfl, rfl⟩
    · rw [areaMove_of_change ha hr hf hb, enterBoardChange_rc]
      exact ⟨rfl, rfl, rfl, rfl, enterBoardChange_requested { s with rc := { s.rc with areaSeq := none } }⟩
    · rw [areaMove_of_chain ha hr hf hb]
      exact ⟨by rw [enterChainWait_rc], enterChainWait_ready _,
        enterChainWait_requested { s with rc := { s.rc with areaSeq := none } }⟩

end Sys2Proof.Proofs
end

section
/-! PROOFS. When a BOARD_WAIT goes on and when it ends, and the parking of a board change. -/

namespace Sys2Proof.Machine

open Sys2Proof

theorem NoticeRequested.congr {n : Notice} {s t u : State} (h : s.notice = t.notice) (hn : NoticeRequested n s u) :
    NoticeRequested n t u := by
  unfold NoticeRequested
  rw [← h]
  exact hn

/-! ## The board-change wait (R22) -/

theorem boardChangeOver_iff (s : State) : boardChangeOver s = true ↔
    (∀ p, (probe s p).state = .parked ∨ s.rc.parking.get p = .failed) ∧ s.rc.seenAbsent = true
    ∧ s.rc.boardLine.filtered = true := by
  rw [boardChangeOver, Bool.and_eq_true, Bool.and_eq_true, all_allProbes_iff, and_assoc]
  simp [boardPresent]

@[simp] theorem changeParked_notice (s : State) : (changeParked s).notice = s.notice := parkAll_notice _
@[simp] theorem changeParked_port (s : State) : (changeParked s).port = s.port := parkAll_port _

theorem parkIdle_absenceNoted (s : State) (p : ProbeNo) : ParkIdle (absenceNoted s) p ↔ ParkIdle s p := Iff.rfl

theorem changeParked_of_idle {s : State} {p : ProbeNo} (h : ParkIdle s p) :
    probe (changeParked s) p = probe s p ∧ (changeParked s).rc.parking.get p = s.rc.parking.get p := by
  rw [← parkIdle_absenceNoted] at h
  unfold changeParked
  rw [(parkAll_at p (absenceNoted s)).1, (parkAll_at p (absenceNoted s)).2, (parkOne_eq p (absenceNoted s)).1 h]
  exact ⟨rfl, rfl⟩

theorem changeParked_of_not_idle {s : State} {p : ProbeNo} (h : ¬ParkIdle s p) :
    probe (changeParked s) p = orderedProbe s.settings .park (probe s p)
    ∧ (changeParked s).rc.parking.get p = .issued := by
  rw [← parkIdle_absenceNoted] at h
  unfold changeParked
  rw [(parkAll_of_not_idle h).1, (parkAll_of_not_idle h).2]
  exact ⟨rfl, rfl⟩

theorem changeParked_of_all_idle {s : State} (h : ∀ p, ParkIdle s p) : changeParked s = absenceNoted s :=
  parkAll_of_idle fun p => (parkIdle_absenceNoted s p).2 (h p)

/-- Giving the probes their PARKs marks none of them as failed. -/
theorem failed_of_changeParked_failed {s : State} {p : ProbeNo} (h : (changeParked s).rc.parking.get p = .failed) :
    s.rc.parking.get p = .failed := by
  by_cases hp : ParkIdle s p
  · rwa [(changeParked_of_idle hp).2] at h
  · rw [(changeParked_of_not_idle hp).2] at h
    cases h

/-- Whether or not the wait ends, the probes and the marks are those after the parking. -/
theorem boardSettle_change_parking {s : State} (h : s.rc.run = .boardWait) (hk : s.rc.waitKind = .change) :
    (∀ p, probe (boardSettle s) p = probe (changeParked s) p) ∧ (boardSettle s).rc.parking = (changeParked s).rc.parking
    ∧ (boardSettle s).rc.seenAbsent = (s.rc.seenAbsent || !boardPresent s) := by
  obtain ⟨m, hm⟩ := changeParked_rc s
  rw [boardSettle_of_change h hk]
  split
  · exact ⟨fun p => by rw [probe, enterChainWait_link, probe], by rw [enterChainWait_rc], by rw [enterChainWait_rc, hm]⟩
  · exact ⟨fun _ => rfl, rfl, by rw [hm]⟩

/-- A board-change wait ends exactly where it is judged over. -/
theorem boardSettle_change_run {s : State} (h : s.rc.run = .boardWait) (hk : s.rc.waitKind = .change) :
    (boardChangeOver (changeParked s) = true ∧ boardSettle s = enterChainWait (changeParked s)
      ∧ (boardSettle s).rc.run = .chainWait)
    ∨ (boardSettle s = changeParked s ∧ (boardSettle s).rc.run = .boardWait) := by
  obtain ⟨m, hm⟩ := changeParked_rc s
  rw [boardSettle_of_change h hk]
  split
  next ho => exact .inl ⟨ho, rfl, by rw [enterChainWait_rc]⟩
  · exact .inr ⟨rfl, by rw [hm, h]⟩

/-- What holds where a board-change wait ends: the board is back, every probe is parked or given up, and the notice is
requested. -/
theorem boardSettle_change_ended {s : State} (h : s.rc.run = .boardWait) (hk : s.rc.waitKind = .change)
    (hr : (boardSettle s).rc.run = .chainWait) :
    s.rc.boardLine.filtered = true ∧ s.rc.seenAbsent = true
    ∧ (∀ p, (probe (boardSettle s) p).state = .parked ∨ s.rc.parking.get p = .failed)
    ∧ NoticeRequested ⟨.chainWaitEntered, BitVec.ofNat 32 (areaCode s.rc.area.other), 0, s.rc.time, .plain⟩ s
      (boardSettle s) := by
  obtain ⟨m, hm⟩ := changeParked_rc s
  rcases boardSettle_change_run h hk with ⟨ho, heq, -⟩ | ⟨-, hw⟩
  · obtain ⟨hall, hseen, hpresent⟩ := (boardChangeOver_iff _).1 ho
    rw [hm] at hseen hpresent
    dsimp only at hseen hpresent
    have hn := (enterChainWait_requested (changeParked s)).congr (changeParked_notice s)
    rw [hm, ← heq] at hn
    refine ⟨hpresent, by simpa [boardPresent, hpresent] using hseen, fun p => ?_, hn⟩
    rw [(boardSettle_change_parking h hk).1 p]
    exact (hall p).imp id failed_of_changeParked_failed
  · rw [hw] at hr
    cases hr

/-- With the board back after an absence and every probe parked or given up, a board-change wait does end. -/
theorem boardSettle_change_ends {s : State} (h : s.rc.run = .boardWait) (hk : s.rc.waitKind = .change)
    (hb : s.rc.boardLine.filtered = true) (hs : s.rc.seenAbsent = true)
    (hp : ∀ p, (probe s p).state = .parked ∨ s.rc.parking.get p = .failed) :
    boardSettle s = enterChainWait (absenceNoted s) := by
  have hq := changeParked_of_all_idle fun p => (hp p).imp id .inl
  have ho : boardChangeOver (changeParked s) = true := by
    rw [hq]
    exact (boardChangeOver_iff _).2 ⟨hp, by simp [absenceNoted, hs], hb⟩
  rw [boardSettle_of_change h hk, if_pos ho, hq]

end Sys2Proof.Machine

namespace Sys2Proof.Proofs

open Sys2Proof Sys2Proof.Machine

/-- Settles O17: each wait for a board to be seated by its kind, and the board-change wait by whether it is judged over. -/
theorem boardWaitEnds : Obligations.BoardWaitEnds := by
  unfold Obligations.BoardWaitEnds
  intro s h
  refine ⟨fun hk hb => ?_, fun hk hb => ?_, fun hk hb => ?_, fun hk => ⟨boardSettle_change_ended h hk, fun hr => ?_,
    fun p => ⟨fun hp => ?_, fun h1 h2 h3 h4 h5 h6 => ?_⟩, ?_, fun hb => ?_, fun hb hs hp => ?_⟩⟩
  · cases hw : s.rc.waitKind with
    | seatAtStart => rw [boardSettle_of_start h hw, if_neg (by simp [boardPresent, hb])]
    | seatAtSwitch => rw [boardSettle_of_switch h hw, if_neg (by simp [boardPresent, hb])]
    | change => exact absurd hw hk
  · rw [boardSettle_of_switch h hk]
    exact if_pos hb
  · have heq : boardSettle s = { runBegin s with rc := { (runBegin s).rc with run := .running } } := by
      rw [boardSettle_of_start h hk]
      exact if_pos hb
    refine ⟨heq, ?_⟩
    rw [heq]
    simp
  · rcases boardSettle_change_run h hk with ⟨-, -, hc⟩ | ⟨heq, -⟩
    · rw [hc] at hr
      cases hr
    · rw [heq]
      exact ⟨changeParked_notice s, changeParked_port s⟩
  · rw [requestOrder_eq_none_iff] at hp
    rw [(boardSettle_change_parking h hk).1 p, (changeParked_of_idle hp).1]
  · obtain ⟨hprobe, hmarks, -⟩ := boardSettle_change_parking h hk
    have hmay : mayOrder p .park s = true := (mayOrder_park_iff p s).2 ⟨h3, by simp [ordersBarred_iff, h4, h5, h6]⟩
    rw [hprobe, hmarks]
    exact changeParked_of_not_idle ((not_parkIdle_iff s p).2 ⟨h1, h2, hmay⟩)
  · exact (boardSettle_change_run h hk).imp (fun hc => hc.2.2) fun hc => hc.2
  · rw [(boardSettle_change_parking h hk).2.2]
    simp [boardPresent, hb]
  · rw [boardSettle_change_ends h hk hb hs hp]
    exact ⟨by rw [enterChainWait_rc], enterChainWait_link _, enterChainWait_ready _⟩

end Sys2Proof.Proofs
end

section
/-! PROOFS. The closing writes of STOPPING and of a HALTED entry in their order, and their RUN_ENDED notice. -/

namespace Sys2Proof.Machine

open Sys2Proof

/-! ## The order of the closing writes (R26, R27) -/

theorem nextClose_of_wear {p : Nat} (h : p < 7) (underWay : Bool) : nextClose underWay (.wear p) = .wear (p + 1) := if_pos h

theorem nextClose_of_last_wear (underWay : Bool) :
    nextClose underWay (.wear 7) = if underWay then .summary else .notice := rfl

/-- After the summary, or after the last wear record of an activity with no run under way, the notice is due. -/
theorem nextClose_of_end {underWay : Bool} {ph : ClosePhase} (h : ph = .summary ∨ (ph = .wear 7 ∧ underWay = false)) :
    nextClose underWay ph = .notice := by
  rcases h with rfl | ⟨rfl, rfl⟩
  · rfl
  · rfl

/-! ## The closing writes of STOPPING (R26) -/

/-- A closing write that completes leads to the next closing step. -/
theorem exec_stoppingWriteComplete_of_write {s s1 : State} {r : Request} {ws : List Word} {ph : ClosePhase}
    (h : serve .stoppingWrite s = some (r, ws, s1)) (hl : r.live = true) (hq : s.rc.stopSeq = some ph) (hn : ph ≠ .notice) :
    exec .stoppingWriteComplete s = .next (sealPort (settle (runStopPhase (nextClose s.rc.underWay ph) s1))) := by
  have hw : stoppingWritten s1 = runStopPhase (nextClose s.rc.underWay ph) s1 := by
    rw [stoppingWritten, serve_rc h, hq]
    cases ph with
    | wear p => rfl
    | summary => rfl
    | notice => exact absurd rfl hn
  show execStoppingWriteComplete s = _
  rw [execStoppingWriteComplete, if_neg fun hc => hn (Option.some.inj (hq.symm.trans hc.1)), h, ← hw]
  exact if_pos hl

theorem exec_stoppingWriteComplete_of_notice {s s1 : State} {r : Request} {ws : List Word} {n : Notice} {q : List Notice}
    (h : serve .notice s = some (r, ws, s1)) (hl : r.live = true) (hs : s.rc.stopSeq = some .notice)
    (hq : s.notice.queue = n :: q) (hm : n.mark = .stopping) :
    exec .stoppingWriteComplete s = .next (sealPort (settle (noticeWritten s1))) := by
  show execStoppingWriteComplete s = _
  rw [execStoppingWriteComplete, if_pos ⟨hs, frontMark_of hq hm⟩, completeNotice_of_live h hl]
  rfl

/-- The RUN_ENDED notice of STOPPING written, STOPPING ends in IDLE with the pending end code, and RUN_END is pending. -/
theorem noticeWritten_of_stopping {s : State} {n : Notice} {q : List Notice} (hq : s.notice.queue = n :: q)
    (hm : n.mark = .stopping) : (noticeWritten s).rc.run = .idle ∧ (noticeWritten s).rc.endCode = s.rc.pendingEnd
      ∧ (noticeWritten s).rc.underWay = false ∧ (noticeWritten s).notice.pend.runEnd = true := by
  obtain ⟨t, ht, htrc, -⟩ := noticeWritten_eq hq
  rw [ht, hm, startNotice_rc, startNotice_notice, afterNotice, finishStopping_rc, htrc]
  exact ⟨rfl, rfl, rfl, rfl⟩

/-! ## The closing writes of a HALTED entry (R27) -/

/-- A write of the only HALTED entry with writes left leads to its next closing step. -/
theorem exec_haltWriteComplete_of_write {s s1 : State} {r : Request} {ws : List Word} {h : HaltSeq}
    (hs : serve .haltWrite s = some (r, ws, s1)) (hq : s.rc.haltSeqs = [h]) : exec .haltWriteComplete s =
      .next (sealPort (settle (runHaltSeqs [{ h with phase := nextClose h.underWay h.phase }] s1))) := by
  have ha : advanceHalt s1 = runHaltSeqs [{ h with phase := nextClose h.underWay h.phase }] s1 := by
    rw [advanceHalt, serve_rc hs, hq]
  show execHaltWriteComplete s = _
  rw [execHaltWriteComplete, if_neg (by simp [hq]), hs, ← ha]
  rfl

/-- As RUN_ENDED is requested after a HALTED entry, RUN_END is pending and the entry has nothing left to write. -/
theorem runHaltSeqs_of_notice {h : HaltSeq} (hp : h.phase = .notice) (s : State) : runHaltSeqs [h] s =
    { requestNotice .runEnded (BitVec.ofNat 32 (endCodeCode h.endCode)) h.causes .halt (pendRunEnd s) with
      rc := { s.rc with haltSeqs := [] } } := by
  rw [runHaltSeqs, hp]
  dsimp only
  rw [runHaltSeqs, requestNotice_rc]
  rfl

end Sys2Proof.Machine

namespace Sys2Proof.Proofs

open Sys2Proof Sys2Proof.Machine

/-- Settles O20: each closing write by the phase it completes, for STOPPING and for a HALTED entry. -/
theorem closingWritesInOrder : Obligations.ClosingWritesInOrder := by
  unfold Obligations.ClosingWritesInOrder
  refine ⟨fun s => ⟨fun s1 r ws h hl => ⟨fun p hq hp => ?_, fun hq hu => ?_, fun hq => ?_⟩, fun s1 r ws n q h hl hs hq hm => ?_⟩,
    fun s s1 r ws h hs hq => ⟨fun p hp hlt => ?_, fun hp hu => ?_, fun hp => ?_⟩, fun _ => rfl⟩
  · rw [exec_stoppingWriteComplete_of_write h hl hq nofun, nextClose_of_wear hp]
    rfl
  · rw [exec_stoppingWriteComplete_of_write h hl hq nofun, nextClose_of_last_wear, if_pos hu]
    rfl
  · obtain ⟨ph, hph, hend, hn⟩ : ∃ ph, s.rc.stopSeq = some ph ∧ nextClose s.rc.underWay ph = .notice ∧ ph ≠ .notice := by
      rcases hq with hq | ⟨hq, hu⟩
      · exact ⟨_, hq, nextClose_of_end (.inl rfl), nofun⟩
      · exact ⟨_, hq, nextClose_of_end (.inr ⟨rfl, hu⟩), nofun⟩
    obtain ⟨hring, hnoring⟩ := runStopPhase_notice s1
    rw [serve_rc h] at hnoring
    exact ⟨_, by rw [exec_stoppingWriteComplete_of_write h hl hph hn, hend], runStopPhase_mem _ s1, hring, hnoring⟩
  · obtain ⟨hrun, hcode, hunder, hpend⟩ := noticeWritten_of_stopping ((serve_notice h).symm ▸ hq) hm
    exact ⟨_, exec_stoppingWriteComplete_of_notice h hl hs hq hm, noticeWritten_mem s1, hrun, by rw [hcode, serve_rc h], hunder,
      hpend⟩
  · rw [exec_haltWriteComplete_of_write hs hq, hp, nextClose_of_wear hlt]
    rfl
  · rw [exec_haltWriteComplete_of_write hs hq, hp, nextClose_of_last_wear, if_pos hu]
    rfl
  · rw [exec_haltWriteComplete_of_write hs hq, nextClose_of_end hp, runHaltSeqs_of_notice rfl]
    refine ⟨_, rfl, rfl, by simp [pendRunEnd], by simp [pendRunEnd], fun hi hlen => ?_⟩
    exact requestNotice_queue (s := pendRunEnd s1) hi hlen

end Sys2Proof.Proofs
end

section
/-! PROOFS. The guard opening: the orders voided, STOP sent, the measurement ended, the run held. -/

namespace Sys2Proof.Machine

open Sys2Proof

/-! ## Orders voided, STOP sent (R99, R108, R110) -/

theorem voidedProbe_of_none {r : Probe} (h : r.order = none) : voidedProbe r = r := by
  rw [voidedProbe, h]

theorem voidedProbe_of_order {r : Probe} (h : r.order ≠ none) : voidedProbe r =
    { r with state := .unknown, pos := none, order := none, deadline := none, verified := false } := by
  obtain ⟨o, ho⟩ := Option.ne_none_iff_exists'.1 h
  rw [voidedProbe, ho]

theorem sendStop_of_up {s : State} (hu : s.link.up = true) (hs : s.link.stop = none) :
    sendStop s = { s with link := { s.link with stop := some 500 } } := if_pos (by simp [hu, hs])

theorem sendStop_of_not {s : State} (h : s.link.up = false ∨ s.link.stop ≠ none) : sendStop s = s := by
  refine if_neg ?_
  rcases h with h | h
  · simp [h]
  · simp [Option.isNone_eq_false_iff.2 (Option.isSome_iff_ne_none.2 h)]

/-! ## The guard opening before the run state is looked at (R28, R29) -/

theorem canChange_eq {v : Line} {level : Bool} (h : canChange v level = true) :
    { v with filtered := level } = ⟨level, level, true⟩ := by
  obtain ⟨htaken, hraw, -⟩ := (canChange_iff v level).1 h
  rw [htaken, hraw]

theorem exec_guardOpened_of_change {s : State} (h : canChange s.rc.guardLine true = true) :
    exec .guardOpened s = .next (sealPort (settle (guardByState (guardStop s)))) := if_pos h

@[simp] theorem guardNotice_pend (k : NoticeKind) (s : State) : (guardNotice k s).notice.pend = s.notice.pend := by
  unfold guardNotice
  split
  · rfl
  · exact requestNotice_pend _ _ _ _ _

theorem guardNotice_of_idle {s : State} (h : s.rc.run = .idle) (k : NoticeKind) : guardNotice k s = s := if_pos h

theorem guardNotice_of_run {s : State} (h : s.rc.run ≠ .idle) (k : NoticeKind) :
    guardNotice k s = requestNotice k (BitVec.ofNat 32 (runCode s.rc.run)) 0 .plain s := if_neg h

/-- The guard seen open: its level taken and its source pending, the STOPPED-received mark cleared (R28, R30). -/
def guardSeen (s : State) : State :=
  pendGuard { s with rc := { s.rc with guardLine := { s.rc.guardLine with filtered := true }, stoppedReceived := false } }

@[simp] theorem guardSeen_unit (s : State) : (guardSeen s).unit = s.unit := rfl
@[simp] theorem guardSeen_checks (s : State) : (guardSeen s).checks = s.checks := rfl

theorem guardStop_eq (s : State) :
    guardStop s = abortMeasurement (sendStop (voidOrders (guardNotice .guardOpened (guardSeen s)))) := rfl

@[simp] theorem sendStop_up (s : State) : (sendStop s).link.up = s.link.up := by
  unfold sendStop
  split <;> rfl

theorem sendStop_link_congr {s t : State} (h : s.link = t.link) : (sendStop s).link = (sendStop t).link := by
  unfold sendStop
  rw [h]
  split
  · rfl
  · exact h

theorem voidOrders_link_congr {s t : State} (h : s.link = t.link) : (voidOrders s).link = (voidOrders t).link := by
  simp [voidOrders, h]

/-- Of the link, the guard opening changes what a STOP in place of the orders changes. -/
theorem guardStop_link (s : State) : (guardStop s).link = (sendStop (voidOrders s)).link := by
  rw [guardStop_eq, abortMeasurement_link]
  exact sendStop_link_congr (voidOrders_link_congr (guardNotice_link _ _))

theorem guardStop_stop (s : State) :
    (s.link.up = true → s.link.stop = none → (guardStop s).link.stop = some 500)
    ∧ (s.link.up = false ∨ s.link.stop ≠ none → (guardStop s).link.stop = s.link.stop) := by
  rw [guardStop_link]
  exact ⟨fun hu hs => by rw [sendStop_of_up (s := voidOrders s) hu hs],
    fun h => by rw [sendStop_of_not (s := voidOrders s) h]; rfl⟩

theorem DeferredTaken.congr {s t u v : State} (h : s.checks = t.checks) (hc : u.checks = v.checks)
    (hp : ∀ p, probe u p = probe v p) (hd : DeferredTaken s u) : DeferredTaken t v := by
  intro p
  rw [← h, ← hc, ← hp]
  exact hd p

/-- The measurement ended by the guard opening takes the held checks as the probes then stand (R121). -/
theorem guardStop_deferred {s : State} (h : s.unit.step ≠ none) : DeferredTaken s (guardStop s) :=
  (abortMeasurement_deferred (by simpa using h)).congr
    (s := sendStop (voidOrders (guardNotice .guardOpened (guardSeen s)))) (by simp [voidOrders]) rfl fun _ => rfl

theorem guardStop_checks_of_idle {s : State} (h : s.unit.step = none) : (guardStop s).checks = s.checks := by
  rw [guardStop_eq, abortMeasurement_of_idle (by simpa using h)]
  simp [voidOrders]

/-- The GUARD source is pending, and outside IDLE the notice is requested (R28, R181). -/
theorem guardStop_notice (s : State) : (guardStop s).notice.pend = { s.notice.pend with guard := true }
    ∧ (s.rc.run = .idle → (guardStop s).notice.queue = s.notice.queue)
    ∧ (s.rc.run ≠ .idle → s.notice.inForce = true → s.notice.queue.length < 16 →
        (guardStop s).notice.queue =
          s.notice.queue ++ [⟨.guardOpened, BitVec.ofNat 32 (runCode s.rc.run), 0, s.rc.time, .plain⟩]) := by
  have hn : (guardStop s).notice = (guardNotice .guardOpened (guardSeen s)).notice := by
    rw [guardStop_eq, abortMeasurement_notice, sendStop_notice]
    rfl
  rw [hn]
  refine ⟨by rw [guardNotice_pend]; rfl, fun hi => ?_, fun hr hi hl => ?_⟩
  · rw [guardNotice_of_idle (s := guardSeen s) hi]
    rfl
  · rw [guardNotice_of_run (s := guardSeen s) hr]
    exact requestNotice_queue (s := guardSeen s) hi hl

/-! ## What the guard opening makes of the run state (R18, R26, R29) -/

/-- Run control after the guard opening. -/
theorem guardByState_rc (s : State) : (guardByState s).rc = { s.rc with
    run := (guardByState s).rc.run, remembered := (guardByState s).rc.remembered
    guardSeenOpen := s.rc.guardSeenOpen || decide (s.rc.run = .starting)
    parkGivenUp := s.rc.parkGivenUp || decide (s.rc.run = .stopping)
    readyAgain := s.rc.readyAgain && decide ((guardByState s).rc.run = s.rc.run) } := by
  cases h : s.rc.run with
  | running | paused | chainWait | boardWait => simp [guardByState, enterGuardHold, dropReqs, h]
  | starting | stopping => simp [guardByState, h]
  | idle | guardHold | halted =>
    have hsame : guardByState s = s := by simp [guardByState, h]
    rw [hsame, h]
    simp only [reduceCtorEq, decide_false, Bool.or_false, decide_true, Bool.and_true]
    rw [← h]

theorem guardByState_of_guarded {s : State} (h : guardedRun s.rc.run = true) : guardByState s = enterGuardHold s := by
  cases hr : s.rc.run with
  | running | paused | chainWait | boardWait => simp [guardByState, hr]
  | starting | stopping | idle | guardHold | halted => simp [guardedRun, hr] at h

theorem guardByState_of_not_guarded {s : State} (h : guardedRun s.rc.run = false) :
    (guardByState s).rc.run = s.rc.run ∧ (guardByState s).rc.remembered = s.rc.remembered := by
  cases hr : s.rc.run with
  | running | paused | chainWait | boardWait => simp [guardedRun, hr] at h
  | starting | stopping | idle | guardHold | halted => simp [guardByState, hr]

end Sys2Proof.Machine

namespace Sys2Proof.Proofs

open Sys2Proof Sys2Proof.Machine

/-- Settles O22: what the guard opening stops is `guardStop`, and what it makes of the run state is `guardByState`. -/
theorem guardOpeningStops : Obligations.GuardOpeningStops := by
  unfold Obligations.GuardOpeningStops
  intro s htaken hraw hfiltered
  have hchange : canChange s.rc.guardLine true = true := (canChange_iff _ _).2 ⟨htaken, hraw, by simp [hfiltered]⟩
  have hrc := guardByState_rc (guardStop s)
  have hline := canChange_eq hchange
  obtain ⟨hsend, hnosend⟩ := guardStop_stop s
  obtain ⟨hpend, hidle, hqueue⟩ := guardStop_notice s
  have hprobe : ∀ p, probe (guardByState (guardStop s)) p = voidedProbe (probe s p) := fun p => by
    rw [probe_of_link (guardByState_link _), probe_guardStop]
  have hunit : (guardByState (guardStop s)).unit = (abortMeasurement s).unit := by rw [guardByState_unit, guardStop_unit]
  rw [guardStop_rc] at hrc
  dsimp only at hrc
  rw [hline] at hrc
  refine ⟨_, exec_guardOpened_of_change hchange, by rw [hrc], by rw [hrc], by rw [guardByState_notice, hpend], fun p => ?_,
    by rw [guardByState_link, guardStop_link, sendStop_up]; rfl, by rwa [guardByState_link], by rwa [guardByState_link],
    by rw [guardByState_link, guardStop_sent], by rw [hunit, abortMeasurement_step],
    fun hm => by rw [hunit]; exact abortMeasurement_source hm, fun hm => ?_,
    fun hm => by rw [guardByState_checks, guardStop_checks_of_idle hm], by simp, by simp, by simp, by simp, by simp,
    fun hr => ?_, fun hr => ?_, fun hr => by rw [hrc]; simp [hr], fun hr => by rw [hrc]; simp [hr], hrc,
    by rwa [guardByState_notice], by rwa [guardByState_notice]⟩
  · obtain ⟨h1, h2, h3, h4, h5⟩ := voidedProbe_order (probe s p)
    rw [hprobe]
    refine ⟨h1, h2, h3, h4, h5, fun ho => ?_, voidedProbe_of_none⟩
    rw [voidedProbe_of_order ho]
    exact ⟨rfl, rfl, rfl, rfl⟩
  · exact (guardStop_deferred hm).congr rfl (guardByState_checks _).symm fun p => (probe_of_link (guardByState_link _) p).symm
  · rw [guardByState_of_guarded (by rw [guardStop_rc]; rcases hr with h | h | h | h <;> simp [guardedRun, h])]
    exact ⟨rfl, by simp [enterGuardHold]⟩
  · obtain ⟨h1, h2⟩ := guardByState_of_not_guarded (s := guardStop s)
      (by rw [guardStop_rc]; rcases hr with h | h | h | h | h <;> simp [guardedRun, h])
    rw [h1, h2, guardStop_rc]
    exact ⟨rfl, rfl⟩

end Sys2Proof.Proofs
end

section
/-! PROOFS. A board lost or seated, the link lost or up again, STOP answered or missed. -/

namespace Sys2Proof.Machine

open Sys2Proof

/-- What holds of the run, the window, the unit and the diversion after a HALTED entry (R27). -/
theorem enterHalted_facts (code : EndCode) (causes : Word) {s : State} (h : s.rc.run ≠ .halted) :
    (enterHalted code causes s).rc.run = .halted ∧ (enterHalted code causes s).rc.endCode = code
    ∧ (enterHalted code causes s).window = [] ∧ (enterHalted code causes s).unit.step = none
    ∧ (enterHalted code causes s).div.active = false
    ∧ (enterHalted code causes s).rc.boardLine = s.rc.boardLine
    ∧ (enterHalted code causes s).rc.stoppedReceived = s.rc.stoppedReceived := by
  obtain ⟨q, hrc⟩ := enterHalted_rc code causes h
  obtain ⟨-, hwindow, hdiv, -, -⟩ := enterHalted_blocks code causes h
  refine ⟨by rw [hrc], by rw [hrc], hwindow, ?_, by rw [hdiv], by rw [hrc], by rw [hrc]⟩
  rw [enterHalted_unit code causes h, abortMeasurement_step]

/-! ## The board (R22, R28, R32) -/

/-- The run needs a board: in RUNNING and PAUSED, and held by the guard from one of these (R22, R32). -/
def BoardNeeded (s : State) : Prop :=
  s.rc.run = .running ∨ s.rc.run = .paused
  ∨ (s.rc.run = .guardHold ∧ (s.rc.remembered = .running ∨ s.rc.remembered = .paused))

theorem not_boardNeeded_iff (s : State) : ¬BoardNeeded s ↔ s.rc.run ≠ .running ∧ s.rc.run ≠ .paused
    ∧ (s.rc.run ≠ .guardHold ∨ (s.rc.remembered ≠ .running ∧ s.rc.remembered ≠ .paused)) := by
  simp only [BoardNeeded, not_or, not_and_or, ne_eq]

theorem boardLossByState_of_needed {s : State} (h : s.rc.run = .running ∨ s.rc.run = .paused) :
    boardLossByState s = enterHalted .boardLost 0 (abortMeasurement (sendStop (voidOrders s))) := by
  rcases h with h | h
  · simp [boardLossByState, h]
  · simp [boardLossByState, h]

theorem boardLossByState_of_held {s : State} (h : s.rc.run = .guardHold)
    (hr : s.rc.remembered = .running ∨ s.rc.remembered = .paused) :
    boardLossByState s = enterHalted .boardLost 0 (abortMeasurement (voidOrders s)) := by
  simp [boardLossByState, h, hr]

/-- A run that needs no board goes on; a board change held by the guard notes the absence. -/
theorem boardLossByState_of_other {s : State} (h : ¬BoardNeeded s) :
    boardLossByState s = s ∨ boardLossByState s = { s with rc := { s.rc with seenAbsent := true } } := by
  obtain ⟨h1, h2, h3⟩ := (not_boardNeeded_iff s).1 h
  unfold boardLossByState
  split
  next h => exact absurd h h1
  next h => exact absurd h h2
  next h =>
    have hr : ¬(s.rc.remembered = .running ∨ s.rc.remembered = .paused) := by
      simpa using h3.resolve_left (not_not.2 h)
    rw [if_neg hr, seeAbsent]
    split
    · exact .inr rfl
    · exact .inl rfl
  all_goals exact .inl rfl

/-- A board lost takes the orders with it wherever it halts the run; STOP is sent where the run is not held by the guard. -/
theorem boardLossByState_of_halting {s : State} (h : BoardNeeded s) :
    ∃ x, boardLossByState s = enterHalted .boardLost 0 x ∧ x.rc = s.rc
      ∧ (x.link = (sendStop (voidOrders s)).link ∨ x.link = (voidOrders s).link) := by
  rcases h with h | h | ⟨h, hr⟩
  · exact ⟨_, boardLossByState_of_needed (.inl h), by simp [voidOrders], .inl (abortMeasurement_link _)⟩
  · exact ⟨_, boardLossByState_of_needed (.inr h), by simp [voidOrders], .inl (abortMeasurement_link _)⟩
  · exact ⟨_, boardLossByState_of_held h hr, by simp [voidOrders], .inr (abortMeasurement_link _)⟩

/-- The board seen absent: its level taken (R28). -/
def boardSeenAbsent (s : State) : State := { s with rc := { s.rc with boardLine := ⟨false, false, true⟩ } }

theorem exec_boardLost_of_change {s : State} (h : canChange s.rc.boardLine false = true) :
    exec .boardLost s = .next (sealPort (settle (boardLossByState (boardSeenAbsent s)))) := by
  rw [boardSeenAbsent, ← canChange_eq h]
  exact if_pos h

theorem exec_boardSeated_of_change {s : State} (h : canChange s.rc.boardLine true = true) :
    exec .boardSeated s = .next (sealPort (settle { s with rc := { s.rc with
      boardLine := { s.rc.boardLine with filtered := true } } })) := if_pos h

/-- After a board loss that halts the run: HALTED with BOARD_LOST, and no order left. -/
theorem boardLossByState_halts {s : State} (h : BoardNeeded s) :
    (boardLossByState s).rc.run = .halted ∧ (boardLossByState s).rc.endCode = .boardLost
    ∧ (boardLossByState s).window = [] ∧ (boardLossByState s).unit.step = none
    ∧ (∀ p, (probe (boardLossByState s) p).order = none) ∧ (boardLossByState s).div.active = false
    ∧ (boardLossByState s).rc.boardLine = s.rc.boardLine := by
  obtain ⟨x, hx, hrc, hlink⟩ := boardLossByState_of_halting h
  have hrun : x.rc.run ≠ .halted := by
    rw [hrc]
    rcases h with h | h | ⟨h, -⟩ <;> simp [h]
  obtain ⟨h1, h2, h3, h4, h5, h6, -⟩ := enterHalted_facts .boardLost 0 hrun
  rw [hx]
  refine ⟨h1, h2, h3, h4, fun p => ?_, h5, by rw [h6, hrc]⟩
  rw [probe_of_link (enterHalted_link _ _ x)]
  rcases hlink with hl | hl
  · rw [probe_of_link hl, probe_sendStop, voidOrders_order]
  · rw [probe_of_link hl, voidOrders_order]

theorem boardLossByState_stop_sent {s : State} (h : s.rc.run = .running ∨ s.rc.run = .paused) (hu : s.link.up = true)
    (hs : s.link.stop = none) : (boardLossByState s).link.stop = some 500 := by
  rw [boardLossByState_of_needed h, enterHalted_link, abortMeasurement_link, sendStop_of_up (s := voidOrders s) hu hs]

/-- No second STOP goes to the driver out of GUARD_HOLD (R32). -/
theorem boardLossByState_no_stop {s : State} (h : s.rc.run = .guardHold) :
    (boardLossByState s).link.stop = s.link.stop := by
  by_cases hr : s.rc.remembered = .running ∨ s.rc.remembered = .paused
  · rw [boardLossByState_of_held h hr, enterHalted_link, abortMeasurement_link]
    rfl
  · have hn : ¬BoardNeeded s := by simpa [BoardNeeded, h] using hr
    rcases boardLossByState_of_other hn with hs | hs
    · rw [hs]
    · rw [hs]

/-! ## The link (R33, R111) -/

/-- A run that loses the link halts, with LINK_LOST. -/
theorem loseLink_of_run {s : State} (h1 : s.rc.run ≠ .idle) (h2 : s.rc.run ≠ .halted) :
    loseLink s = enterHalted .linkLost 0 s := if_neg (by rw [atRest_iff]; exact fun h => h.elim h1 h2)

theorem loseLink_of_rest {s : State} (h : s.rc.run = .idle ∨ s.rc.run = .halted) : loseLink s = s :=
  if_pos ((atRest_iff s).2 h)

/-- With the unit idle a lost link leaves it so, with its drivers as they were. -/
theorem loseLink_unit {s : State} (h : s.unit.step = none) : (loseLink s).unit = s.unit := by
  by_cases hr : s.rc.run = .idle ∨ s.rc.run = .halted
  · rw [loseLink_of_rest hr]
  · obtain ⟨h1, h2⟩ := not_or.1 hr
    rw [loseLink_of_run h1 h2, enterHalted_unit _ _ h2, abortMeasurement_of_idle h]

theorem loseLink_stoppedReceived (s : State) : (loseLink s).rc.stoppedReceived = s.rc.stoppedReceived := by
  by_cases hr : s.rc.run = .idle ∨ s.rc.run = .halted
  · rw [loseLink_of_rest hr]
  · obtain ⟨h1, h2⟩ := not_or.1 hr
    obtain ⟨-, -, -, -, -, -, h⟩ := enterHalted_facts .linkLost 0 h2
    rw [loseLink_of_run h1 h2, h]

/-- What losing the link does to the run: HALTED with LINK_LOST outside IDLE and HALTED, nothing there. -/
theorem loseLink_by_run (s : State) :
    (s.rc.run = .idle ∨ s.rc.run = .halted → (loseLink s).rc = s.rc ∧ (loseLink s).window = s.window)
    ∧ (s.rc.run ≠ .idle → s.rc.run ≠ .halted →
      (loseLink s).rc.run = .halted ∧ (loseLink s).rc.endCode = .linkLost ∧ (loseLink s).window = []) := by
  refine ⟨fun hr => by rw [loseLink_of_rest hr]; exact ⟨rfl, rfl⟩, fun h1 h2 => ?_⟩
  obtain ⟨hrun, hcode, hwindow, -⟩ := enterHalted_facts .linkLost 0 h2
  rw [loseLink_of_run h1 h2]
  exact ⟨hrun, hcode, hwindow⟩

/-- The link down: every order and an outstanding STOP voided, every probe UNKNOWN, the measurement ended (R33, R99). -/
def linkCut (s : State) : State :=
  abortMeasurement (allUnknown { voidOrders s with link := { (voidOrders s).link with stop := none, up := false } })

theorem exec_linkDown_of_up {s : State} (h : s.link.up = true) :
    exec .linkDown s = .next (sealPort (settle (loseLink (linkCut s)))) := if_pos h

theorem linkCut_link (s : State) : (linkCut s).link =
    { s.link with probes := (s.link.probes.map voidedProbe).map unknownProbe, sent := [], stop := none, up := false } := by
  rw [linkCut, abortMeasurement_link]
  rfl

@[simp] theorem linkCut_rc (s : State) : (linkCut s).rc = s.rc := by
  rw [linkCut, abortMeasurement_rc]
  rfl

@[simp] theorem linkCut_window (s : State) : (linkCut s).window = s.window := by
  rw [linkCut, abortMeasurement_window]
  rfl

theorem probe_linkCut (p : ProbeNo) (s : State) : probe (linkCut s) p = unknownProbe (voidedProbe (probe s p)) := by
  rw [probe, linkCut_link]
  simp [probe]

theorem linkCut_unit (s : State) : (linkCut s).unit = (abortMeasurement s).unit := abortMeasurement_unit_congr rfl

/-! ## STOP answered or missed (R30, R95, R110) -/

theorem exec_stopped_of_stop {s : State} (h : s.link.stop ≠ none) : exec .stopped s = .next (sealPort (settle
    { takeBack (stopEnded s) with rc := { (stopEnded s).rc with stoppedReceived := true } })) :=
  if_pos (Option.isSome_iff_ne_none.2 h)

theorem exec_stopDeadlineExpiry_of_stop {s : State} (h : s.link.stop ≠ none) :
    exec .stopDeadlineExpiry s = .next (sealPort (settle (loseLink (stopEnded s)))) :=
  if_pos (Option.isSome_iff_ne_none.2 h)

theorem stopEnded_link (s : State) : (stopEnded s).link =
    { s.link with probes := s.link.probes.map unknownProbe, stop := none } := by
  rw [stopEnded, abortMeasurement_link]
  rfl

theorem probe_stopEnded (p : ProbeNo) (s : State) : probe (stopEnded s) p = unknownProbe (probe s p) := by
  rw [probe, stopEnded_link]
  simp [probe]

theorem stopEnded_step (s : State) : (stopEnded s).unit.step = none := abortMeasurement_step _

/-- STOPPED leaves an entry that is not unmeasured as it was (R95). -/
theorem takenBack_of_measured {e : Entry} (h : unmeasured e = false) : takenBack e = e := if_neg (by simp [h])

/-- What is taken back of an unmeasured measurement entry: its state and its roles, the retouch counts kept (R95). -/
theorem takenBack_of_measure {e : Entry} (h : unmeasured e = true) (hk : e.kind = .measure) : takenBack e =
    { e with state := .pending, roles := e.roles.map fun r => { r with state := .waiting } } := by
  rw [takenBack, if_pos h, hk]

/-- What is taken back of an unmeasured CLEAN or PARK entry: its members under an order (R95). -/
theorem takenBack_of_members {e : Entry} (h : unmeasured e = true) (hk : e.kind = .clean ∨ e.kind = .park) : takenBack e =
    { e with members := e.members.map fun m => if m.state = .ordered then { m with state := .waiting } else m } := by
  rw [takenBack, if_pos h]
  rcases hk with hk | hk <;> rw [hk]

theorem takenBack_uid (e : Entry) : (takenBack e).uid = e.uid := by
  unfold takenBack
  split
  · split <;> rfl
  · rfl

end Sys2Proof.Machine

namespace Sys2Proof.Proofs

open Sys2Proof Sys2Proof.Machine

/-- Settles O23: by whether the run needs a board (`BoardNeeded`). -/
theorem boardLevelChanges : Obligations.BoardLevelChanges := by
  unfold Obligations.BoardLevelChanges
  refine ⟨fun s htaken hraw hfiltered => ?_, fun s htaken hraw hfiltered => ?_⟩
  · have hchange : canChange s.rc.boardLine false = true := (canChange_iff _ _).2 ⟨htaken, hraw, by simp [hfiltered]⟩
    refine ⟨_, exec_boardLost_of_change hchange, ?_, boardLossByState_mem _, boardLossByState_regs _, fun h => ?_,
      boardLossByState_stop_sent (s := boardSeenAbsent s), boardLossByState_no_stop (s := boardSeenAbsent s), fun h1 h2 h3 => ?_⟩
    · by_cases h : BoardNeeded (boardSeenAbsent s)
      · obtain ⟨-, -, -, -, -, -, hline⟩ := boardLossByState_halts h
        exact hline
      · rcases boardLossByState_of_other h with hs | hs <;> rw [hs] <;> rfl
    · obtain ⟨hrun, hcode, hwindow, hunit, horder, hdiv, -⟩ := boardLossByState_halts (s := boardSeenAbsent s) h
      exact ⟨hrun, hcode, hwindow, hunit, horder, hdiv⟩
    · rcases boardLossByState_of_other ((not_boardNeeded_iff (boardSeenAbsent s)).2 ⟨h1, h2, h3⟩) with hs | hs
      · rw [hs]
        exact ⟨rfl, rfl, rfl, rfl, rfl⟩
      · rw [hs]
        exact ⟨rfl, rfl, rfl, rfl, rfl⟩
  · have hchange : canChange s.rc.boardLine true = true := (canChange_iff _ _).2 ⟨htaken, hraw, by simp [hfiltered]⟩
    rw [exec_boardSeated_of_change hchange, canChange_eq hchange]

/-- Settles O24: what a lost link ends is `linkCut`, and what it makes of the run is `loseLink`. -/
theorem linkChanges : Obligations.LinkChanges := by
  unfold Obligations.LinkChanges
  refine ⟨fun s hup => ?_, fun s hdown hs => ?_⟩
  · have hstep : (linkCut s).unit.step = none := by rw [linkCut_unit, abortMeasurement_step]
    have hunit : (loseLink (linkCut s)).unit = (abortMeasurement s).unit := by rw [loseLink_unit hstep, linkCut_unit]
    obtain ⟨hrest, hrun⟩ := loseLink_by_run (linkCut s)
    rw [linkCut_rc, linkCut_window] at hrest
    rw [linkCut_rc] at hrun
    refine ⟨_, exec_linkDown_of_up hup, by rw [loseLink_link, linkCut_link], by rw [loseLink_link, linkCut_link],
      by rw [loseLink_link, linkCut_link], by rw [hunit, abortMeasurement_step],
      fun hm => by rw [hunit]; exact abortMeasurement_source hm, by simp [linkCut, voidOrders], by simp [linkCut, voidOrders],
      fun p => ?_, hrest, hrun⟩
    obtain ⟨h1, h2, h3, h4, h5⟩ := voidedProbe_order (probe s p)
    rw [probe_of_link (loseLink_link _), probe_linkCut]
    exact ⟨rfl, h1, rfl, rfl, h2, h3, h4, h5⟩
  · show execLinkUp s = _
    rw [execLinkUp, if_neg (by simp [hdown]), sendStop_of_up (s := { s with link := { s.link with up := true } }) rfl hs]
    rfl

/-- Settles O29: both end the STOP (`stopEnded`); STOPPED takes the window's probes back, the deadline loses the link. -/
theorem stopAnsweredOrMissed : Obligations.StopAnsweredOrMissed := by
  unfold Obligations.StopAnsweredOrMissed
  refine fun s => ⟨fun h => if_neg (by simp [h]), fun h => ⟨?_, ?_⟩⟩
  · refine ⟨_, exec_stopped_of_stop h, ?_, ?_, fun p => probe_stopEnded p s, ?_, stopEnded_step s, ?_, ?_, ?_, fun i e hi => ?_⟩
    · show (stopEnded s).link.stop = none
      rw [stopEnded_link]
    · show (stopEnded s).link.up = _
      rw [stopEnded_link]
    · simp [stopEnded]
    · simp [takeBack, stopEnded]
    · simp [takeBack, stopEnded]
    · simp [takeBack, stopEnded]
    · refine ⟨takenBack e, by simp [takeBack, stopEnded, hi], takenBack_uid e, takenBack_of_measured, fun hu hk => ?_,
        fun hu hk => ?_⟩
      · rw [takenBack_of_measure hu hk]
        exact ⟨rfl, by simp, by simp [Function.comp_def]⟩
      · rw [takenBack_of_members hu hk]
        refine ⟨rfl, fun m hm => ?_⟩
        obtain ⟨m', -, rfl⟩ := List.mem_map.1 hm
        split
        · nofun
        · assumption
  · obtain ⟨hrest, hrun⟩ := loseLink_by_run (stopEnded s)
    have hrc : (stopEnded s).rc = s.rc := by simp [stopEnded]
    have hwindow : (stopEnded s).window = s.window := by simp [stopEnded]
    rw [hrc, hwindow] at hrest
    rw [hrc] at hrun
    exact ⟨_, exec_stopDeadlineExpiry_of_stop h, by rw [loseLink_link, stopEnded_link], by rw [loseLink_link, stopEnded_link],
      fun p => by rw [probe_of_link (loseLink_link _), probe_stopEnded]; rfl, by simp [stopEnded],
      by rw [loseLink_stoppedReceived, hrc], by rw [loseLink_unit (stopEnded_step s), stopEnded_step], hrest, hrun⟩

end Sys2Proof.Proofs
end

section
/-! PROOFS. A FAULT report and an order's deadline that expires. -/

namespace Sys2Proof.Machine

open Sys2Proof

/-! ## The entry that holds the probe fails (R85) -/

theorem chargeProbe_of_none {s : State} {p : ProbeNo} (h : holder s p = none) (c : Cause) (d : Nat) :
    chargeProbe p c d s = s := by
  rw [chargeProbe, h]

theorem chargeProbe_of_holder {s : State} {p : ProbeNo} {e : Entry} (h : holder s p = some e) (c : Cause) (d : Nat) :
    chargeProbe p c d s = failEntry e.uid c d s := by
  rw [chargeProbe, h]

theorem failEntry_of_measured {s : State} {u : Nat} {e : Entry} (h : entryOf s u = some e) (hu : unmeasured e = false)
    (c : Cause) (d : Nat) : failEntry u c d s = s := by
  rw [failEntry, h]
  exact if_neg (by simp [hu])

/-- With no measurement to end, a failed entry leaves the unit and the contact checks. -/
theorem failEntry_of_idle {s : State} (h : s.unit.step = none) (u : Nat) (c : Cause) (d : Nat) :
    (failEntry u c d s).unit = s.unit ∧ (failEntry u c d s).checks = s.checks := by
  unfold failEntry
  split
  · exact ⟨rfl, rfl⟩
  · split
    · dsimp only
      split
      · rw [abortMeasurement_of_idle (by exact h)]
        exact ⟨rfl, rfl⟩
      · exact ⟨rfl, rfl⟩
    · exact ⟨rfl, rfl⟩

theorem chargeProbe_of_idle {s : State} (h : s.unit.step = none) (p : ProbeNo) (c : Cause) (d : Nat) :
    (chargeProbe p c d s).unit = s.unit ∧ (chargeProbe p c d s).checks = s.checks := by
  cases hh : holder s p with
  | none => rw [chargeProbe_of_none hh]; exact ⟨rfl, rfl⟩
  | some e => rw [chargeProbe_of_holder hh]; exact failEntry_of_idle h _ _ _

/-! ## The probe faulted (R104, R105, R107) -/

/-- The unit measures the probe exactly where the measured entry names it in a role. -/
theorem measuredProbe_iff (p : ProbeNo) (s : State) : measuredProbe p s = true ↔
    ∃ st e, s.unit.step = some st ∧ entryOf s st.entry = some e ∧ ∃ r ∈ e.roles, r.probe = p := by
  unfold measuredProbe measuredEntryOf
  cases hs : s.unit.step with
  | none => simp
  | some st => cases he : entryOf s st.entry <;> simp [he]

theorem step_of_measuredProbe {p : ProbeNo} {s : State} (h : measuredProbe p s = true) : s.unit.step ≠ none := by
  obtain ⟨st, -, hst, -⟩ := (measuredProbe_iff p s).1 h
  simp [hst]

theorem markParkFailed_rc (p : ProbeNo) (o : Option Order) (s : State) : (markParkFailed p o s).rc = { s.rc with
    parking := if o = some .park ∧ s.rc.parking.get p = .issued then s.rc.parking.set p .failed else s.rc.parking } := by
  by_cases h : o = some .park ∧ s.rc.parking.get p = .issued
  · simp [markParkFailed, setParkMark, h]
  · rw [if_neg h, markParkFailed, if_neg (by simpa using h)]

/-- The probe faulted and its order ended, a measurement it takes part in ended too. -/
def faultEnded (p : ProbeNo) (code : Byte) (s : State) : State :=
  if measuredProbe p s then abortMeasurement (endOrder p (faultedProbe code (probe s p)) s)
  else endOrder p (faultedProbe code (probe s p)) s

/-- And a PARK of the Run Controller's own marked as failed; what is left is the entry that holds the probe. -/
def faultMarked (p : ProbeNo) (code : Byte) (s : State) : State := markParkFailed p (probe s p).order (faultEnded p code s)

theorem faultProbe_eq (p : ProbeNo) (code : Byte) (c : Cause) (d : Nat) (s : State) :
    faultProbe p code c d s = chargeProbe p c d (faultMarked p code s) := rfl

@[simp] theorem faultEnded_rc (p : ProbeNo) (code : Byte) (s : State) : (faultEnded p code s).rc = s.rc := by
  unfold faultEnded
  split
  · rw [abortMeasurement_rc]
    rfl
  · rfl

theorem faultMarked_link (p : ProbeNo) (code : Byte) (s : State) :
    (faultMarked p code s).link = (endOrder p (faultedProbe code (probe s p)) s).link := by
  rw [faultMarked, markParkFailed_link, faultEnded]
  split
  · rw [abortMeasurement_link]
  · rfl

theorem faultMarked_window (p : ProbeNo) (code : Byte) (s : State) : (faultMarked p code s).window = s.window := by
  rw [faultMarked, markParkFailed_window, faultEnded]
  split
  · rw [abortMeasurement_window]
    rfl
  · rfl

theorem faultMarked_rc (p : ProbeNo) (code : Byte) (s : State) : (faultMarked p code s).rc = { s.rc with
    parking := if (probe s p).order = some .park ∧ s.rc.parking.get p = .issued then s.rc.parking.set p .failed
      else s.rc.parking } := by
  rw [faultMarked, markParkFailed_rc, faultEnded_rc]

theorem holder_faultMarked (p q : ProbeNo) (code : Byte) (s : State) : holder (faultMarked p code s) q = holder s q := by
  rw [holder, faultMarked_window, holder]

theorem entryOf_faultMarked (p : ProbeNo) (u : Nat) (code : Byte) (s : State) :
    entryOf (faultMarked p code s) u = entryOf s u := by
  rw [entryOf, faultMarked_window, entryOf]

theorem faultMarked_of_measured {p : ProbeNo} {s : State} (h : measuredProbe p s = true) (code : Byte) :
    (faultMarked p code s).unit = (abortMeasurement (endOrder p (faultedProbe code (probe s p)) s)).unit
    ∧ (faultMarked p code s).checks = (abortMeasurement (endOrder p (faultedProbe code (probe s p)) s)).checks := by
  rw [faultMarked, markParkFailed_unit, markParkFailed_checks, faultEnded, if_pos h]
  exact ⟨rfl, rfl⟩

/-- The faulted probe and the others after a fault. -/
theorem probe_faultProbe (p : ProbeNo) (code : Byte) (c : Cause) (d : Nat) (s : State) :
    probe (faultProbe p code c d s) p = faultedProbe code (probe s p)
    ∧ ∀ q, q ≠ p → probe (faultProbe p code c d s) q = probe s q := by
  have hp : ∀ q, probe (faultProbe p code c d s) q = probe (endOrder p (faultedProbe code (probe s p)) s) q := fun q => by
    rw [faultProbe_eq, probe_of_link (chargeProbe_link _ _ _ _), probe_of_link (faultMarked_link p code s)]
  exact ⟨by rw [hp, probe_endOrder_same], fun q hq => by rw [hp, probe_endOrder_other hq]⟩

theorem faultProbe_sent (p : ProbeNo) (code : Byte) (c : Cause) (d : Nat) (s : State) :
    (faultProbe p code c d s).link.sent = s.link.sent.erase p := by
  rw [faultProbe_eq, chargeProbe_link, faultMarked_link, endOrder_sent]

/-- Of run control a fault changes at most the mark of the probe's PARK. -/
theorem faultProbe_rc (p : ProbeNo) (code : Byte) (c : Cause) (d : Nat) (s : State) :
    (faultProbe p code c d s).rc = { s.rc with
      parking := if (probe s p).order = some .park ∧ s.rc.parking.get p = .issued then s.rc.parking.set p .failed
        else s.rc.parking } := by
  rw [faultProbe_eq, chargeProbe_rc, faultMarked_rc]

/-- A measurement that the probe takes part in ends with the fault, the probe then standing FAULTED. -/
theorem faultProbe_of_measured {p : ProbeNo} {s : State} (h : measuredProbe p s = true) (code : Byte) (c : Cause) (d : Nat) :
    (faultProbe p code c d s).unit.step = none ∧ (faultProbe p code c d s).unit.sourceOn = false
    ∧ (faultProbe p code c d s).unit.guardOn = false ∧ DeferredTaken s (faultProbe p code c d s) := by
  have hstep : (endOrder p (faultedProbe code (probe s p)) s).unit.step ≠ none := step_of_measuredProbe h
  obtain ⟨hunit, hchecks⟩ := faultMarked_of_measured h code
  have hidle : (faultMarked p code s).unit.step = none := by rw [hunit, abortMeasurement_step]
  obtain ⟨hkeptUnit, hkeptChecks⟩ := chargeProbe_of_idle hidle p c d
  rw [faultProbe_eq, hkeptUnit, hunit]
  obtain ⟨hsource, hguard⟩ := abortMeasurement_source hstep
  refine ⟨abortMeasurement_step _, hsource, hguard, (abortMeasurement_deferred hstep).congr rfl ?_ fun q => ?_⟩
  · rw [hkeptChecks, hchecks]
  · rw [probe_of_link (abortMeasurement_link _), probe_of_link (chargeProbe_link _ _ _ _),
      probe_of_link (faultMarked_link p code s)]

theorem faultProbe_of_unheld {p : ProbeNo} {s : State} (h : holder s p = none) (code : Byte) (c : Cause) (d : Nat) :
    (faultProbe p code c d s).window = s.window := by
  rw [faultProbe_eq, chargeProbe_of_none (by rwa [holder_faultMarked]), faultMarked_window]

/-- The entry that holds the probe fails while it is unmeasured, and is left otherwise. -/
theorem faultProbe_of_held {p : ProbeNo} {s : State} {e : Entry} (h : holder s p = some e) (he : entryOf s e.uid = some e)
    (code : Byte) (c : Cause) (d : Nat) :
    (unmeasured e = false → (faultProbe p code c d s).window = s.window)
    ∧ (unmeasured e = true → EntryFailed e.uid c d s (faultProbe p code c d s)) := by
  have he' : entryOf (faultMarked p code s) e.uid = some e := by rwa [entryOf_faultMarked]
  rw [faultProbe_eq, chargeProbe_of_holder (by rwa [holder_faultMarked])]
  refine ⟨fun hu => ?_, fun hu => ?_⟩
  · rw [failEntry_of_measured he' hu, faultMarked_window]
  · have hf := failEntry_entryFailed c d he' hu
    unfold EntryFailed at hf ⊢
    rwa [faultMarked_window] at hf

/-- FAULT, whatever its tag, and a deadline that expires are both a fault of the probe, by code, cause and detail. -/
theorem exec_fault_or_expiry {p : ProbeNo} {s : State} {i : Instr} {code : Byte} {c : Cause} {d : Nat}
    (h : (∃ tag k, i = .fault p tag k ∧ code = (if k = 0 then 255 else k) ∧ c = .motionFault ∧ d = code.toNat)
      ∨ (i = .orderDeadlineExpiry p ∧ (probe s p).order ≠ none ∧ code = 0 ∧ c = .motionTimeout ∧ d = p.val)) :
    exec i s = .next (sealPort (settle (faultProbe p code c d s))) := by
  rcases h with ⟨tag, k, rfl, rfl, rfl, rfl⟩ | ⟨rfl, ho, rfl, rfl, rfl⟩
  · rfl
  · exact if_pos (Option.isSome_iff_ne_none.2 ho)

end Sys2Proof.Machine

namespace Sys2Proof.Proofs

open Sys2Proof Sys2Proof.Machine

/-- Settles O28: both commands are `faultProbe`. -/
theorem faultAndExpiry : Obligations.FaultAndExpiry := by
  unfold Obligations.FaultAndExpiry
  refine ⟨fun p s i code c d h => ?_, fun p s h => if_neg (by simp [h]), measuredProbe_iff, fun p q marks m => ?_⟩
  · obtain ⟨hp, hq⟩ := probe_faultProbe p code c d s
    have hrc := faultProbe_rc p code c d s
    exact ⟨_, exec_fault_or_expiry h, hp, hq, by simp, by rw [hrc], by simp, fun h1 h2 => by rw [hrc]; simp [h1, h2], hrc,
      faultProbe_sent p code c d s, fun hm => faultProbe_of_measured hm code c d, fun hn => faultProbe_of_unheld hn code c d,
      fun e hh he => faultProbe_of_held hh he code c d⟩
  · split
    next h => rw [h, Per.get_set_same]
    next h => exact Per.get_set_other marks h m

end Sys2Proof.Proofs
end

section
/-! PROOFS. The raw and the first levels, the guard closing, and the time stamp. -/

namespace Sys2Proof.Machine

open Sys2Proof

/-! ## Levels (R28, R31) -/

theorem exec_firstLevelTaken_of_taken {l : MachineLine} {s : State} (h : (lineOf l s).taken = true) :
    exec (.firstLevelTaken l) s = .next s := if_pos h

theorem exec_firstLevelTaken_of_new {l : MachineLine} {s : State} (h : (lineOf l s).taken = false) :
    exec (.firstLevelTaken l) s =
      .next (sealPort (settle (setLine l { lineOf l s with filtered := (lineOf l s).raw, taken := true } s))) :=
  if_neg (by simp [h])

/-- The guard seen closed: its level taken and its source pending (R28, R31). -/
def guardSeenClosed (s : State) : State :=
  pendGuard { s with rc := { s.rc with guardLine := ⟨false, false, true⟩ } }

theorem exec_guardClosed_of_change {s : State} (h : canChange s.rc.guardLine false = true) :
    exec .guardClosed s = .next (sealPort (settle (guardNotice .guardClosed (guardSeenClosed s)))) := by
  rw [guardSeenClosed, ← canChange_eq h]
  exact if_pos h

/-- In IDLE, and without the notice ring, a guard change requests nothing. -/
theorem guardNotice_of_none {s : State} (h : s.rc.run = .idle ∨ s.notice.inForce = false) (k : NoticeKind) :
    guardNotice k s = s := by
  by_cases hr : s.rc.run = .idle
  · exact guardNotice_of_idle hr k
  · rw [guardNotice_of_run hr, requestNotice_of_no_ring (h.resolve_left hr)]

/-! ## The time stamp (R34) -/

theorem exec_tick_of_idle {s : State} (h : s.rc.run = .idle) :
    exec .timeStampTick s = .next s ∧ exec .timeWrap s = .next s :=
  ⟨if_pos h, if_neg fun hc => hc.1 h⟩

/-- The highest time stamp is the one whose bits are all set. -/
theorem time_eq_allOnes_iff (w : Word) : w = BitVec.allOnes 32 ↔ w.toNat = 4294967295 := by
  rw [← BitVec.toNat_inj, BitVec.toNat_allOnes]

theorem exec_tick_below {s : State} (h : s.rc.run ≠ .idle) (ht : s.rc.time.toNat < 4294967295) :
    exec .timeStampTick s = .next { s with rc := { s.rc with time := s.rc.time + 1 } } ∧ exec .timeWrap s = .next s := by
  have hne : s.rc.time ≠ BitVec.allOnes 32 := fun hc => absurd ((time_eq_allOnes_iff _).1 hc) (by omega)
  exact ⟨(if_neg h).trans (if_neg hne), if_neg fun hc => hne hc.2⟩

theorem exec_tick_at_maximum {s : State} (h : s.rc.run ≠ .idle) (ht : s.rc.time.toNat = 4294967295) :
    exec .timeStampTick s = .next (sealPort (wrapTime s)) ∧ exec .timeWrap s = .next (sealPort (wrapTime s)) := by
  have heq := (time_eq_allOnes_iff _).2 ht
  exact ⟨(if_neg h).trans (if_pos heq), if_pos ⟨h, heq⟩⟩

end Sys2Proof.Machine

namespace Sys2Proof.Proofs

open Sys2Proof Sys2Proof.Machine

/-- Settles O21: the levels by line, and the guard closing as a change of its level with a source and a notice. -/
theorem levelsAndGuardClosing : Obligations.LevelsAndGuardClosing := by
  unfold Obligations.LevelsAndGuardClosing
  refine ⟨fun s level => ⟨rfl, rfl, exec_firstLevelTaken_of_new (l := .guard), exec_firstLevelTaken_of_new (l := .board),
    fun l => exec_firstLevelTaken_of_taken, rfl, rfl⟩, fun s htaken hraw hfiltered => ?_⟩
  have hchange : canChange s.rc.guardLine false = true := (canChange_iff _ _).2 ⟨htaken, hraw, by simp [hfiltered]⟩
  refine ⟨_, exec_guardClosed_of_change hchange, guardNotice_rc _ _, guardNotice_pend _ _, guardNotice_link _ _,
    guardNotice_window _ _, guardNotice_fetch _ _, guardNotice_unit _ _, guardNotice_mem _ _, guardNotice_div _ _,
    fun h => ?_, fun hr hi hl => ?_⟩
  · rw [guardNotice_of_none (s := guardSeenClosed s) h]
    exact ⟨rfl, rfl⟩
  · rw [guardNotice_of_run (s := guardSeenClosed s) hr]
    exact requestNotice_queue (s := guardSeenClosed s) hi hl

/-- Settles O25: the two rows of the time stamp act alike at its maximum. -/
theorem timeStampAdvances : Obligations.TimeStampAdvances := by
  unfold Obligations.TimeStampAdvances
  refine fun s => ⟨exec_tick_of_idle, exec_tick_below, fun h ht => ?_⟩
  obtain ⟨htick, hwrap⟩ := exec_tick_at_maximum h ht
  refine ⟨_, htick, hwrap, ?_, ?_, ?_, ?_, fun hi => ?_, fun hi hl => ?_⟩
  · simp [wrapTime]
  · simp [wrapTime]
  · simp [wrapTime]
  · simp [wrapTime]
  · rw [sealPort_notice, wrapTime, requestNotice_of_no_ring (by exact hi)]
  · rw [sealPort_notice, wrapTime]
    exact requestNotice_queue (s := { s with rc := { s.rc with time := 0 } }) hi hl

end Sys2Proof.Proofs
end

section
/-! PROOFS. What keeps the bounds of the window, the call stack, the notice queue and the wear counts, and the numbers of entries
distinct: the shared operations, the Step Window and the notices. -/

namespace Sys2Proof.Machine

open Sys2Proof

/-! ## Bounds kept from one state to another -/

/-- Each bound, where it held, still holds. -/
structure KeepsBounds (s t : State) : Prop where
  window : WindowBounded s → WindowBounded t
  stack : StackBounded s → StackBounded t
  queue : QueueBounded s → QueueBounded t
  wear : WearBounded s → WearBounded t
  entries : EntriesDistinct s → EntriesDistinct t

theorem KeepsBounds.trans {s t u : State} (h1 : KeepsBounds s t) (h2 : KeepsBounds t u) : KeepsBounds s u :=
  ⟨h2.window ∘ h1.window, h2.stack ∘ h1.stack, h2.queue ∘ h1.queue, h2.wear ∘ h1.wear, h2.entries ∘ h1.entries⟩

/-- An activity that numbers no entry, begins no transaction and pushes no frame. -/
theorem KeepsBounds.of_parts {s t : State} (hw : (t.window.map (·.uid)).Sublist (s.window.map (·.uid)))
    (hu : t.nextUid = s.nextUid) (ht : t.fetch.txn.isSome = true → s.fetch.txn.isSome = true)
    (hf : t.fetch.stack.length ≤ s.fetch.stack.length) (hq : QueueBounded s → QueueBounded t)
    (hp : WearBounded s → WearBounded t) : KeepsBounds s t where
  window := fun h => by
    have hlen : t.window.length ≤ s.window.length := by simpa using hw.length_le
    have htxn : (if t.fetch.txn.isSome then 1 else 0) ≤ (if s.fetch.txn.isSome then 1 else 0) := by
      cases hc : t.fetch.txn.isSome with
      | true => simp [ht hc]
      | false => simp
    exact (Nat.add_le_add hlen htxn).trans h
  stack := fun h => hf.trans h
  queue := hq
  wear := hp
  entries := fun ⟨hd, hlt⟩ => by
    refine ⟨hd.sublist hw, fun e he => ?_⟩
    obtain ⟨e', he', heq⟩ := List.mem_map.1 (hw.subset (List.mem_map_of_mem he))
    rw [hu, ← heq]
    exact hlt e' he'

theorem queueBounded_of_le {s t : State} (h : t.notice.queue.length ≤ s.notice.queue.length) (hs : QueueBounded s) :
    QueueBounded t := h.trans hs

theorem wearBounded_congr {s t : State} (h : ∀ p, (probe t p).touch = (probe s p).touch ∧ (probe t p).miss = (probe s p).miss)
    (hs : WearBounded s) : WearBounded t := fun p => by
  obtain ⟨htouch, hmiss⟩ := h p
  rw [htouch, hmiss]
  exact hs p

/-- An activity that leaves the fetcher, the notices and the link, and at most removes entries. -/
theorem KeepsBounds.of_window {s t : State} (hw : (t.window.map (·.uid)).Sublist (s.window.map (·.uid)))
    (h : t.nextUid = s.nextUid ∧ t.fetch = s.fetch ∧ t.notice = s.notice ∧ t.link = s.link) : KeepsBounds s t := by
  obtain ⟨hu, hf, hn, hl⟩ := h
  exact .of_parts hw hu (by rw [hf]; exact id) (by rw [hf]) (queueBounded_of_le (by rw [hn]))
    (wearBounded_congr fun p => by rw [probe_of_link hl]; exact ⟨rfl, rfl⟩)

/-- An activity that leaves the window, the notices and the link, begins no transaction and pushes no frame. -/
theorem KeepsBounds.of_fetch {s t : State} (ht : t.fetch.txn.isSome = true → s.fetch.txn.isSome = true)
    (hf : t.fetch.stack.length ≤ s.fetch.stack.length)
    (h : t.window = s.window ∧ t.nextUid = s.nextUid ∧ t.notice = s.notice ∧ t.link = s.link) : KeepsBounds s t := by
  obtain ⟨hw, hu, hn, hl⟩ := h
  exact .of_parts (by rw [hw]) hu ht hf (queueBounded_of_le (by rw [hn]))
    (wearBounded_congr fun p => by rw [probe_of_link hl]; exact ⟨rfl, rfl⟩)

/-- An activity that leaves the window, the fetcher and the link. -/
theorem KeepsBounds.of_queue {s t : State} (hq : QueueBounded s → QueueBounded t)
    (h : t.window = s.window ∧ t.nextUid = s.nextUid ∧ t.fetch = s.fetch ∧ t.link = s.link) : KeepsBounds s t := by
  obtain ⟨hw, hu, hf, hl⟩ := h
  exact .of_parts (by rw [hw]) hu (by rw [hf]; exact id) (by rw [hf]) hq
    (wearBounded_congr fun p => by rw [probe_of_link hl]; exact ⟨rfl, rfl⟩)

/-- An activity that leaves the window, the fetcher and the notices. -/
theorem KeepsBounds.of_wear {s t : State} (hp : WearBounded s → WearBounded t)
    (h : t.window = s.window ∧ t.nextUid = s.nextUid ∧ t.fetch = s.fetch ∧ t.notice = s.notice) : KeepsBounds s t := by
  obtain ⟨hw, hu, hf, hn⟩ := h
  exact .of_parts (by rw [hw]) hu (by rw [hf]; exact id) (by rw [hf]) (queueBounded_of_le (by rw [hn])) hp

/-- An activity that leaves all that the bounds speak of. -/
theorem KeepsBounds.of_same {s t : State} (h : t.window = s.window ∧ t.nextUid = s.nextUid ∧ t.fetch = s.fetch
    ∧ t.notice.queue = s.notice.queue ∧ t.link = s.link) : KeepsBounds s t := by
  obtain ⟨hw, hu, hf, hn, hl⟩ := h
  exact .of_queue (queueBounded_of_le (by rw [hn])) ⟨hw, hu, hf, hl⟩

theorem KeepsBounds.refl (s : State) : KeepsBounds s s := .of_same (by simp)

theorem withRc_keepsBounds (rc : RunControl) (s : State) : KeepsBounds s { s with rc := rc } := .of_same (by simp)
theorem withDiv_keepsBounds (d : DivUnit) (s : State) : KeepsBounds s { s with div := d } := .of_same (by simp)
theorem withLog_keepsBounds (l : Logger) (s : State) : KeepsBounds s { s with log := l } := .of_same (by simp)
theorem issue_keepsBounds (k : ReqKind) (a : Nat) (b : ReqBody) (s : State) : KeepsBounds s (issue k a b s) := .of_same (by simp)

theorem pendMemoryError_keepsBounds (s : State) : KeepsBounds s (pendMemoryError s) := .of_same ⟨rfl, rfl, rfl, rfl, rfl⟩
theorem pendGuard_keepsBounds (s : State) : KeepsBounds s (pendGuard s) := .of_same ⟨rfl, rfl, rfl, rfl, rfl⟩
theorem pendRunEnd_keepsBounds (s : State) : KeepsBounds s (pendRunEnd s) := .of_same ⟨rfl, rfl, rfl, rfl, rfl⟩
theorem pendLogHeld_keepsBounds (s : State) : KeepsBounds s (pendLogHeld s) := .of_same ⟨rfl, rfl, rfl, rfl, rfl⟩
theorem pendNotice_keepsBounds (s : State) : KeepsBounds s (pendNotice s) := .of_same ⟨rfl, rfl, rfl, rfl, rfl⟩

/-- An activity repeated over a list. -/
theorem KeepsBounds.foldl {α : Type} {f : State → α → State} (h : ∀ s x, KeepsBounds s (f s x)) (l : List α) (s : State) :
    KeepsBounds s (l.foldl f s) := by
  induction l generalizing s with
  | nil => exact .refl s
  | cons x l ih => exact (h s x).trans (ih (f s x))

/-! ## Orders and wear counts (R99, R100, R102, R114, R115) -/

theorem orderedProbe_counts (t : Settings) (o : Order) (r : Probe) :
    (orderedProbe t o r).touch = r.touch ∧ (orderedProbe t o r).miss = r.miss := by
  cases o <;> exact ⟨rfl, rfl⟩

/-- A probe record replaced by one whose counts lie in their ranges where the old ones did. -/
theorem setProbe_keepsBounds {p : ProbeNo} {r : Probe} {s : State}
    (h : (probe s p).touch ≤ 65535 ∧ (probe s p).miss ≤ 15 → r.touch ≤ 65535 ∧ r.miss ≤ 15) :
    KeepsBounds s (setProbe p r s) := by
  refine .of_wear (fun hs q => ?_) (by simp)
  by_cases hq : q = p
  · rw [hq, probe_setProbe_same]
    exact h (hs p)
  · rw [probe_setProbe_other hq]
    exact hs q

theorem takeOrder_keepsBounds (p : ProbeNo) (o : Order) (s : State) : KeepsBounds s (takeOrder p o s) := by
  refine .of_wear (wearBounded_congr fun q => ?_) (by simp)
  by_cases hq : q = p
  · rw [hq, probe_takeOrder_same]
    exact orderedProbe_counts _ _ _
  · rw [probe_takeOrder_other hq]
    exact ⟨rfl, rfl⟩

theorem requestOrder_keepsBounds {p : ProbeNo} {o : Order} {s t : State} (h : requestOrder p o s = some t) :
    KeepsBounds s t := by
  obtain ⟨-, rfl⟩ := requestOrder_some h
  exact takeOrder_keepsBounds p o s

theorem endOrder_keepsBounds {p : ProbeNo} {r : Probe} {s : State}
    (h : (probe s p).touch ≤ 65535 ∧ (probe s p).miss ≤ 15 → r.touch ≤ 65535 ∧ r.miss ≤ 15) :
    KeepsBounds s (endOrder p r s) := by
  refine .of_wear (fun hs q => ?_) (by simp)
  by_cases hq : q = p
  · rw [hq, probe_endOrder_same]
    exact h (hs p)
  · rw [probe_endOrder_other hq]
    exact hs q

/-! ## Notices (R179, R180) -/

/-- A request is queued only where fewer than 16 are (R179). -/
theorem requestNotice_keepsBounds (k : NoticeKind) (x y : Word) (m : NoticeMark) (s : State) :
    KeepsBounds s (requestNotice k x y m s) := by
  refine .of_queue (fun hs => ?_) (by simp)
  obtain ⟨more, h⟩ := requestNotice_eq k x y m s
  unfold QueueBounded at *
  simp only [h, List.length_append, Config.noticeQueueSize] at *
  split
  · simp only [List.length_singleton]; omega
  · simpa using hs

/-- Held requests take no more than the free places (R180). -/
theorem refillNotices_keepsBounds (s : State) : KeepsBounds s (refillNotices s) := by
  refine .of_queue (fun hs => ?_) (by simp)
  unfold QueueBounded at *
  simp only [refillNotices, List.length_append, List.length_take]
  omega

theorem changeCounts_keepsBounds {p : ProbeNo} {touch miss : Nat} {s : State}
    (h : (probe s p).touch ≤ 65535 ∧ (probe s p).miss ≤ 15 → touch ≤ 65535 ∧ miss ≤ 15) :
    KeepsBounds s (changeCounts p touch miss s) := by
  unfold changeCounts
  dsimp only
  split
  · exact setProbe_keepsBounds h
  · split
    · exact setProbe_keepsBounds h
    · refine KeepsBounds.trans (setProbe_keepsBounds ?_) (requestNotice_keepsBounds _ _ _ _ _)
      exact h

theorem addTouch_keepsBounds (p : ProbeNo) (s : State) : KeepsBounds s (addTouch p s) :=
  changeCounts_keepsBounds fun ⟨_, hmiss⟩ => ⟨Nat.min_le_left _ _, hmiss⟩

theorem countFirstTouch_keepsBounds (p : ProbeNo) (pass : Bool) (s : State) : KeepsBounds s (countFirstTouch p pass s) :=
  changeCounts_keepsBounds fun ⟨htouch, _⟩ => ⟨htouch, by split <;> omega⟩

/-! ## Entries of the window: serving, failing, checks (R79..R85, R122..R127) -/

@[simp] theorem withRole_uid (i : Nat) (f : Role → Role) (e : Entry) : (withRole i f e).uid = e.uid := rfl
@[simp] theorem withMember_uid (i : Nat) (st : MemberState) (e : Entry) : (withMember i st e).uid = e.uid := rfl
@[simp] theorem failedEntry_uid (c : Cause) (d : Nat) (e : Entry) : (failedEntry c d e).uid = e.uid := rfl
@[simp] theorem preemptedEntry_uid (q : ProbeNo) (e : Entry) : (preemptedEntry q e).uid = e.uid := rfl

@[simp] theorem readyIfContact_uid (e : Entry) : (readyIfContact e).uid = e.uid := by
  unfold readyIfContact
  split <;> rfl

@[simp] theorem doneIfComplete_uid (e : Entry) : (doneIfComplete e).uid = e.uid := by
  unfold doneIfComplete
  split <;> rfl

@[simp] theorem measuredEntry_uid (g : Reading) (e : Entry) : (measuredEntry g e).uid = e.uid := by
  unfold measuredEntry
  split <;> rfl

/-- An entry changed, its number kept. -/
theorem updateEntry_keepsBounds (u : Nat) (f : Entry → Entry) (s : State) (hf : ∀ e, (f e).uid = e.uid) :
    KeepsBounds s (updateEntry u f s) := by
  refine .of_window ?_ (by simp)
  have h : (updateEntry u f s).window.map (·.uid) = s.window.map (·.uid) := by
    rw [updateEntry, List.map_map]
    refine List.map_congr_left fun e _ => ?_
    dsimp only [Function.comp]
    split
    · exact hf e
    · rfl
  rw [h]

theorem abortMeasurement_keepsBounds (s : State) : KeepsBounds s (abortMeasurement s) := .of_same (by simp)

theorem failEntry_keepsBounds (u : Nat) (c : Cause) (d : Nat) (s : State) : KeepsBounds s (failEntry u c d s) := by
  have hf : KeepsBounds s (updateEntry u (failedEntry c d) s) := updateEntry_keepsBounds u _ s (by simp)
  unfold failEntry
  split
  · exact .refl s
  · split
    · dsimp only
      split
      · exact hf.trans (abortMeasurement_keepsBounds _)
      · exact hf
    · exact .refl s

theorem liftProbe_keepsBounds (q : ProbeNo) (s : State) : KeepsBounds s (liftProbe q s) := by
  unfold liftProbe
  cases h : requestOrder q .lift s with
  | none => exact .refl s
  | some t => exact requestOrder_keepsBounds h

theorem resolveConflict_keepsBounds (e : Entry) (q : ProbeNo) (s : State) : KeepsBounds s (resolveConflict e q s) := by
  unfold resolveConflict
  split
  · exact .refl s
  · split
    · exact liftProbe_keepsBounds q s
    · split
      · split
        · exact .refl s
        · exact liftProbe_keepsBounds q s
      · split
        · split
          · exact .refl s
          next h => exact (requestOrder_keepsBounds h).trans (updateEntry_keepsBounds _ _ _ (by simp))
        · exact .refl s

theorem serveRole_keepsBounds (u i : Nat) (s : State) : KeepsBounds s (serveRole u i s) := by
  unfold serveRole
  split
  · exact .refl s
  · split
    · exact .refl s
    · split
      · dsimp only
        split
        · exact updateEntry_keepsBounds u _ s (by simp)
        · split
          · exact failEntry_keepsBounds _ _ _ s
          · split
            · split
              · exact .refl s
              next h => exact (requestOrder_keepsBounds h).trans (updateEntry_keepsBounds _ _ _ (by simp))
            · exact .foldl (fun s q => resolveConflict_keepsBounds _ q s) _ s
      · exact .refl s

theorem serveMember_keepsBounds (u i : Nat) (s : State) : KeepsBounds s (serveMember u i s) := by
  unfold serveMember
  split
  · exact .refl s
  · split
    · exact .refl s
    · split
      · dsimp only
        split
        · exact updateEntry_keepsBounds u _ s (by simp)
        · split
          · exact failEntry_keepsBounds _ _ _ s
          · split
            · exact .refl s
            next h => exact (requestOrder_keepsBounds h).trans (updateEntry_keepsBounds _ _ _ (by simp))
      · exact .refl s

theorem sweepFaulted_keepsBounds (u : Nat) (s : State) : KeepsBounds s (sweepFaulted u s) := by
  unfold sweepFaulted
  split
  · exact .refl s
  · split
    · exact .refl s
    · split
      · exact .refl s
      · exact failEntry_keepsBounds _ _ _ s

theorem serveEntry_keepsBounds (u : Nat) (s : State) : KeepsBounds s (serveEntry u s) := by
  unfold serveEntry
  split
  · exact .refl s
  · exact ((KeepsBounds.foldl (fun s i => serveRole_keepsBounds u i s) _ s).trans
      (KeepsBounds.foldl (fun s i => serveMember_keepsBounds u i s) _ _)).trans (sweepFaulted_keepsBounds u _)

theorem servingPass_keepsBounds (s : State) : KeepsBounds s (servingPass s) := by
  unfold servingPass
  split
  · exact .foldl (fun s u => serveEntry_keepsBounds u s) _ s
  · exact .refl s

theorem requestCheck_keepsBounds (p : ProbeNo) (c : CheckRec) (s : State) : KeepsBounds s (requestCheck p c s) := .of_same (by simp)

theorem roleLanded_keepsBounds (p : ProbeNo) (first : Bool) (s : State) : KeepsBounds s (roleLanded p first s) := by
  unfold roleLanded
  split
  · exact .refl s
  · split
    · exact .refl s
    · exact (updateEntry_keepsBounds _ _ s (by simp)).trans (requestCheck_keepsBounds _ _ _)

theorem memberCompleted_keepsBounds (p : ProbeNo) (k : EntryKind) (s : State) : KeepsBounds s (memberCompleted p k s) := by
  unfold memberCompleted
  split
  · exact .refl s
  · split
    · exact updateEntry_keepsBounds _ _ s (by simp)
    · exact .refl s

theorem chargeProbe_keepsBounds (p : ProbeNo) (c : Cause) (d : Nat) (s : State) : KeepsBounds s (chargeProbe p c d s) := by
  unfold chargeProbe
  split
  · exact .refl s
  · exact failEntry_keepsBounds _ _ _ s

theorem checkFailed_keepsBounds (p : ProbeNo) (e : Entry) (i : Nat) (r : Role) (s : State) :
    KeepsBounds s (checkFailed p e i r s) := by
  unfold checkFailed
  split
  · dsimp only
    split
    · exact .refl s
    next h => exact (requestOrder_keepsBounds h).trans (updateEntry_keepsBounds _ _ _ (by simp))
  · exact failEntry_keepsBounds _ _ _ s

theorem tableResult_keepsBounds (p : ProbeNo) (c : CheckRec) (pass : Bool) (s : State) :
    KeepsBounds s (tableResult p c pass s) := by
  have h1 : KeepsBounds s (if pass && atLanding (probe s p) c then setProbe p { probe s p with verified := true } s else s) := by
    split
    · exact setProbe_keepsBounds id
    · exact .refl s
  unfold tableResult
  dsimp only
  split
  · exact h1.trans (countFirstTouch_keepsBounds _ _ _)
  · exact h1

theorem windowResult_keepsBounds (p : ProbeNo) (c : CheckRec) (pass : Bool) (s : State) :
    KeepsBounds s (windowResult p c pass s) := by
  unfold windowResult
  split
  · exact .refl s
  · split
    · exact .refl s
    · split
      · split
        · exact updateEntry_keepsBounds _ _ s (by simp)
        · exact checkFailed_keepsBounds _ _ _ _ s
      · exact .refl s

theorem takeBack_keepsBounds (s : State) : KeepsBounds s (takeBack s) := by
  refine .of_window ?_ (by simp)
  rw [takeBack, List.map_map]
  simp [Function.comp_def, takenBack_uid]

theorem startDeferred_keepsBounds (s : State) : KeepsBounds s (startDeferred s) := .of_same (by simp)

theorem completeStep_keepsBounds (r : StepRec) (g : Reading) (s : State) : KeepsBounds s (completeStep r g s) := by
  have h1 : KeepsBounds s { s with unit := { s.unit with step := none, sourceOn := false, guardOn := false } } := .of_same (by simp)
  exact (h1.trans (updateEntry_keepsBounds _ _ _ (by simp))).trans (startDeferred_keepsBounds _)

end Sys2Proof.Machine
end

section
/-! PROOFS. What run control, the consequences of a step, the Diversion Unit, the logger and the notices do keeps the bounds. -/

namespace Sys2Proof.Machine

open Sys2Proof

/-! ## Run control's own sequences (R19, R20..R27) -/

/-- STOP and HALTED entry empty the window and end the transaction in flight. -/
theorem endActivity_keepsBounds (s : State) : KeepsBounds s (endActivity s) := by
  refine .of_parts (by simp) (by simp) (by simp) (by simp) (queueBounded_of_le (by simp)) (wearBounded_congr fun p => ?_)
  rw [probe_of_link (endActivity_link s)]
  exact ⟨rfl, rfl⟩

theorem runHaltSeqs_keepsBounds (l : List HaltSeq) (s : State) : KeepsBounds s (runHaltSeqs l s) := by
  induction l generalizing s with
  | nil => exact withRc_keepsBounds _ s
  | cons h t ih =>
    unfold runHaltSeqs
    split
    · exact .of_same (by simp)
    · exact .of_same (by simp)
    · exact ((pendRunEnd_keepsBounds s).trans (requestNotice_keepsBounds _ _ _ _ _)).trans (ih _)

theorem advanceHalt_keepsBounds (s : State) : KeepsBounds s (advanceHalt s) := by
  unfold advanceHalt
  split
  · exact .refl s
  · exact runHaltSeqs_keepsBounds _ s

/-- The ring goes out of force with its queued requests discarded (R179). -/
theorem ringOutOfForce_keepsBounds (s : State) : KeepsBounds s (ringOutOfForce s) :=
  .of_queue (queueBounded_of_le (Nat.zero_le _)) (by simp)

theorem enterHalted_keepsBounds (code : EndCode) (causes : Word) (s : State) : KeepsBounds s (enterHalted code causes s) := by
  have h1 := endActivity_keepsBounds s
  unfold enterHalted
  split
  · exact .refl s
  · dsimp only
    split
    · exact ((h1.trans (withRc_keepsBounds _ _)).trans (ringOutOfForce_keepsBounds _)).trans (pendRunEnd_keepsBounds _)
    · split
      · exact (h1.trans (withRc_keepsBounds _ _)).trans (runHaltSeqs_keepsBounds _ _)
      · exact (h1.trans (withRc_keepsBounds _ _)).trans (withRc_keepsBounds _ _)

theorem parkOne_keepsBounds (p : ProbeNo) (s : State) : KeepsBounds s (parkOne p s) := by
  unfold parkOne
  split
  · exact .refl s
  · split
    · exact .refl s
    next h => exact (requestOrder_keepsBounds h).trans (.of_same (by simp))

theorem parkAll_keepsBounds (s : State) : KeepsBounds s (parkAll s) := .foldl (fun s p => parkOne_keepsBounds p s) _ s

theorem enterStopping_keepsBounds (code : EndCode) (s : State) : KeepsBounds s (enterStopping code s) := .of_same (by simp)

theorem finishStopping_keepsBounds (s : State) : KeepsBounds s (finishStopping s) := .of_same ⟨rfl, rfl, rfl, rfl, rfl⟩

theorem runStopPhase_keepsBounds (ph : ClosePhase) (s : State) : KeepsBounds s (runStopPhase ph s) := by
  have h1 : KeepsBounds s { s with rc := { s.rc with stopSeq := some ph } } := .of_same (by simp)
  unfold runStopPhase
  dsimp only
  split
  · exact h1.trans (.of_same (by simp))
  · exact h1.trans (.of_same (by simp))
  · split
    · exact h1.trans (requestNotice_keepsBounds _ _ _ _ _)
    · exact h1.trans (finishStopping_keepsBounds _)

theorem stoppingParked_keepsBounds (s : State) : KeepsBounds s (stoppingParked s) := by
  unfold stoppingParked
  split
  · exact .refl s
  · exact parkAll_keepsBounds s

theorem stoppingSettle_keepsBounds (s : State) : KeepsBounds s (stoppingSettle s) := by
  by_cases h : s.rc.run = .stopping ∧ s.rc.stopSeq = none
  · rw [stoppingSettle_of_stopping h.1 h.2]
    split
    · exact (stoppingParked_keepsBounds s).trans (runStopPhase_keepsBounds _ _)
    · exact stoppingParked_keepsBounds s
  · rw [stoppingSettle_of_not h]
    exact .refl s

theorem enterChainWait_keepsBounds (s : State) : KeepsBounds s (enterChainWait s) := by
  exact ((withRc_keepsBounds _ s).trans (requestNotice_keepsBounds _ _ _ _ _)).trans (issue_keepsBounds _ _ _ _)

theorem enterBoardChange_keepsBounds (s : State) : KeepsBounds s (enterBoardChange s) := by
  refine KeepsBounds.trans ?_ (requestNotice_keepsBounds _ _ _ _ _)
  exact .of_same (by simp)

theorem areaMove_keepsBounds (s : State) : KeepsBounds s (areaMove s) := by
  have h1 : KeepsBounds s { s with rc := { s.rc with areaSeq := none } } := .of_same (by simp)
  by_cases h : s.rc.areaSeq = some .move ∧ s.rc.run = .running
  · rw [areaMove_of_move h.1 h.2]
    split
    · split
      · exact h1.trans (enterBoardChange_keepsBounds _)
      · exact h1.trans (enterChainWait_keepsBounds _)
    · exact h1.trans (enterStopping_keepsBounds _ _)
  · rw [areaMove_of_not h]
    exact .refl s

/-- The fetcher starts with an empty call stack and no transaction (R19, R23, R41). -/
theorem startList_keepsBounds (off : Nat) (s : State) : KeepsBounds s (startList off s) :=
  .of_fetch nofun (Nat.zero_le _) (by simp)

theorem mapProbes_keepsBounds {f : Probe → Probe} (h : ∀ r, (f r).touch = r.touch ∧ (f r).miss = r.miss) (s : State) :
    KeepsBounds s (mapProbes f s) :=
  .of_wear (wearBounded_congr fun p => by rw [probe_mapProbes]; exact h _) (by simp)

theorem runBegin_keepsBounds (s : State) : KeepsBounds s (runBegin s) := by
  have h1 : KeepsBounds s (loggerRunBegin s) := .of_same (by simp)
  have h2 : KeepsBounds (loggerRunBegin s) (mapProbes unfault (loggerRunBegin s)) :=
    mapProbes_keepsBounds (fun r => by unfold unfault; split <;> exact ⟨rfl, rfl⟩) _
  have h3 : KeepsBounds (startList s.rc.mainList (mapProbes unfault (loggerRunBegin s))) (runBegin s) :=
    .of_same ⟨rfl, rfl, rfl, rfl, rfl⟩
  exact ((h1.trans h2).trans (startList_keepsBounds _ _)).trans h3

theorem changeParked_keepsBounds (s : State) : KeepsBounds s (changeParked s) := by
  have h1 : KeepsBounds s (absenceNoted s) := .of_same ⟨rfl, rfl, rfl, rfl, rfl⟩
  exact h1.trans (parkAll_keepsBounds _)

theorem boardSettle_keepsBounds (s : State) : KeepsBounds s (boardSettle s) := by
  by_cases h : s.rc.run = .boardWait
  · cases hk : s.rc.waitKind with
    | seatAtStart =>
      rw [boardSettle_of_start h hk]
      split
      · exact (runBegin_keepsBounds s).trans (.of_same (by simp))
      · exact .refl s
    | seatAtSwitch =>
      rw [boardSettle_of_switch h hk]
      split
      · exact .of_same (by simp)
      · exact .refl s
    | change =>
      rw [boardSettle_of_change h hk]
      split
      · exact (changeParked_keepsBounds s).trans (enterChainWait_keepsBounds _)
      · exact changeParked_keepsBounds s
  · rw [boardSettle_of_not h]
    exact .refl s

/-! ## The consequences of a step (R42, R133) -/

/-- The conditions under which a transaction can begin (R42). -/
theorem canBegin_iff (s : State) : canBegin s = true ↔ s.rc.run = .running ∧ s.window.length < 8 ∧ s.fetch.held = none
    ∧ s.fetch.txn = none ∧ hasReq .fetch s = false ∧ s.fetch.stopped = false := by
  simp [canBegin, and_assoc]

/-- A transaction begins only where the window has a place for its entry (R42). -/
theorem beginTxn_keepsBounds (s : State) : KeepsBounds s (beginTxn s) := by
  unfold beginTxn
  split
  next h =>
    obtain ⟨-, hplace, -⟩ := (canBegin_iff s).1 h
    exact ⟨fun _ => hplace, id, id, id, id⟩
  · exact .refl s

theorem interlock_keepsBounds (s : State) : KeepsBounds s (interlock s) := by
  rcases interlock_cases s with h | h
  · rw [h]
    exact .refl s
  · rw [h]
    exact abortMeasurement_keepsBounds s

theorem settle_keepsBounds (s : State) : KeepsBounds s (settle s) :=
  ((((((areaMove_keepsBounds s).trans (boardSettle_keepsBounds _)).trans (stoppingSettle_keepsBounds _)).trans
    (servingPass_keepsBounds _)).trans (beginTxn_keepsBounds _)).trans (interlock_keepsBounds _))

theorem sealPort_keepsBounds (s : State) : KeepsBounds s (sealPort s) := .of_same (by simp)

/-! ## The Diversion Unit, the logger and the measurement's completion -/

/-- A flush leaves no entry and no transaction (R93). -/
theorem flush_keepsBounds (s : State) : KeepsBounds s (flush s) := by
  refine .of_parts (by simp [flush]) (by simp) (by simp [flush]) (by simp [flush])
    (queueBounded_of_le (by simp)) (wearBounded_congr fun p => ?_)
  rw [probe_of_link (flush_link s)]
  exact ⟨rfl, rfl⟩

theorem haltByTable_keepsBounds (s : State) : KeepsBounds s (haltByTable s) :=
  (flush_keepsBounds s).trans (enterHalted_keepsBounds _ _ _)

theorem haltDoubleFault_keepsBounds (c : Cause) (s : State) : KeepsBounds s (haltDoubleFault c s) := by
  have h1 : KeepsBounds s { s with div := { s.div with secondCause := some c } } := .of_same (by simp)
  exact (h1.trans (flush_keepsBounds _)).trans (enterHalted_keepsBounds _ _ _)

/-- A rewind cuts the call stack to the depth of the snapshot (R59). -/
theorem rewindRecovery_keepsBounds (list bank : Nat) (snap : Snapshot) (s : State) :
    KeepsBounds s (rewindRecovery list bank snap s) := .of_fetch nofun (List.length_take_le' _ _) (by simp)

theorem rewindReturn_keepsBounds (after : Bool) (bank : Nat) (snap : Snapshot) (s : State) :
    KeepsBounds s (rewindReturn after bank snap s) := .of_fetch nofun (List.length_take_le' _ _) (by simp)

theorem enterDiversion_keepsBounds (after : Bool) (c : Cause) (snap : Snapshot) (s : State) :
    KeepsBounds s (enterDiversion after c snap s) := by
  exact ((((flush_keepsBounds s).trans (withDiv_keepsBounds _ _)).trans (rewindRecovery_keepsBounds _ _ _ _)).trans (withDiv_keepsBounds _ _)).trans
    (requestNotice_keepsBounds _ _ _ _ _)

theorem failureStep_keepsBounds (e : Entry) (s : State) : KeepsBounds s (failureStep e s) := by
  unfold failureStep decideRecoveryFailure decideFailure
  split
  · split
    · split
      · exact .refl s
      · exact haltDoubleFault_keepsBounds _ s
      · exact haltByTable_keepsBounds s
    · dsimp only
      split
      · exact .refl s
      · exact enterDiversion_keepsBounds _ _ _ s
      · exact haltByTable_keepsBounds s
  · exact .refl s

theorem tipService_keepsBounds (e : Entry) (s : State) : KeepsBounds s (tipService e s) := by
  unfold tipService
  split
  · exact .refl s
  · split
    · exact .refl s
    · exact enterDiversion_keepsBounds _ _ _ s
    · exact haltByTable_keepsBounds s

theorem retryBookkeeping_keepsBounds (e : Entry) (s : State) : KeepsBounds s (retryBookkeeping e s) := by
  unfold retryBookkeeping
  split
  · exact .refl s
  · split
    · exact .refl s
    · exact .of_same (by simp)

/-- The head leaves the window. -/
theorem removeHead_keepsBounds (e : Entry) (s : State) : KeepsBounds s (removeHead e s) := by
  have h1 : KeepsBounds s { s with window := s.window.drop 1 } := .of_window ((List.drop_sublist _ _).map _) (by simp)
  exact ((h1.trans (retryBookkeeping_keepsBounds e _)).trans (failureStep_keepsBounds e _)).trans
    (tipService_keepsBounds e _)

theorem resumeDiversion_keepsBounds (m : ResumeMode) (s : State) : KeepsBounds s (resumeDiversion m s) := by
  have hend : ∀ m u, KeepsBounds u (endDiversion m u) := fun m u => (withDiv_keepsBounds _ _).trans (requestNotice_keepsBounds _ _ _ _ _)
  unfold resumeDiversion
  split
  · exact haltByTable_keepsBounds s
  · exact ((withDiv_keepsBounds _ _).trans (rewindReturn_keepsBounds _ _ _ _)).trans (hend _ _)
  · exact (rewindReturn_keepsBounds _ _ _ _).trans (hend _ _)
  · exact .refl s
  · exact .refl s

theorem noticeFailure_keepsBounds (seq : Nat) (e : Entry) (s : State) : KeepsBounds s (noticeFailure seq e s) := by
  unfold noticeFailure
  split
  · exact requestNotice_keepsBounds _ _ _ _ s
  · exact .refl s

theorem takeHead_keepsBounds (e : Entry) (s : State) : KeepsBounds s (takeHead e s) := by
  have h1 : KeepsBounds s (writeRecord e s) := .of_same (by simp)
  have h2 : ∀ u, KeepsBounds u { u with rc := { u.rc with summary := countRemoval e u.rc.summary } } := fun u => .of_same (by simp)
  exact ((h1.trans (h2 _)).trans (noticeFailure_keepsBounds _ e _)).trans (removeHead_keepsBounds e _)

theorem setHeld_keepsBounds (s : State) : KeepsBounds s (setHeld s) := by
  have h1 : KeepsBounds s { s with log := { s.log with held := true, waiting := false } } := .of_same (by simp)
  exact (h1.trans (requestNotice_keepsBounds _ _ _ _ _)).trans (pendLogHeld_keepsBounds _)

theorem roomRetest_keepsBounds (s : State) : KeepsBounds s (roomRetest s) := by
  have h1 : KeepsBounds s { s with log := { s.log with held := false, waiting := false } } := .of_same (by simp)
  unfold roomRetest
  split
  · split
    · dsimp only
      split
      · split
        · exact h1
        · exact h1.trans (takeHead_keepsBounds _ _)
      · exact h1
    · split
      · exact .refl s
      · exact setHeld_keepsBounds s
  · exact .refl s

theorem readReleaseAgain_keepsBounds (s : State) : KeepsBounds s (readReleaseAgain s) := .of_same (by simp)

theorem releaseRead_keepsBounds (v : Word) (s : State) : KeepsBounds s (releaseRead v s) := by
  have h1 : KeepsBounds s (releaseTaken v s) := .of_same ⟨rfl, rfl, rfl, rfl, rfl⟩
  unfold releaseRead
  dsimp only
  split
  · exact h1.trans (roomRetest_keepsBounds _)
  · split
    · exact h1.trans (readReleaseAgain_keepsBounds _)
    · split
      · exact h1
      · exact h1.trans (roomRetest_keepsBounds _)

theorem logMarks_keepsBounds (f seq : Nat) (s : State) : KeepsBounds s (logMarks f seq s) := by
  unfold logMarks
  split
  · exact requestNotice_keepsBounds _ _ _ _ s
  · split
    · exact requestNotice_keepsBounds _ _ _ _ s
    · exact .refl s

theorem recordWritten_keepsBounds (s : State) : KeepsBounds s (recordWritten s) := by
  exact (((withLog_keepsBounds _ s).trans (issue_keepsBounds _ _ _ _)).trans (logMarks_keepsBounds _ _ _)).trans
    (withLog_keepsBounds _ _)

theorem captureMarks_keepsBounds (old new : Nat) (s : State) : KeepsBounds s (captureMarks old new s) := by
  unfold captureMarks
  split
  · exact requestNotice_keepsBounds _ _ _ _ s
  · split
    · exact requestNotice_keepsBounds _ _ _ _ s
    · exact .refl s

theorem captureTaken_keepsBounds (r : StepRec) (s : State) : KeepsBounds s (captureTaken r s) := by
  have h : ∀ (l l' : Logger) (a : Nat) (w : ReqBody) (old new : Nat),
      KeepsBounds s { captureMarks old new (issue .captureFill a w { s with log := l }) with log := l' } :=
    fun l l' a w old new => (((withLog_keepsBounds l s).trans (issue_keepsBounds _ a w _)).trans
      (captureMarks_keepsBounds old new _)).trans (withLog_keepsBounds l' _)
  unfold captureTaken
  dsimp only
  split
  · exact (h _ _ _ _ _ _).trans (completeStep_keepsBounds _ _ _)
  · exact h _ _ _ _ _ _

theorem captureAcked_keepsBounds (live : Bool) (s : State) : KeepsBounds s (captureAcked live s) := by
  unfold captureAcked
  split
  · exact .refl s
  · split
    · split
      · exact captureTaken_keepsBounds _ s
      · exact .of_same (by simp)
    · exact .of_same (by simp)

end Sys2Proof.Machine
end

section
/-! PROOFS. What the fetcher, the notices, the closing writes and the loading do keeps the bounds. -/

namespace Sys2Proof.Machine

open Sys2Proof

/-! ## The fetcher: a transaction goes on, or ends with its entry placed (R42, R52..R54) -/

/-- A transaction in flight has kept the place for the entry that ends it (R42), which takes the next number (R74). -/
theorem placeEntry_keepsBounds {e : Entry} {s : State} (h : s.fetch.txn.isSome = true) (he : e.uid = s.nextUid) :
    KeepsBounds s (placeEntry e s) where
  window := fun hs => by
    unfold WindowBounded at *
    rw [if_pos h] at hs
    simpa [placeEntry, nextIndex] using hs
  stack := id
  queue := id
  wear := id
  entries := fun ⟨hd, hlt⟩ => by
    have hnew : e.uid ∉ s.window.map (·.uid) := fun hc => by
      obtain ⟨e', he', heq⟩ := List.mem_map.1 hc
      have := hlt e' he'
      omega
    refine ⟨?_, fun e' he' => ?_⟩
    · simpa [placeEntry, nextIndex] using hd.append (List.nodup_singleton e.uid) (by simpa using hnew)
    · rcases List.mem_append.1 he' with he' | he'
      · exact Nat.lt_succ_of_lt (hlt e' he')
      · obtain rfl := List.mem_singleton.1 he'
        exact Nat.lt_succ_of_le he.le

@[simp] theorem asWritten_uid (ws : List Word) (e : Entry) : (asWritten ws e).uid = e.uid := by
  unfold asWritten
  split <;> rfl

@[simp] theorem blankEntry_uid (s : State) (k : EntryKind) (st : EntryState) (ws : List Word) :
    (blankEntry s k st ws).uid = s.nextUid := rfl

theorem hold_keepsBounds (e : HeldEntry) (s : State) : KeepsBounds s (hold e s) := .of_fetch nofun le_rfl (by simp)

section
variable {s : State} (h : s.fetch.txn.isSome = true)
include h

theorem placeProgramError_keepsBounds (d : ProgramError) (ws : List Word) : KeepsBounds s (placeProgramError d ws s) :=
  placeEntry_keepsBounds h (by simp)

theorem placeLandingRefused_keepsBounds (d : Nat) (ws : List Word) (pts : List PointRec) :
    KeepsBounds s (placeLandingRefused d ws pts s) := placeEntry_keepsBounds h (by simp)

theorem placeMeasure_keepsBounds (ws : List Word) (pts : List PointRec) (lim : Option LimitRec) (k : MeasKind) :
    KeepsBounds s (placeMeasure ws pts lim k s) := placeEntry_keepsBounds h (by simp)

/-- The transaction goes on with another read. -/
theorem issueTxn_keepsBounds (x : Txn) (a : Nat) (b : ReqBody) :
    KeepsBounds s (issue .fetch a b { s with fetch := { s.fetch with txn := some x } }) :=
  .of_fetch (fun _ => h) le_rfl (by simp)

theorem landFrom_keepsBounds (ws : List Word) (pts : List PointRec) (lim : Option LimitRec) (k : MeasKind) (i : Nat) :
    KeepsBounds s (landFrom ws pts lim k i s) := by
  unfold landFrom
  split
  · split
    · exact placeLandingRefused_keepsBounds h _ _ _
    · dsimp only
      split
      · exact placeLandingRefused_keepsBounds h _ _ _
      · split
        · exact placeLandingRefused_keepsBounds h _ _ _
        · exact issueTxn_keepsBounds h _ _ _
  · exact placeMeasure_keepsBounds h _ _ _ _

theorem keepOutRead_keepsBounds (ws : List Word) (pts : List PointRec) (lim : Option LimitRec) (k : MeasKind) (i : Nat)
    (w : Word) : KeepsBounds s (keepOutRead ws pts lim k i w s) := by
  unfold keepOutRead
  split
  · exact placeMeasure_keepsBounds h _ _ _ _
  · split
    · exact placeLandingRefused_keepsBounds h _ _ _
    · split
      · exact placeLandingRefused_keepsBounds h _ _ _
      · split
        · exact placeLandingRefused_keepsBounds h _ _ _
        · exact landFrom_keepsBounds h _ _ _ _ _

theorem recordsRead_keepsBounds (ws : List Word) (pts : List PointRec) (given : Bool) (lim : Option LimitRec) :
    KeepsBounds s (recordsRead ws pts given lim s) := by
  unfold recordsRead
  split
  · exact placeProgramError_keepsBounds h _ _
  · exact landFrom_keepsBounds h _ _ _ _ _
  · exact placeProgramError_keepsBounds h _ _

theorem readPoints_keepsBounds (ws : List Word) (pts : List PointRec) : KeepsBounds s (readPoints ws pts s) := by
  unfold readPoints
  split
  · exact placeProgramError_keepsBounds h _ _
  · split
    · exact issueTxn_keepsBounds h _ _ _
    · split
      · exact issueTxn_keepsBounds h _ _ _
      · exact recordsRead_keepsBounds h _ _ _ _

theorem groupRead_keepsBounds (ws : List Word) (w : Word) : KeepsBounds s (groupRead ws w s) := by
  unfold groupRead
  split
  · split
    · exact placeProgramError_keepsBounds h _ _
    · exact readPoints_keepsBounds h _ _
  · split
    · exact placeEntry_keepsBounds h (by simp)
    · exact .of_fetch nofun le_rfl (by simp)

/-- A CALL is made only at a depth below 4 (R44). -/
theorem actCall_keepsBounds (ws : List Word) : KeepsBounds s (actCall ws s) := by
  unfold actCall
  split
  · exact placeProgramError_keepsBounds h _ _
  · split
    · exact placeProgramError_keepsBounds h _ _
    · split
      · exact placeProgramError_keepsBounds h _ _
      next hdepth =>
        refine ⟨fun hs => (Nat.add_le_add_left (Nat.zero_le _) _).trans hs, fun _ => ?_, id, id, id⟩
        simp only [StackBounded, List.length_append, List.length_singleton]
        omega

theorem entryRead_keepsBounds (ws : List Word) : KeepsBounds s (entryRead ws s) := by
  unfold entryRead
  split
  · exact issueTxn_keepsBounds h _ _ _
  · exact actCall_keepsBounds h ws
  · unfold actReturn
    split
    · exact placeProgramError_keepsBounds h _ _
    · split
      · exact placeProgramError_keepsBounds h _ _
      · exact hold_keepsBounds _ s
  · unfold actMainOnly
    split
    · exact placeProgramError_keepsBounds h _ _
    · exact hold_keepsBounds _ s
  · unfold actMainOnly
    split
    · exact placeProgramError_keepsBounds h _ _
    · exact hold_keepsBounds _ s
  · exact placeEntry_keepsBounds h rfl
  · unfold actSetBank
    split
    · exact .of_fetch nofun le_rfl (by simp)
    · exact placeProgramError_keepsBounds h _ _
  · exact placeEntry_keepsBounds h rfl
  · exact placeEntry_keepsBounds h rfl
  · unfold actResume
    split
    · exact placeProgramError_keepsBounds h _ _
    · split
      · exact placeProgramError_keepsBounds h _ _
      · exact hold_keepsBounds _ s
  · exact placeProgramError_keepsBounds h _ _

end

/-- A read of the fetcher acts only on a transaction in flight (R42). -/
theorem txnRead_keepsBounds (ws : List Word) (s : State) : KeepsBounds s (txnRead ws s) := by
  cases ht : s.fetch.txn with
  | none =>
    rw [txnRead, ht]
    exact .refl s
  | some x =>
    have h : s.fetch.txn.isSome = true := by rw [ht]; rfl
    rw [txnRead, ht]
    cases x with
    | entry => exact entryRead_keepsBounds h ws
    | group es => exact groupRead_keepsBounds h es _
    | points es pts => exact readPoints_keepsBounds h es _
    | limit es pts => exact recordsRead_keepsBounds h es pts _ _
    | keepOut es pts lim i =>
      dsimp only
      split
      · exact placeProgramError_keepsBounds h _ _
      · exact keepOutRead_keepsBounds h _ _ _ _ _ _

/-- A RETURN pops a frame (R46). -/
theorem popFrame_keepsBounds (s : State) : KeepsBounds s (popFrame s) := by
  unfold popFrame
  split
  · exact .of_fetch id le_rfl (by simp)
  · exact .of_fetch id (by simp) (by simp)

/-! ## The notices, the closing writes, memory errors and the loading -/

theorem areaWritten_keepsBounds (s : State) : KeepsBounds s (areaWritten s) := by
  have h1 : ∀ ph, KeepsBounds s { s with rc := { s.rc with areaSeq := some ph } } := fun ph => .of_same (by simp)
  unfold areaWritten
  split
  · exact .of_same ⟨rfl, rfl, rfl, rfl, rfl⟩
  · exact .of_same ⟨rfl, rfl, rfl, rfl, rfl⟩
  · exact (h1 _).trans (requestNotice_keepsBounds _ _ _ _ _)
  all_goals exact .refl s

theorem stoppingWritten_keepsBounds (s : State) : KeepsBounds s (stoppingWritten s) := by
  unfold stoppingWritten
  split
  · exact .refl s
  · exact .refl s
  · exact runStopPhase_keepsBounds _ s

theorem afterNotice_keepsBounds (m : NoticeMark) (s : State) : KeepsBounds s (afterNotice m s) := by
  cases m with
  | area => exact withRc_keepsBounds _ s
  | stopping => exact finishStopping_keepsBounds s
  | plain => exact .refl s
  | halt => exact .refl s

theorem startNotice_keepsBounds (s : State) : KeepsBounds s (startNotice s) := .of_same (by simp)

/-- The oldest request leaves the queue with its record acknowledged (R180). -/
theorem noticeWritten_keepsBounds (s : State) : KeepsBounds s (noticeWritten s) := by
  unfold noticeWritten
  split
  · exact .refl s
  next n q hq =>
    have h1 : KeepsBounds s { s with notice := advanceFill { s.notice with queue := q } } :=
      .of_queue (queueBounded_of_le (by simp [advanceFill, hq])) (by simp)
    have h2 : ∀ a w, KeepsBounds s (issue .noticeFill a w { s with notice := advanceFill { s.notice with queue := q } }) :=
      fun a w => h1.trans (issue_keepsBounds _ a w _)
    dsimp only
    refine ((KeepsBounds.trans ?_ (refillNotices_keepsBounds _)).trans (afterNotice_keepsBounds _ _)).trans
      (startNotice_keepsBounds _)
    split
    · exact (h2 _ _).trans (pendNotice_keepsBounds _)
    · exact h2 _ _

theorem serve_keepsBounds {k : ReqKind} {s s1 : State} {r : Request} {ws : List Word} (h : serve k s = some (r, ws, s1)) :
    KeepsBounds s s1 := by
  obtain ⟨m, q, rfl⟩ := serve_eq h
  exact .of_same (by simp)

theorem completeNotice_keepsBounds {s s1 : State} (h : completeNotice s = some s1) : KeepsBounds s s1 := by
  unfold completeNotice at h
  split at h
  · cases h
  next hs =>
    cases h
    split
    · exact (serve_keepsBounds hs).trans (noticeWritten_keepsBounds _)
    · exact (serve_keepsBounds hs).trans (startNotice_keepsBounds _)

theorem dropFrontNotice_keepsBounds (s : State) : KeepsBounds s (dropFrontNotice s) := by
  have h1 : KeepsBounds s { s with notice := { s.notice with queue := s.notice.queue.drop 1 } } :=
    .of_queue (queueBounded_of_le (by simp)) (by simp)
  exact h1.trans (refillNotices_keepsBounds _)

/-- Of a request that fails, the fetcher's ends the transaction and the notice unit's leaves the queue (R14). -/
theorem requestFailed_keepsBounds (r : Request) (s : State) : KeepsBounds s (requestFailed r s) := by
  unfold requestFailed releaseFailed
  split
  case h_3 =>
    split
    · exact dropFrontNotice_keepsBounds s
    · exact .refl s
  case h_4 => exact advanceHalt_keepsBounds s
  case h_5 =>
    split
    · exact .of_fetch nofun le_rfl (by simp)
    · exact .refl s
  all_goals (repeat' split) <;> exact .of_same (by simp)

theorem haltMemoryError_keepsBounds (s : State) : KeepsBounds s (haltMemoryError s) := by
  unfold haltMemoryError
  split
  · exact .refl s
  · exact enterHalted_keepsBounds _ _ s

theorem memoryErrorTaken_keepsBounds (r : Request) (s : State) : KeepsBounds s (memoryErrorTaken r s) := by
  exact (((requestFailed_keepsBounds r s).trans (pendMemoryError_keepsBounds _)).trans (haltMemoryError_keepsBounds _)).trans
    (startNotice_keepsBounds _)

theorem areaSwitch_keepsBounds (ws : List Word) (s : State) : KeepsBounds s (areaSwitch ws s) := .of_fetch nofun (Nat.zero_le _)
  ⟨rfl, rfl, rfl, rfl⟩

theorem runWordRead_keepsBounds (ws : List Word) (s : State) : KeepsBounds s (runWordRead ws s) := by
  unfold runWordRead
  split
  · exact enterHalted_keepsBounds _ _ s
  · dsimp only
    split
    · exact (areaSwitch_keepsBounds ws s).trans (withRc_keepsBounds _ _)
    · exact ((areaSwitch_keepsBounds ws s).trans (withRc_keepsBounds _ _)).trans (requestNotice_keepsBounds _ _ _ _ _)

theorem startInto_keepsBounds (st : RunState) (s : State) : KeepsBounds s (startInto st s) := by
  unfold startInto
  split <;> exact .of_same (by simp)

theorem startChecks_keepsBounds (ws : List Word) (s : State) : KeepsBounds s (startChecks ws s) := by
  have h1 : KeepsBounds s (recordRunWord ws { s with rc := { s.rc with loadStep := none } }) :=
    .of_same ⟨rfl, rfl, rfl, rfl, rfl⟩
  unfold startChecks
  split
  · exact enterHalted_keepsBounds _ _ s
  · split
    · refine KeepsBounds.trans ?_ (requestNotice_keepsBounds _ _ _ _ _)
      exact .of_same ⟨rfl, rfl, rfl, rfl, rfl⟩
    · split
      · exact enterHalted_keepsBounds _ _ s
      · dsimp only
        split
        · exact (h1.trans (runBegin_keepsBounds _)).trans (startInto_keepsBounds _ _)
        · refine KeepsBounds.trans (KeepsBounds.trans (h1.trans ?_) (requestNotice_keepsBounds _ _ _ _ _))
            (startInto_keepsBounds _ _)
          exact .of_same (by simp)

/-- The wear counts are loaded clamped to their ranges (R36). -/
theorem loadWear_keepsBounds (ws : List Word) (s : State) : KeepsBounds s (loadWear ws s) := by
  refine .of_wear (fun _ p => ?_) (by simp)
  rw [probe, loadWear, Per.get_make]
  obtain ⟨htouch, hmiss, -⟩ := loadedProbe_eq s.settings (fieldNat ws (8 * p.val)) (fieldNat ws (8 * p.val + 4)) (probe s p)
  rw [htouch, hmiss]
  exact ⟨Nat.min_le_left _ _, Nat.min_le_left _ _⟩

theorem loadNext_keepsBounds (st : LoadStep) (addr words : Nat) (s : State) : KeepsBounds s (loadNext st addr words s) :=
  .of_same ⟨rfl, rfl, rfl, rfl, rfl⟩

theorem ringIntoForce_keepsBounds (s : State) : KeepsBounds s (ringIntoForce s) :=
  .of_queue (fun _ => by simp [QueueBounded, Config.noticeQueueSize]) (by simp)

theorem loadingRead_keepsBounds (base : Nat) (ws : List Word) (s : State) : KeepsBounds s (loadingRead base ws s) := by
  unfold loadingRead
  split
  · exact .refl s
  · unfold anchorRead
    dsimp only
    split
    · refine KeepsBounds.trans (KeepsBounds.trans ?_ (ringIntoForce_keepsBounds _)) (loadNext_keepsBounds _ _ _ _)
      exact .of_same (by simp)
    · refine KeepsBounds.trans ?_ (enterHalted_keepsBounds _ _ _)
      exact .of_same (by simp)
  · exact .of_same (by simp)
  · refine KeepsBounds.trans ?_ (loadNext_keepsBounds _ _ _ _)
    exact .of_same (by simp)
  · exact .of_same (by simp)
  · exact (loadWear_keepsBounds ws s).trans (loadNext_keepsBounds _ _ _ _)
  · exact startChecks_keepsBounds ws s

end Sys2Proof.Machine
end

section
/-! PROOFS. What each command keeps of the bounds, and every step. -/

namespace Sys2Proof.Machine

open Sys2Proof

/-! ## The events of the lines, the link and the probes -/

/-- A change of the link that keeps every wear count. -/
theorem KeepsBounds.of_counts {s t : State}
    (h : ∀ p, (probe t p).touch = (probe s p).touch ∧ (probe t p).miss = (probe s p).miss)
    (hs : t.window = s.window ∧ t.nextUid = s.nextUid ∧ t.fetch = s.fetch ∧ t.notice = s.notice) : KeepsBounds s t :=
  .of_wear (wearBounded_congr h) hs

theorem voidedProbe_counts (r : Probe) : (voidedProbe r).touch = r.touch ∧ (voidedProbe r).miss = r.miss := by
  unfold voidedProbe
  split <;> exact ⟨rfl, rfl⟩

theorem voidOrders_keepsBounds (s : State) : KeepsBounds s (voidOrders s) :=
  .of_counts (fun p => by rw [probe_voidOrders]; exact voidedProbe_counts _) (by simp)

theorem sendStop_keepsBounds (s : State) : KeepsBounds s (sendStop s) :=
  .of_counts (fun p => by rw [probe_sendStop]; exact ⟨rfl, rfl⟩) (by simp)

theorem allUnknown_keepsBounds (s : State) : KeepsBounds s (allUnknown s) :=
  mapProbes_keepsBounds (f := unknownProbe) (fun _ => ⟨rfl, rfl⟩) s

/-- The STOP state and the link status changed. -/
theorem withStop_keepsBounds (stop : Option Nat) (up : Bool) (s : State) :
    KeepsBounds s { s with link := { s.link with stop := stop, up := up } } :=
  .of_counts (fun _ => ⟨rfl, rfl⟩) (by simp)

theorem stopEnded_keepsBounds (s : State) : KeepsBounds s (stopEnded s) :=
  ((withStop_keepsBounds none s.link.up s).trans (allUnknown_keepsBounds _)).trans (abortMeasurement_keepsBounds _)

theorem loseLink_keepsBounds (s : State) : KeepsBounds s (loseLink s) := by
  unfold loseLink
  split
  · exact .refl s
  · exact enterHalted_keepsBounds _ _ s

theorem markParkFailed_keepsBounds (p : ProbeNo) (o : Option Order) (s : State) : KeepsBounds s (markParkFailed p o s) := .of_same (by simp)

theorem faultProbe_keepsBounds (p : ProbeNo) (code : Byte) (c : Cause) (d : Nat) (s : State) :
    KeepsBounds s (faultProbe p code c d s) := by
  have h1 : KeepsBounds s (endOrder p (faultedProbe code (probe s p)) s) := endOrder_keepsBounds id
  rw [faultProbe_eq]
  refine KeepsBounds.trans (KeepsBounds.trans ?_ (markParkFailed_keepsBounds _ _ _)) (chargeProbe_keepsBounds _ _ _ _)
  unfold faultEnded
  split
  · exact h1.trans (abortMeasurement_keepsBounds _)
  · exact h1

theorem landProbe_keepsBounds (p : ProbeNo) (first : Bool) (s : State) : KeepsBounds s (landProbe p first s) :=
  ((endOrder_keepsBounds (r := completedProbe .landed (probe s p)) id).trans (addTouch_keepsBounds _ _)).trans
    (roleLanded_keepsBounds _ _ _)

theorem boardLossByState_keepsBounds (s : State) : KeepsBounds s (boardLossByState s) := by
  have hv := voidOrders_keepsBounds s
  have hstop := (hv.trans (sendStop_keepsBounds _)).trans (abortMeasurement_keepsBounds _)
  unfold boardLossByState
  split
  · exact hstop.trans (enterHalted_keepsBounds _ _ _)
  · exact hstop.trans (enterHalted_keepsBounds _ _ _)
  · split
    · exact (hv.trans (abortMeasurement_keepsBounds _)).trans (enterHalted_keepsBounds _ _ _)
    · unfold seeAbsent
      split
      · exact withRc_keepsBounds _ s
      · exact .refl s
  all_goals exact .refl s

theorem guardNotice_keepsBounds (k : NoticeKind) (s : State) : KeepsBounds s (guardNotice k s) := by
  unfold guardNotice
  split
  · exact .refl s
  · exact requestNotice_keepsBounds _ _ _ _ s

theorem guardStop_keepsBounds (s : State) : KeepsBounds s (guardStop s) :=
  (((((withRc_keepsBounds _ s).trans (pendGuard_keepsBounds _)).trans (guardNotice_keepsBounds _ _)).trans
    (voidOrders_keepsBounds _)).trans (sendStop_keepsBounds _)).trans (abortMeasurement_keepsBounds _)

theorem guardByState_keepsBounds (s : State) : KeepsBounds s (guardByState s) := .of_same (by simp)

/-! ## How a command that keeps the bounds ends -/

theorem KeepsBounds.finish {s u : State} (h : KeepsBounds s u) : Ends (finish u) (KeepsBounds s) :=
  (ends_finish _ _).2 ((h.trans (settle_keepsBounds u)).trans (sealPort_keepsBounds _))

theorem KeepsBounds.done {s u : State} (h : KeepsBounds s u) : Ends (done u) (KeepsBounds s) :=
  (ends_done _ _).2 (h.trans (sealPort_keepsBounds u))

theorem KeepsBounds.next {s u : State} (h : KeepsBounds s u) : Ends (.next u) (KeepsBounds s) := (ends_next _ _).2 h

theorem ends_refl (s : State) : Ends (.next s) (KeepsBounds s) := (KeepsBounds.refl s).next

theorem setRefused_keepsBounds (s : State) : Ends (.next (setRefused s)) (KeepsBounds s) := KeepsBounds.next (.of_same (by simp))

/-! ## The host's commands and resets -/

theorem startRun_keepsBounds (which : Area) (s : State) : KeepsBounds s (startRun which s) := by
  have h1 : KeepsBounds s (enterStarting which s) := .of_same ⟨rfl, rfl, rfl, rfl, rfl⟩
  by_cases hg : anchorGood s.regs.anchor.toNat = true
  · rw [startRun_of_good which hg]
    exact h1.trans (issue_keepsBounds _ _ _ _)
  · rw [startRun_of_bad which hg]
    exact h1.trans (enterHalted_keepsBounds _ _ _)

theorem execStartA_keepsBounds (s : State) : Ends (execStartA s) (KeepsBounds s) := by
  unfold execStartA
  split
  · exact (startRun_keepsBounds .a s).done
  · exact setRefused_keepsBounds s

theorem execStartB_keepsBounds (s : State) : Ends (execStartB s) (KeepsBounds s) := by
  unfold execStartB
  split
  · exact (startRun_keepsBounds .b s).done
  · exact setRefused_keepsBounds s

theorem continuePaused_keepsBounds (s : State) : KeepsBounds s (continuePaused s) := .of_fetch id le_rfl ⟨rfl, rfl, rfl, rfl⟩

theorem execContinueRun_keepsBounds (s : State) : Ends (execContinueRun s) (KeepsBounds s) := by
  unfold execContinueRun
  split
  · exact (continuePaused_keepsBounds s).finish
  · split
    · exact KeepsBounds.finish (.of_same (by simp))
    · exact setRefused_keepsBounds s
  all_goals exact setRefused_keepsBounds s

theorem execStop_keepsBounds (s : State) : Ends (execStop s) (KeepsBounds s) := by
  unfold execStop
  split
  case h_7 => exact (enterStopping_keepsBounds _ s).finish
  case h_8 => exact setRefused_keepsBounds s
  case h_9 => exact setRefused_keepsBounds s
  all_goals exact ((endActivity_keepsBounds s).trans (enterStopping_keepsBounds _ _)).finish

theorem execRoom_keepsBounds (s : State) : Ends (execRoom s) (KeepsBounds s) := by
  unfold execRoom
  split
  · exact KeepsBounds.done (.of_same (by simp))
  · exact ends_refl s

theorem execUndefinedCommandCode_keepsBounds (code : Byte) (s : State) :
    Ends (execUndefinedCommandCode code s) (KeepsBounds s) := by
  unfold execUndefinedCommandCode
  split
  · exact ends_refl s
  · exact setRefused_keepsBounds s

theorem execAnchorWrite_keepsBounds (v : Word) (s : State) : Ends (execAnchorWrite v s) (KeepsBounds s) := by
  unfold execAnchorWrite
  split
  · exact KeepsBounds.next (.of_same (by simp))
  · exact setRefused_keepsBounds s

/-- A reset leaves every queue and list empty (R37); the wear counts are cleared or kept (R98). -/
theorem resetWith_keepsBounds (g : RegWindow) {ps : Per Probe} {s : State}
    (hp : WearBounded s → ∀ p, (ps.get p).touch ≤ 65535 ∧ (ps.get p).miss ≤ 15) : KeepsBounds s (resetWith g ps s) := by
  have hw : (resetWith g ps s).window = [] := rfl
  have hf : (resetWith g ps s).fetch = Fetcher.reset := rfl
  have hn : (resetWith g ps s).notice = NoticeUnit.reset := rfl
  refine ⟨fun _ => ?_, fun _ => ?_, fun _ => ?_, hp, fun _ => ?_⟩
  · simp [WindowBounded, hw, hf, Fetcher.reset]
  · simp [StackBounded, hf, Fetcher.reset]
  · simp [QueueBounded, hn, NoticeUnit.reset]
  · simp [EntriesDistinct, hw]

theorem resetWith_cleared_keepsBounds (g : RegWindow) (s : State) :
    KeepsBounds s (resetWith g (Per.all Probe.reset) s) :=
  resetWith_keepsBounds g fun _ p => by rw [Per.get_all]; exact ⟨Nat.zero_le _, Nat.zero_le _⟩

theorem resetWith_soft_keepsBounds (g : RegWindow) (s : State) :
    KeepsBounds s (resetWith g (s.link.probes.map softProbe) s) :=
  resetWith_keepsBounds g fun hs p => by rw [Per.get_map]; exact hs p

/-! ## The commands of the lines, the link and the time stamp -/

theorem execRawLineChange_keepsBounds (l : MachineLine) (b : Bool) (s : State) :
    Ends (execRawLineChange l b s) (KeepsBounds s) := by
  cases l with
  | guard => exact (withRc_keepsBounds _ s).next
  | board => exact (withRc_keepsBounds _ s).next

theorem execFirstLevelTaken_keepsBounds (l : MachineLine) (s : State) : Ends (execFirstLevelTaken l s) (KeepsBounds s) := by
  unfold execFirstLevelTaken
  split
  · exact ends_refl s
  · cases l with
    | guard => exact (withRc_keepsBounds _ s).finish
    | board => exact (withRc_keepsBounds _ s).finish

theorem execGuardOpened_keepsBounds (s : State) : Ends (execGuardOpened s) (KeepsBounds s) := by
  unfold execGuardOpened
  split
  · exact ((guardStop_keepsBounds s).trans (guardByState_keepsBounds _)).finish
  · exact ends_refl s

theorem execGuardClosed_keepsBounds (s : State) : Ends (execGuardClosed s) (KeepsBounds s) := by
  unfold execGuardClosed
  split
  · exact (((withRc_keepsBounds _ s).trans (pendGuard_keepsBounds _)).trans (guardNotice_keepsBounds _ _)).finish
  · exact ends_refl s

theorem execBoardLost_keepsBounds (s : State) : Ends (execBoardLost s) (KeepsBounds s) := by
  unfold execBoardLost
  split
  · exact ((withRc_keepsBounds _ s).trans (boardLossByState_keepsBounds _)).finish
  · exact ends_refl s

theorem execBoardSeated_keepsBounds (s : State) : Ends (execBoardSeated s) (KeepsBounds s) := by
  unfold execBoardSeated
  split
  · exact (withRc_keepsBounds _ s).finish
  · exact ends_refl s

theorem execLinkDown_keepsBounds (s : State) : Ends (execLinkDown s) (KeepsBounds s) := by
  unfold execLinkDown
  split
  · exact (((((voidOrders_keepsBounds s).trans (withStop_keepsBounds none false _)).trans (allUnknown_keepsBounds _)).trans
      (abortMeasurement_keepsBounds _)).trans (loseLink_keepsBounds _)).finish
  · exact ends_refl s

theorem execLinkUp_keepsBounds (s : State) : Ends (execLinkUp s) (KeepsBounds s) := by
  unfold execLinkUp
  split
  · exact ends_refl s
  · exact ((withStop_keepsBounds s.link.stop true s).trans (sendStop_keepsBounds _)).finish

theorem wrapTime_keepsBounds (s : State) : KeepsBounds s (wrapTime s) :=
  (withRc_keepsBounds _ s).trans (requestNotice_keepsBounds _ _ _ _ _)

theorem execTimeStampTick_keepsBounds (s : State) : Ends (execTimeStampTick s) (KeepsBounds s) := by
  unfold execTimeStampTick
  split
  · exact ends_refl s
  · split
    · exact (wrapTime_keepsBounds s).done
    · exact (withRc_keepsBounds _ s).next

theorem execTimeWrap_keepsBounds (s : State) : Ends (execTimeWrap s) (KeepsBounds s) := by
  unfold execTimeWrap
  split
  · exact (wrapTime_keepsBounds s).done
  · exact ends_refl s

/-! ## Reports and deadlines -/

theorem staleReport_keepsBounds (s : State) : Ends (staleReport s) (KeepsBounds s) := (withRc_keepsBounds _ s).next

theorem execLanded_keepsBounds (p : ProbeNo) (tag : BitVec 4) (s : State) : Ends (execLanded p tag s) (KeepsBounds s) := by
  unfold execLanded
  split
  · exact (landProbe_keepsBounds p true s).finish
  · exact (landProbe_keepsBounds p false s).finish
  all_goals exact staleReport_keepsBounds s

theorem execLifted_keepsBounds (p : ProbeNo) (tag : BitVec 4) (s : State) : Ends (execLifted p tag s) (KeepsBounds s) := by
  unfold execLifted
  split
  · exact (endOrder_keepsBounds (r := completedProbe .lifted (probe s p)) id).finish
  all_goals exact staleReport_keepsBounds s

theorem execParked_keepsBounds (p : ProbeNo) (tag : BitVec 4) (s : State) : Ends (execParked p tag s) (KeepsBounds s) := by
  unfold execParked
  split
  · exact ((endOrder_keepsBounds (r := completedProbe .parked (probe s p)) id).trans
      (memberCompleted_keepsBounds p .park _)).finish
  all_goals exact staleReport_keepsBounds s

/-- A cleaned probe's counts are cleared (R113). -/
theorem execCleaned_keepsBounds (p : ProbeNo) (tag : BitVec 4) (s : State) : Ends (execCleaned p tag s) (KeepsBounds s) := by
  have h1 : KeepsBounds s (endOrder p (cleanedProbe (probe s p)) s) :=
    endOrder_keepsBounds fun _ => ⟨Nat.zero_le _, Nat.zero_le _⟩
  unfold execCleaned
  split
  · exact (h1.trans (memberCompleted_keepsBounds p .clean _)).finish
  all_goals exact staleReport_keepsBounds s

theorem execStopped_keepsBounds (s : State) : Ends (execStopped s) (KeepsBounds s) := by
  unfold execStopped
  split
  · exact (((stopEnded_keepsBounds s).trans (takeBack_keepsBounds _)).trans (withRc_keepsBounds _ _)).finish
  · exact staleReport_keepsBounds s

theorem execOrderDeadlineExpiry_keepsBounds (p : ProbeNo) (s : State) :
    Ends (execOrderDeadlineExpiry p s) (KeepsBounds s) := by
  unfold execOrderDeadlineExpiry
  split
  · exact (faultProbe_keepsBounds _ _ _ _ s).finish
  · exact ends_refl s

theorem execStopDeadlineExpiry_keepsBounds (s : State) : Ends (execStopDeadlineExpiry s) (KeepsBounds s) := by
  unfold execStopDeadlineExpiry
  split
  · exact ((stopEnded_keepsBounds s).trans (loseLink_keepsBounds _)).finish
  · exact ends_refl s

/-! ## The Memory Port's completions and the held entries -/

theorem execLoadingReadComplete_keepsBounds (s : State) : Ends (execLoadingReadComplete s) (KeepsBounds s) := by
  unfold execLoadingReadComplete
  split
  · exact ends_refl s
  next h =>
    split
    · exact ((serve_keepsBounds h).trans (loadingRead_keepsBounds _ _ _)).finish
    · exact (serve_keepsBounds h).finish

theorem execFetchReadComplete_keepsBounds (s : State) : Ends (execFetchReadComplete s) (KeepsBounds s) := by
  unfold execFetchReadComplete
  split
  · exact ends_refl s
  next h =>
    split
    · exact ((serve_keepsBounds h).trans (txnRead_keepsBounds _ _)).finish
    · exact (serve_keepsBounds h).finish

theorem execReturnReleased_keepsBounds (s : State) : Ends (execReturnReleased s) (KeepsBounds s) := by
  unfold execReturnReleased
  split
  · exact (popFrame_keepsBounds s).finish
  · exact ends_refl s

theorem execEndDrained_keepsBounds (s : State) : Ends (execEndDrained s) (KeepsBounds s) := by
  unfold execEndDrained
  split
  · exact KeepsBounds.finish (.of_fetch id le_rfl (by simp))
  · exact ends_refl s

theorem execPauseDrained_keepsBounds (s : State) : Ends (execPauseDrained s) (KeepsBounds s) := by
  unfold execPauseDrained
  split
  · refine KeepsBounds.finish (KeepsBounds.trans ?_ (requestNotice_keepsBounds _ _ _ _ _))
    exact .of_fetch id le_rfl (by simp)
  · exact ends_refl s

theorem execResumeReleased_keepsBounds (s : State) : Ends (execResumeReleased s) (KeepsBounds s) := by
  unfold execResumeReleased
  split
  · split
    · refine KeepsBounds.finish (KeepsBounds.trans ?_ (resumeDiversion_keepsBounds _ _))
      exact .of_fetch id le_rfl (by simp)
    · exact ends_refl s
  all_goals exact ends_refl s

theorem execAreaWriteComplete_keepsBounds (s : State) : Ends (execAreaWriteComplete s) (KeepsBounds s) := by
  unfold execAreaWriteComplete
  split
  · split
    · exact ends_refl s
    next h => exact (completeNotice_keepsBounds h).finish
  · split
    · exact ends_refl s
    next h =>
      split
      · exact ((serve_keepsBounds h).trans (areaWritten_keepsBounds _)).finish
      · exact (serve_keepsBounds h).finish

theorem execReadyPoll_keepsBounds (s : State) : Ends (execReadyPoll s) (KeepsBounds s) := by
  unfold execReadyPoll
  split
  · exact KeepsBounds.done (.of_same (by simp))
  · exact ends_refl s

theorem readyRead_keepsBounds (w : Word) (s : State) : KeepsBounds s (readyRead w s) := .of_same (by simp)

theorem execReadyReadComplete_keepsBounds (s : State) : Ends (execReadyReadComplete s) (KeepsBounds s) := by
  unfold execReadyReadComplete
  split
  · exact ends_refl s
  next h =>
    split
    · exact ((serve_keepsBounds h).trans (readyRead_keepsBounds _ _)).done
    · exact (serve_keepsBounds h).done

theorem execRunWordReadComplete_keepsBounds (s : State) : Ends (execRunWordReadComplete s) (KeepsBounds s) := by
  unfold execRunWordReadComplete
  split
  · exact ends_refl s
  next h =>
    split
    · exact ((serve_keepsBounds h).trans (runWordRead_keepsBounds _ _)).finish
    · exact (serve_keepsBounds h).finish

theorem execStoppingWriteComplete_keepsBounds (s : State) : Ends (execStoppingWriteComplete s) (KeepsBounds s) := by
  unfold execStoppingWriteComplete
  split
  · split
    · exact ends_refl s
    next h => exact (completeNotice_keepsBounds h).finish
  · split
    · exact ends_refl s
    next h =>
      split
      · exact ((serve_keepsBounds h).trans (stoppingWritten_keepsBounds _)).finish
      · exact (serve_keepsBounds h).finish

theorem execHaltWriteComplete_keepsBounds (s : State) : Ends (execHaltWriteComplete s) (KeepsBounds s) := by
  unfold execHaltWriteComplete
  split
  · split
    · exact ends_refl s
    next h => exact (completeNotice_keepsBounds h).finish
  · split
    · exact ends_refl s
    next h => exact ((serve_keepsBounds h).trans (advanceHalt_keepsBounds _)).finish

theorem serveFailing_keepsBounds {k : ReqKind} {n : Nat} {s s1 : State} {r : Request}
    (h : serveFailing k n s = some (r, s1)) : KeepsBounds s s1 := by
  obtain ⟨-, -, h1⟩ := serveFailing_some h
  rw [h1]
  exact .of_same (by simp)

theorem execMemoryError_keepsBounds (k : ReqKind) (n : Nat) (s : State) : Ends (execMemoryError k n s) (KeepsBounds s) := by
  unfold execMemoryError
  split
  · exact ends_refl s
  next h => exact ((serveFailing_keepsBounds h).trans (memoryErrorTaken_keepsBounds _ _)).finish

theorem execNoticeWriteComplete_keepsBounds (s : State) : Ends (execNoticeWriteComplete s) (KeepsBounds s) := by
  unfold execNoticeWriteComplete
  split
  · exact ends_refl s
  next h => exact (completeNotice_keepsBounds h).finish

/-! ## Checks and measuring -/

theorem execCheckEnd_keepsBounds (p : ProbeNo) (loop : Option Nat) (s : State) :
    Ends (execCheckEnd p loop s) (KeepsBounds s) := by
  unfold execCheckEnd
  split
  · exact ends_refl s
  · refine KeepsBounds.finish (KeepsBounds.trans (KeepsBounds.trans ?_ (tableResult_keepsBounds _ _ _ _))
      (windowResult_keepsBounds _ _ _ _))
    exact .of_same (by simp)

theorem withUnit_keepsBounds (u : MeasUnit) (s : State) : KeepsBounds s { s with unit := u } := .of_same (by simp)

theorem execMeasurementTake_keepsBounds (s : State) : Ends (execMeasurementTake s) (KeepsBounds s) := by
  unfold execMeasurementTake
  split
  · exact ends_refl s
  · split
    · exact ends_refl s
    · split
      · exact ((withUnit_keepsBounds _ s).trans (updateEntry_keepsBounds _ _ _ (by simp))).next
      · exact ends_refl s

theorem execSettleElapsed_keepsBounds (s : State) : Ends (execSettleElapsed s) (KeepsBounds s) := by
  unfold execSettleElapsed
  split
  · exact ends_refl s
  · split
    · exact (withUnit_keepsBounds _ s).next
    · exact ends_refl s

theorem execSample_keepsBounds (v : BitVec 20) (s : State) : Ends (execSample v s) (KeepsBounds s) := by
  unfold execSample
  split
  · exact ends_refl s
  · split
    · exact (withUnit_keepsBounds _ s).next
    · exact ends_refl s

theorem execRampCrossing_keepsBounds (n : Nat) (s : State) : Ends (execRampCrossing n s) (KeepsBounds s) := by
  unfold execRampCrossing
  split
  · exact ends_refl s
  · split
    · exact (withUnit_keepsBounds _ s).next
    · exact ends_refl s

theorem execRampTimeLimit_keepsBounds (s : State) : Ends (execRampTimeLimit s) (KeepsBounds s) := by
  unfold execRampTimeLimit
  split
  · exact ends_refl s
  · split
    · exact (withUnit_keepsBounds _ s).next
    · exact ends_refl s

theorem execAttemptJudged_keepsBounds (n : Nat) (s : State) : Ends (execAttemptJudged n s) (KeepsBounds s) := by
  unfold execAttemptJudged
  split
  · exact ends_refl s
  · split
    · unfold judgeAttempt
      dsimp only
      split
      · exact (withUnit_keepsBounds _ s).next
      · split
        · exact (withUnit_keepsBounds _ s).next
        · exact (withUnit_keepsBounds _ s).next
    · exact ends_refl s

theorem execClassificationReturned_keepsBounds (s : State) : Ends (execClassificationReturned s) (KeepsBounds s) := by
  unfold execClassificationReturned
  split
  · exact ends_refl s
  · split
    · dsimp only
      split
      · exact (withUnit_keepsBounds _ s).next
      · exact (completeStep_keepsBounds _ _ s).finish
    · exact ends_refl s

theorem execCaptureHandoff_keepsBounds (s : State) : Ends (execCaptureHandoff s) (KeepsBounds s) := by
  unfold execCaptureHandoff
  split
  · exact ends_refl s
  · split
    · exact KeepsBounds.done (.of_same (by simp))
    · exact ends_refl s

theorem execCaptureWriteComplete_keepsBounds (s : State) : Ends (execCaptureWriteComplete s) (KeepsBounds s) := by
  unfold execCaptureWriteComplete
  split
  · exact ends_refl s
  next h => exact ((serve_keepsBounds h).trans (captureAcked_keepsBounds _ _)).finish

/-! ## The logger -/

theorem waitForRoom_keepsBounds (s : State) : KeepsBounds s (waitForRoom s) := .of_same (by simp)

theorem execHeadTaken_keepsBounds (s : State) : Ends (execHeadTaken s) (KeepsBounds s) := by
  unfold execHeadTaken
  split
  · exact ends_refl s
  · split
    · exact ends_refl s
    · split
      · exact (takeHead_keepsBounds _ s).finish
      · exact (waitForRoom_keepsBounds s).finish

theorem execMarkRemoved_keepsBounds (s : State) : Ends (execMarkRemoved s) (KeepsBounds s) := by
  unfold execMarkRemoved
  split
  · exact ends_refl s
  · split
    · exact ((requestNotice_keepsBounds _ _ _ _ s).trans (removeHead_keepsBounds _ _)).finish
    · exact ends_refl s

theorem execRecordWriteComplete_keepsBounds (s : State) : Ends (execRecordWriteComplete s) (KeepsBounds s) := by
  unfold execRecordWriteComplete
  split
  · exact ends_refl s
  next h => exact ((serve_keepsBounds h).trans (recordWritten_keepsBounds _)).done

theorem execReleaseReadComplete_keepsBounds (s : State) : Ends (execReleaseReadComplete s) (KeepsBounds s) := by
  unfold execReleaseReadComplete
  split
  · exact ends_refl s
  next h =>
    split
    · exact ((serve_keepsBounds h).trans (releaseRead_keepsBounds _ _)).finish
    · exact (serve_keepsBounds h).done

theorem execReleasePoll_keepsBounds (s : State) : Ends (execReleasePoll s) (KeepsBounds s) := by
  unfold execReleasePoll
  split
  · exact KeepsBounds.done (.of_same (by simp))
  · exact ends_refl s

/-! ## Every command -/

theorem exec_keepsBounds (c : Instr) (s : State) : Ends (exec c s) (KeepsBounds s) := by
  cases c with
  | startA => exact execStartA_keepsBounds s
  | startB => exact execStartB_keepsBounds s
  | continueRun => exact execContinueRun_keepsBounds s
  | stop => exact execStop_keepsBounds s
  | room => exact execRoom_keepsBounds s
  | softReset => exact (resetWith_soft_keepsBounds _ s).next
  | undefinedCommandCode code => exact execUndefinedCommandCode_keepsBounds code s
  | anchorWrite v => exact execAnchorWrite_keepsBounds v s
  | stateWrite v => exact KeepsBounds.next (.of_same (by simp))
  | causeRead => exact KeepsBounds.next (.of_same (by simp))
  | irqEnableWrite v => exact KeepsBounds.next (.of_same (by simp))
  | ignoredRegisterWrite reg v => exact ends_refl s
  | por => exact (resetWith_cleared_keepsBounds _ s).next
  | pin => exact (resetWith_cleared_keepsBounds _ s).next
  | rawLineChange l b => exact execRawLineChange_keepsBounds l b s
  | firstLevelTaken l => exact execFirstLevelTaken_keepsBounds l s
  | guardOpened => exact execGuardOpened_keepsBounds s
  | guardClosed => exact execGuardClosed_keepsBounds s
  | boardLost => exact execBoardLost_keepsBounds s
  | boardSeated => exact execBoardSeated_keepsBounds s
  | linkDown => exact execLinkDown_keepsBounds s
  | linkUp => exact execLinkUp_keepsBounds s
  | timeStampTick => exact execTimeStampTick_keepsBounds s
  | timeWrap => exact execTimeWrap_keepsBounds s
  | landed p tag => exact execLanded_keepsBounds p tag s
  | lifted p tag => exact execLifted_keepsBounds p tag s
  | parked p tag => exact execParked_keepsBounds p tag s
  | cleaned p tag => exact execCleaned_keepsBounds p tag s
  | fault p tag code => exact (faultProbe_keepsBounds _ _ _ _ s).finish
  | stopped => exact execStopped_keepsBounds s
  | orderDeadlineExpiry p => exact execOrderDeadlineExpiry_keepsBounds p s
  | stopDeadlineExpiry => exact execStopDeadlineExpiry_keepsBounds s
  | loadingReadComplete => exact execLoadingReadComplete_keepsBounds s
  | fetchReadComplete => exact execFetchReadComplete_keepsBounds s
  | returnReleased => exact execReturnReleased_keepsBounds s
  | endDrained => exact execEndDrained_keepsBounds s
  | pauseDrained => exact execPauseDrained_keepsBounds s
  | resumeReleased => exact execResumeReleased_keepsBounds s
  | areaWriteComplete => exact execAreaWriteComplete_keepsBounds s
  | readyPoll => exact execReadyPoll_keepsBounds s
  | readyReadComplete => exact execReadyReadComplete_keepsBounds s
  | runWordReadComplete => exact execRunWordReadComplete_keepsBounds s
  | stoppingWriteComplete => exact execStoppingWriteComplete_keepsBounds s
  | haltWriteComplete => exact execHaltWriteComplete_keepsBounds s
  | memoryError k n => exact execMemoryError_keepsBounds k n s
  | checkEnd p loop => exact execCheckEnd_keepsBounds p loop s
  | measurementTake => exact execMeasurementTake_keepsBounds s
  | settleElapsed => exact execSettleElapsed_keepsBounds s
  | sample v => exact execSample_keepsBounds v s
  | rampCrossing n => exact execRampCrossing_keepsBounds n s
  | rampTimeLimit => exact execRampTimeLimit_keepsBounds s
  | attemptJudged n => exact execAttemptJudged_keepsBounds n s
  | classificationReturned => exact execClassificationReturned_keepsBounds s
  | captureHandoff => exact execCaptureHandoff_keepsBounds s
  | captureWriteComplete => exact execCaptureWriteComplete_keepsBounds s
  | headTaken => exact execHeadTaken_keepsBounds s
  | markRemoved => exact execMarkRemoved_keepsBounds s
  | recordWriteComplete => exact execRecordWriteComplete_keepsBounds s
  | releaseReadComplete => exact execReleaseReadComplete_keepsBounds s
  | releasePoll => exact execReleasePoll_keepsBounds s
  | noticeWriteComplete => exact execNoticeWriteComplete_keepsBounds s

/-- A step serves a fill word or runs a command; the queue of waiting commands is no part of what is bounded. -/
theorem step_keepsBounds {s t : State} (h : step s = .next t) : KeepsBounds s t := by
  unfold step at h
  split at h
  · obtain rfl := Host.Outcome.next.inj h
    exact .of_same (by simp)
  next c cs _ =>
    obtain ⟨u, hu, hk⟩ := exec_keepsBounds c (s.withPending cs)
    obtain rfl : u = t := Host.Outcome.next.inj (hu.symm.trans h)
    exact ⟨hk.window, hk.stack, hk.queue, hk.wear, hk.entries⟩

end Sys2Proof.Machine

namespace Sys2Proof.Proofs

open Sys2Proof Sys2Proof.Machine

/-- Settles O59: every command keeps each bound, and so does the fill word that an idle step serves. -/
theorem boundsKept : Obligations.BoundsKept := by
  unfold Obligations.BoundsKept
  intro s t h
  have hk := step_keepsBounds h
  exact ⟨hk.window, hk.stack, hk.queue, hk.wear, hk.entries⟩

end Sys2Proof.Proofs
end

section
/-! PROOFS. The fetcher's reads and the beginning of a transaction; a released RESUME. -/

namespace Sys2Proof.Machine

open Sys2Proof

/-! ## Transactions (R42, R43) -/

theorem exec_fetchReadComplete {s s1 : State} {r : Request} {ws : List Word} (h : serve .fetch s = some (r, ws, s1)) :
    exec .fetchReadComplete s = .next (sealPort (settle (if r.live = true then txnRead ws s1 else s1))) := by
  show execFetchReadComplete s = _
  rw [execFetchReadComplete, h]
  dsimp only
  split <;> rfl

theorem beginTxn_of_can {s : State} (h : canBegin s = true) : beginTxn s = { s with
    fetch := { s.fetch with txn := some .entry }
    port := { s.port with reqs := s.port.reqs ++
      [⟨.fetch, s.fetch.list - s.fetch.list % 64 + 64 * s.fetch.index, .read 16, true, s.port.epoch⟩] } } := if_pos h

theorem beginTxn_of_cannot {s : State} (h : canBegin s ≠ true) : beginTxn s = s := if_neg h

theorem canBegin_ne_true {s : State} (h : s.rc.run ≠ .running ∨ 8 ≤ s.window.length ∨ s.fetch.held ≠ none
    ∨ s.fetch.txn ≠ none ∨ hasReq .fetch s = true ∨ s.fetch.stopped = true) : canBegin s ≠ true := fun hc => by
  obtain ⟨hrun, hlen, hheld, htxn, hreq, hstop⟩ := (canBegin_iff s).1 hc
  simp only [hrun, hheld, htxn, hreq, hstop, ne_eq, not_true_eq_false, false_or, or_false, reduceCtorEq] at h
  omega

/-! ## A released RESUME (R59, R166) -/

/-- The state as a held entry that stops the fetcher leaves it (R48). -/
def heldReleased (s : State) : State := { s with fetch := { s.fetch with held := none, stopped := true } }

theorem heldReleased_div (s : State) : (heldReleased s).div = s.div := rfl

theorem exec_resumeReleased_of_held {s : State} {m : ResumeMode} (hh : s.fetch.held = some (.resume m))
    (hm : mayRelease s = true) :
    exec .resumeReleased s = .next (sealPort (settle (resumeDiversion m (heldReleased s)))) := by
  show execResumeReleased s = _
  rw [execResumeReleased, hh]
  exact if_pos hm

theorem resumeDiversion_halt (s : State) : resumeDiversion .halt s = haltByTable s := by
  rw [resumeDiversion]

theorem rewindReturn_fetch (after : Bool) (bank : Nat) (snap : Snapshot) (s : State) :
    (rewindReturn after bank snap s).fetch = { s.fetch with
      list := snap.origin.list, index := snap.origin.index + (if after then 1 else 0), recovery := false
      stack := s.fetch.stack.take snap.depth, bank := bank, held := none, txn := none, stopped := false } := rfl

@[simp] theorem endDiversion_div (m : ResumeMode) (s : State) : (endDiversion m s).div = { s.div with active := false } := by
  simp [endDiversion]

theorem endDiversion_requested (m : ResumeMode) (s : State) : NoticeRequested ⟨.divertReturned,
    BitVec.ofNat 32 (modeCode m), BitVec.ofNat 32 s.div.retryCount, s.rc.time, .plain⟩ s (endDiversion m s) :=
  requestNotice_requested _ _ _ _ { s with div := { s.div with active := false } }

/-- The state after a diversion that ends with the Diversion Unit's record as `d` (R59, R166). -/
def leaveDiversion (m : ResumeMode) (after : Bool) (pt : Snapshot) (d : DivUnit) (s : State) : State :=
  endDiversion m (rewindReturn after s.div.savedBank pt { s with div := d })

theorem resumeDiversion_retry {s : State} {pt : Snapshot} (h : s.div.returnPoint = some pt) :
    resumeDiversion .retry s = leaveDiversion .retry s.div.returnAfter pt (countRetry pt s.div) s := by
  simp only [resumeDiversion, h, leaveDiversion]

theorem resumeDiversion_next {s : State} {pt : Snapshot} (h : s.div.returnPoint = some pt) :
    resumeDiversion .next s = leaveDiversion .next true pt s.div s := by
  simp only [resumeDiversion, h, leaveDiversion]

theorem leaveDiversion_eq (m : ResumeMode) (after : Bool) (pt : Snapshot) (d : DivUnit) (s : State) :
    (leaveDiversion m after pt d s).rc = s.rc ∧ (leaveDiversion m after pt d s).div = { d with active := false }
    ∧ (leaveDiversion m after pt d s).fetch = { s.fetch with
        list := pt.origin.list, index := pt.origin.index + (if after then 1 else 0), recovery := false
        stack := s.fetch.stack.take pt.depth, bank := s.div.savedBank, held := none, txn := none, stopped := false }
    ∧ NoticeRequested ⟨.divertReturned, BitVec.ofNat 32 (modeCode m), BitVec.ofNat 32 d.retryCount, s.rc.time, .plain⟩ s
        (leaveDiversion m after pt d s) := by
  have hrequested := endDiversion_requested m (rewindReturn after s.div.savedBank pt { s with div := d })
  unfold leaveDiversion
  exact ⟨by simp, by simp, by rw [endDiversion_fetch, rewindReturn_fetch], hrequested⟩

theorem leaveDiversion_mem (m : ResumeMode) (after : Bool) (pt : Snapshot) (d : DivUnit) (s : State) :
    (leaveDiversion m after pt d s).mem = s.mem := by simp [leaveDiversion]

theorem leaveDiversion_link (m : ResumeMode) (after : Bool) (pt : Snapshot) (d : DivUnit) (s : State) :
    (leaveDiversion m after pt d s).link = s.link := by simp [leaveDiversion]

/-- The action HALT ends the run and the diversion (R163, R166). -/
theorem haltByTable_halted {s : State} (h : s.rc.run ≠ .halted) : (haltByTable s).rc.run = .halted
    ∧ (haltByTable s).rc.endCode = .haltedByTable ∧ (haltByTable s).div = { s.div with active := false } := by
  have hrun : (flush s).rc.run ≠ .halted := by rwa [flush_rc]
  obtain ⟨q, hrc⟩ := enterHalted_rc .haltedByTable (tableHaltCauses s) hrun
  obtain ⟨-, -, hdiv, -⟩ := enterHalted_blocks .haltedByTable (tableHaltCauses s) hrun
  unfold haltByTable
  rw [hrc, hdiv, flush_div]
  exact ⟨rfl, rfl, rfl⟩

/-- Only a RETRY of a failure is counted (R166). -/
theorem countRetry_of_after {d : DivUnit} (h : d.returnAfter = true) (pt : Snapshot) : countRetry pt d = d := if_pos h

theorem countRetry_of_failure {d : DivUnit} (h : d.returnAfter = false) (pt : Snapshot) :
    countRetry pt d = { d with retryCount := d.retryCount + 1, retryOrigin := some pt.origin } := if_neg (by simp [h])

end Sys2Proof.Machine

namespace Sys2Proof.Proofs

open Sys2Proof Sys2Proof.Machine

/-- Settles O31: a served read acts by its live mark, and `canBegin` is the conditions of R42. -/
theorem fetchReadsAct : Obligations.FetchReadsAct := by
  unfold Obligations.FetchReadsAct
  refine ⟨fun s s1 r ws h => ⟨fun hl => ?_, fun hl => ?_⟩, fun s hrun hlen hheld htxn hreq hstop => ?_, fun s h => ?_⟩
  · rw [exec_fetchReadComplete h, if_pos hl]
  · rw [exec_fetchReadComplete h, if_neg (by simp [hl])]
  · exact beginTxn_of_can ((canBegin_iff s).2 ⟨hrun, hlen, hheld, htxn, hreq, hstop⟩)
  · exact beginTxn_of_cannot (canBegin_ne_true h)

/-- Settles O50: by the mode; RETRY also by the kind of the return point. -/
theorem resumeLeavesDiversion : Obligations.ResumeLeavesDiversion := by
  unfold Obligations.ResumeLeavesDiversion
  intro s m pt hh hw hr hp
  have hexec := exec_resumeReleased_of_held hh ((mayRelease_iff s).2 ⟨hw, hr⟩)
  have hpoint : (heldReleased s).div.returnPoint = some pt := hp
  cases m with
  | halt =>
    obtain ⟨hrun, hcode, hdiv⟩ := haltByTable_halted (s := heldReleased s) (by rw [heldReleased, hr]; nofun)
    rw [resumeDiversion_halt] at hexec
    exact ⟨_, hexec, haltByTable_mem _, haltByTable_link _, fun _ => ⟨hrun, hcode, hdiv⟩, by simp⟩
  | next =>
    rw [resumeDiversion_next hpoint, heldReleased_div] at hexec
    obtain ⟨hrc, hdiv, hfetch, hnotice⟩ := leaveDiversion_eq .next true pt s.div (heldReleased s)
    refine ⟨_, hexec, leaveDiversion_mem _ _ _ _ _, leaveDiversion_link _ _ _ _ _, nofun, fun _ => ?_⟩
    rw [hrc, hfetch, hdiv]
    exact ⟨rfl, rfl, rfl, rfl, nofun, fun _ => ⟨rfl, rfl⟩, hnotice⟩
  | retry =>
    rw [resumeDiversion_retry hpoint, heldReleased_div] at hexec
    obtain ⟨hrc, hdiv, hfetch, hnotice⟩ :=
      leaveDiversion_eq .retry s.div.returnAfter pt (countRetry pt s.div) (heldReleased s)
    refine ⟨_, hexec, leaveDiversion_mem _ _ _ _ _, leaveDiversion_link _ _ _ _ _, nofun, fun _ => ?_⟩
    rw [hrc, hfetch, hdiv]
    cases hafter : s.div.returnAfter with
    | true =>
      rw [hafter, countRetry_of_after hafter] at hnotice
      rw [countRetry_of_after hafter]
      exact ⟨rfl, rfl, rfl, rfl, nofun, fun _ => ⟨rfl, rfl⟩, hnotice⟩
    | false =>
      rw [hafter, countRetry_of_failure hafter] at hnotice
      rw [countRetry_of_failure hafter]
      exact ⟨rfl, rfl, rfl, rfl, fun _ _ => ⟨rfl, rfl⟩, by simp, hnotice⟩

end Sys2Proof.Proofs
end

section
/-! PROOFS. The entries that the fetcher places, and what each control entry does when it has been read. -/

namespace Sys2Proof.Machine

open Sys2Proof

/-! ## Placed entries (R52..R54, R57, R58) -/

/-- What an entry placed without roles has in common, whatever it stands for: its own kind, state, cause, detail and nets; of the
program entry the kind bytes and the slots; of the fetcher the snapshot, the board position and the bank (R53, R54, R57). -/
structure Placeholder (k : EntryKind) (st : EntryState) (c : Option Cause) (d : Nat) (nets : List Nat) (ws : List Word)
    (s : State) (e : Entry) : Prop where
  kind : e.kind = k
  state : e.state = st
  cause : e.cause = c
  detail : e.detail = d
  nets : e.nets = nets
  roles : e.roles = []
  members : e.members = []
  snap : e.snap = snapshotNow s
  board : e.board = boardPosition s.fetch.stack
  bank : e.bank = s.fetch.bank
  entryByte : e.entryByte = fieldByte ws 0
  written : fieldByte ws 0 = 1 → e.measByte = fieldByte ws 1 ∧ e.slots = entrySlots ws
  slots : fieldByte ws 0 ≠ 1 → e.slots = []

/-- `asWritten` changes nothing but the measurement kind byte and the slots (R51, R54). -/
theorem asWritten_eq (ws : List Word) (e : Entry) : ∃ b slots, asWritten ws e = { e with measByte := b, slots := slots }
    ∧ (fieldByte ws 0 = 1 → b = fieldByte ws 1 ∧ slots = entrySlots ws) ∧ (fieldByte ws 0 ≠ 1 → slots = e.slots) := by
  unfold asWritten
  split
  · next h => exact ⟨_, _, rfl, fun _ => ⟨rfl, rfl⟩, fun hn => absurd h hn⟩
  · next h => exact ⟨_, _, rfl, fun h1 => absurd h1 h, fun _ => rfl⟩

theorem placeholder_asWritten (k : EntryKind) (st : EntryState) (c : Option Cause) (d : Nat) (nets : List Nat) (ws : List Word)
    (s : State) :
    Placeholder k st c d nets ws s { asWritten ws (blankEntry s k st ws) with cause := c, detail := d, nets := nets } := by
  obtain ⟨b, slots, heq, hwritten, hslots⟩ := asWritten_eq ws (blankEntry s k st ws)
  rw [heq]
  exact ⟨rfl, rfl, rfl, rfl, rfl, rfl, rfl, rfl, rfl, rfl, rfl, hwritten, hslots⟩

theorem placeProgramError_placeholder (d : ProgramError) (ws : List Word) (s : State) :
    ∃ e, placeProgramError d ws s = placeEntry e s
      ∧ Placeholder .programError .failed (some .programError) (programErrorCode d) [] ws s e := by
  refine ⟨_, ?_, placeholder_asWritten _ _ _ _ _ _ _⟩
  obtain ⟨b, slots, heq, -⟩ := asWritten_eq ws (blankEntry s .programError .failed ws)
  rw [placeProgramError, heq]
  rfl

theorem placeLandingRefused_placeholder (detail : Nat) (ws : List Word) (pts : List PointRec) (s : State) :
    ∃ e, placeLandingRefused detail ws pts s = placeEntry e s
      ∧ Placeholder .landingRefused .failed (some .landingRefused) detail (pts.map (·.net)) ws s e :=
  ⟨_, rfl, placeholder_asWritten _ _ _ _ _ _ _⟩

/-! ## What each kind does (R38, R40, R44, R47, R50, R53, R56) -/

section
variable {ws : List Word} {s : State}

theorem txnRead_entry (h : s.fetch.txn = some .entry) : txnRead ws s = entryRead ws s := by simp only [txnRead, h]

theorem entryRead_measure (h : (fieldByte ws 0).toNat = 1) : entryRead ws s = actMeasure ws s := by simp only [entryRead, h]

theorem entryRead_call (h : (fieldByte ws 0).toNat = 2) : entryRead ws s = actCall ws s := by simp only [entryRead, h]

theorem entryRead_return (h : (fieldByte ws 0).toNat = 3) : entryRead ws s = actReturn ws s := by simp only [entryRead, h]

theorem entryRead_end (h : (fieldByte ws 0).toNat = 4) : entryRead ws s = actMainOnly .endOfArea ws s := by
  simp only [entryRead, h]

theorem entryRead_pause (h : (fieldByte ws 0).toNat = 5) : entryRead ws s = actMainOnly .pause ws s := by
  simp only [entryRead, h]

theorem entryRead_mark (h : (fieldByte ws 0).toNat = 6) : entryRead ws s = actMark ws s := by simp only [entryRead, h]

theorem entryRead_setBank (h : (fieldByte ws 0).toNat = 7) : entryRead ws s = actSetBank ws s := by simp only [entryRead, h]

theorem entryRead_clean (h : (fieldByte ws 0).toNat = 8) : entryRead ws s = actClean ws s := by simp only [entryRead, h]

theorem entryRead_park (h : (fieldByte ws 0).toNat = 9) : entryRead ws s = actPark ws s := by simp only [entryRead, h]

theorem entryRead_resume (h : (fieldByte ws 0).toNat = 10) : entryRead ws s = actResume ws s := by simp only [entryRead, h]

/-- A kind byte that names no kind. -/
theorem entryRead_unnamed (h : (fieldByte ws 0).toNat = 0 ∨ 10 < (fieldByte ws 0).toNat) :
    entryRead ws s = placeProgramError .badKind ws s := by
  unfold entryRead
  split
  on_goal 11 => rfl
  all_goals omega

theorem actCall_of_recovery (h : s.fetch.recovery = true) : actCall ws s = placeProgramError .notAllowedInRecovery ws s :=
  if_pos h

theorem actCall_of_main (h : s.fetch.recovery = false) : actCall ws s =
    if fieldByte ws 0x10 = 0 then placeProgramError .badIndex ws s
    else if 4 ≤ s.fetch.stack.length then placeProgramError .stackFull ws s
    else { s with fetch := { s.fetch with
      stack := s.fetch.stack ++
        [⟨s.fetch.list, s.fetch.index + 1, fieldInt ws 8, fieldInt ws 0x0C, (fieldByte ws 0x10).toNat⟩]
      list := fieldNat ws 4, index := 0, txn := none } } := if_neg (by simp [h])

theorem actReturn_of_recovery (h : s.fetch.recovery = true) : actReturn ws s = placeProgramError .notAllowedInRecovery ws s :=
  if_pos h

theorem actReturn_of_main (h : s.fetch.recovery = false) :
    actReturn ws s = if s.fetch.stack = [] then placeProgramError .stackEmpty ws s else hold .ret s := by
  simp [actReturn, h]

theorem actMainOnly_of_recovery (h : s.fetch.recovery = true) (e : HeldEntry) :
    actMainOnly e ws s = placeProgramError .notAllowedInRecovery ws s := if_pos h

theorem actMainOnly_of_main (h : s.fetch.recovery = false) (e : HeldEntry) : actMainOnly e ws s = hold e s :=
  if_neg (by simp [h])

theorem actResume_of_main (h : s.fetch.recovery = false) : actResume ws s = placeProgramError .notInRecovery ws s :=
  if_pos (by simp [h])

theorem actResume_of_mode {m : ResumeMode} (h : s.fetch.recovery = true) (hm : parseMode (fieldByte ws 4) = some m) :
    actResume ws s = hold (.resume m) s := by
  simp [actResume, h, hm]

theorem actResume_of_noMode (h : s.fetch.recovery = true) (hm : parseMode (fieldByte ws 4) = none) :
    actResume ws s = placeProgramError .badKind ws s := by
  simp [actResume, h, hm]

end

/-! ## Placeholders of the control entries (R54, R56) -/

/-- The program error of a control entry, in the order of its checks; each case with its detail code. -/
theorem controlEntry_refused {ws : List Word} {s : State} {d : Nat}
    (h : ((fieldByte ws 0).toNat = 0 ∨ 10 < (fieldByte ws 0).toNat) ∧ d = 1
      ∨ (2 ≤ (fieldByte ws 0).toNat ∧ (fieldByte ws 0).toNat ≤ 5 ∧ s.fetch.recovery = true ∧ d = 10)
      ∨ ((fieldByte ws 0).toNat = 10 ∧ s.fetch.recovery = false ∧ d = 9)
      ∨ ((fieldByte ws 0).toNat = 7 ∧ 3 < (fieldByte ws 4).toNat ∧ d = 1)
      ∨ ((fieldByte ws 0).toNat = 10 ∧ s.fetch.recovery = true ∧ parseMode (fieldByte ws 4) = none ∧ d = 1)
      ∨ ((fieldByte ws 0).toNat = 2 ∧ s.fetch.recovery = false ∧ fieldByte ws 0x10 = 0 ∧ d = 2)
      ∨ ((fieldByte ws 0).toNat = 2 ∧ s.fetch.recovery = false ∧ fieldByte ws 0x10 ≠ 0 ∧ 4 ≤ s.fetch.stack.length ∧ d = 7)
      ∨ ((fieldByte ws 0).toNat = 3 ∧ s.fetch.recovery = false ∧ s.fetch.stack = [] ∧ d = 8)) :
    ∃ x, programErrorCode x = d ∧ (fieldByte ws 0).toNat ≠ 1 ∧ entryRead ws s = placeProgramError x ws s := by
  rcases h with ⟨hk, rfl⟩ | ⟨hlo, hhi, hr, rfl⟩ | ⟨hk, hr, rfl⟩ | ⟨hk, hb, rfl⟩ | ⟨hk, hr, hm, rfl⟩ | ⟨hk, hr, hb, rfl⟩
    | ⟨hk, hr, hb, hf, rfl⟩ | ⟨hk, hr, he, rfl⟩
  · exact ⟨.badKind, rfl, by omega, entryRead_unnamed hk⟩
  · refine ⟨.notAllowedInRecovery, rfl, by omega, ?_⟩
    have hk : (fieldByte ws 0).toNat = 2 ∨ (fieldByte ws 0).toNat = 3 ∨ (fieldByte ws 0).toNat = 4
      ∨ (fieldByte ws 0).toNat = 5 := by omega
    rcases hk with hk | hk | hk | hk
    · rw [entryRead_call hk, actCall_of_recovery hr]
    · rw [entryRead_return hk, actReturn_of_recovery hr]
    · rw [entryRead_end hk, actMainOnly_of_recovery hr]
    · rw [entryRead_pause hk, actMainOnly_of_recovery hr]
  · exact ⟨.notInRecovery, rfl, by omega, by rw [entryRead_resume hk, actResume_of_main hr]⟩
  · exact ⟨.badKind, rfl, by omega, by rw [entryRead_setBank hk]; exact if_neg (by omega)⟩
  · exact ⟨.badKind, rfl, by omega, by rw [entryRead_resume hk, actResume_of_noMode hr hm]⟩
  · exact ⟨.badIndex, rfl, by omega, by rw [entryRead_call hk, actCall_of_main hr, if_pos hb]⟩
  · exact ⟨.stackFull, rfl, by omega, by rw [entryRead_call hk, actCall_of_main hr, if_neg hb, if_pos hf]⟩
  · exact ⟨.stackEmpty, rfl, by omega, by rw [entryRead_return hk, actReturn_of_main hr, if_pos he]⟩

/-! ## MARK, CLEAN and PARK (R53) -/

/-- The mask that collects one bit for each probe with a property. -/
theorem probeMask_getLsbD (f : ProbeNo → Bool) (p : ProbeNo) :
    (BitVec.ofNat 8 ((allProbes.map fun q => if f q then 2 ^ q.val else 0).sum)).getLsbD p.val = f p := by
  have hbits : (allProbes.map fun q => if f q then 2 ^ q.val else 0).sum = Nat.ofBits f := by
    have hval : ∀ (b : Bool) (n : Nat), (if b = true then n else 0) = n * b.toNat := fun b n => by cases b <;> simp
    simp [Nat.ofBits, Fin.foldr_succ, allProbes, hval]
    omega
  rw [hbits, BitVec.getLsbD_ofNat, Nat.testBit_ofBits_lt f _ p.isLt]
  simp

theorem dueMask_getLsbD (s : State) (p : ProbeNo) : (dueMask s).getLsbD p.val = (probe s p).due :=
  probeMask_getLsbD (fun q => (probe s q).due) p

theorem serviceEntry_state (s : State) (k : EntryKind) (mask : Byte) (cycles : Nat) (ws : List Word) :
    (mask = 0 → (serviceEntry s k mask cycles ws).state = .done)
    ∧ (mask ≠ 0 → (serviceEntry s k mask cycles ws).state = .pending) :=
  ⟨fun h => if_pos h, fun h => if_neg h⟩

theorem snapshotNow_eq (s : State) : snapshotNow s =
    ⟨⟨if s.fetch.recovery = true then .recovery else if s.rc.area = .a then .a else .b, s.fetch.list, s.fetch.index⟩,
      s.fetch.stack.length, s.fetch.bank⟩ := by
  unfold snapshotNow originArea
  cases s.rc.area <;> rfl

theorem boardPosition_append (fs : List Frame) (f : Frame) : boardPosition (fs ++ [f]) = f.board := by
  simp [boardPosition]

theorem parseMode_eq (b : Byte) : parseMode b = (if b.toNat = 1 then some .retry else if b.toNat = 2 then some .next
    else if b.toNat = 3 then some .halt else none) := by
  simp only [parseMode, ← BitVec.toNat_inj]
  rfl

end Sys2Proof.Machine

namespace Sys2Proof.Proofs

open Sys2Proof Sys2Proof.Machine

/-- Settles O32: by the kind byte, each kind by the branches of its action. -/
theorem controlEntriesAct : Obligations.ControlEntriesAct := by
  unfold Obligations.ControlEntriesAct
  refine ⟨fun ws s h => ?_, snapshotNow_eq, rfl, boardPosition_append, parseMode_eq, rfl⟩
  rw [txnRead_entry h]
  refine ⟨fun hk hr hb hf => ?_, fun hk hr he => ?_, fun hk hr => ?_, fun hk hr => ?_, fun m hk hr hm => ?_, fun hk hb => ?_,
    fun k hk => ?_, fun d hd => ?_⟩
  · rw [entryRead_call hk, actCall_of_main hr, if_neg hb, if_neg (by omega)]
  · rw [entryRead_return hk, actReturn_of_main hr, if_neg he]
    rfl
  · rw [entryRead_end hk, actMainOnly_of_main hr]
    rfl
  · rw [entryRead_pause hk, actMainOnly_of_main hr]
    rfl
  · rw [entryRead_resume hk, actResume_of_mode hr hm]
    rfl
  · rw [entryRead_setBank hk]
    exact if_pos hb
  · rcases hk with ⟨hk, rfl⟩ | ⟨hk, rfl⟩ | ⟨hk, rfl⟩
    · rw [entryRead_mark hk]
      exact ⟨_, rfl, rfl, rfl, rfl, rfl, rfl, rfl, rfl, rfl, rfl, fun _ => ⟨rfl, rfl⟩, nofun, fun _ => rfl,
        fun hn => absurd rfl hn, nofun, fun hn => absurd rfl hn⟩
    · rw [entryRead_clean hk]
      exact ⟨_, rfl, rfl, rfl, rfl, rfl, rfl, rfl, rfl, rfl, rfl, nofun, nofun, nofun, fun _ => rfl,
        fun _ => ⟨rfl, fun hd => if_neg (by simpa [fieldFlag] using hd), fun hd p =>
          (congrArg (fun m : Byte => m.getLsbD p.val) (if_pos hd)).trans (dueMask_getLsbD s p)⟩,
        fun _ => serviceEntry_state _ _ _ _ _⟩
    · rw [entryRead_park hk]
      exact ⟨_, rfl, rfl, rfl, rfl, rfl, rfl, rfl, rfl, rfl, rfl, nofun, fun _ => rfl, nofun, fun _ => rfl,
        nofun, fun _ => serviceEntry_state _ _ _ _ _⟩
  · obtain ⟨x, rfl, hne, hx⟩ := controlEntry_refused hd
    obtain ⟨e, he, hp⟩ := placeProgramError_placeholder x ws s
    rw [hx, he]
    exact ⟨e, rfl, hp.kind, hp.state, hp.cause, hp.detail, hp.snap, hp.board, hp.bank, hp.roles, hp.members,
      hp.slots fun h1 => hne (by rw [h1]; rfl), hp.nets, hp.entryByte⟩

end Sys2Proof.Proofs
end

section
/-! PROOFS. The fields of a MEASURE entry, its group flag and its checks 1 to 4. -/

namespace Sys2Proof.Machine

open Sys2Proof

/-! ## Fields of a MEASURE entry (R39, R50, spec 12.2) -/

theorem measKindOf_eq (b : Byte) : measKindOf b = (if b.toNat = 1 then some .res2 else if b.toNat = 2 then some .res4
    else if b.toNat = 3 then some .cap else if b.toNat = 4 then some .diode else if b.toNat = 5 then some .cont else none) := by
  simp only [measKindOf, ← BitVec.toNat_inj]
  rfl

theorem resolveBank_eq (current : Nat) (b : Byte) : resolveBank current b =
    (if b.toNat = 255 then some current else if b.toNat ≤ 3 then some b.toNat else none) := by
  simp only [resolveBank, ← BitVec.toNat_inj]
  rfl

theorem limitIndex_eq (ws : List Word) : limitIndex ws =
    (if (ws.getD 1 0).toNat = 4294967295 then none else some (ws.getD 1 0).toNat) := by
  simp only [limitIndex, ← BitVec.toNat_inj]
  rfl

/-- The second word of a slot stands in the step's word 5 + 2 n, the point index one word before it. -/
theorem slot_offset_div (n : RoleName) :
    (0x10 + 8 * roleIndex n) / 4 = 4 + 2 * roleIndex n ∧ (0x10 + 8 * roleIndex n + 4) / 4 = 5 + 2 * roleIndex n
    ∧ (0x10 + 8 * roleIndex n + 5) / 4 = 5 + 2 * roleIndex n ∧ (0x10 + 8 * roleIndex n + 4) % 4 = 0
    ∧ (0x10 + 8 * roleIndex n + 5) % 4 = 1 := by omega

theorem slotPoint_eq (ws : List Word) (n : RoleName) : slotPoint ws n = (ws.getD (4 + 2 * roleIndex n) 0).toNat := by
  obtain ⟨hpoint, -⟩ := slot_offset_div n
  rw [slotPoint, fieldNat, fieldWord, hpoint]

theorem slotProbe_eq (ws : List Word) (n : RoleName) : slotProbe ws n = (ws.getD (5 + 2 * roleIndex n) 0).toNat % 256 := by
  obtain ⟨-, hdiv, -, hmod, -⟩ := slot_offset_div n
  rw [slotProbe, fieldByte_toNat, hdiv, hmod, Nat.pow_zero, Nat.div_one]

theorem wordByte_one_getLsbD_zero (w : Word) : (wordByte w 1).getLsbD 0 = w.getLsbD 8 := by
  simp [wordByte]

theorem slotPresent_eq (ws : List Word) (n : RoleName) : slotPresent ws n = (ws.getD (5 + 2 * roleIndex n) 0).getLsbD 8 := by
  obtain ⟨-, -, hdiv, -, hmod⟩ := slot_offset_div n
  rw [slotPresent, fieldFlag, fieldByte, fieldWord, hdiv, hmod, wordByte_one_getLsbD_zero]

/-- The slots of an entry are those of the roles, in slot order (R54). -/
theorem entrySlots_getElem? (ws : List Word) (n : RoleName) : (entrySlots ws)[roleIndex n]? =
    some ⟨slotPresent ws n, fieldByte ws (0x10 + 8 * roleIndex n + 4), fieldWord ws (0x10 + 8 * roleIndex n)⟩ := by
  cases n <;> rfl

theorem entrySlots_length (ws : List Word) : (entrySlots ws).length = 5 := rfl

theorem usedSlots_eq (k : MeasKind) : usedSlots k =
    if k = .res4 then [.forceHi, .forceLo, .senseHi, .senseLo, .guard] else [.forceHi, .forceLo, .guard] := by
  cases k <;> rfl

theorem requiredSlots_eq (k : MeasKind) : requiredSlots k =
    if k = .res4 then [.forceHi, .forceLo, .senseHi, .senseLo] else [.forceHi, .forceLo] := by
  cases k <;> rfl

/-- Every kind requires FORCE_HI, and uses it first (R39). -/
theorem stepRoles_zero {k : MeasKind} {ws : List Word} (h : ∀ n ∈ requiredSlots k, slotPresent ws n = true) :
    (stepRoles k ws)[0]? = some .forceHi := by
  have hpresent : slotPresent ws .forceHi = true := h _ (by cases k <;> decide)
  obtain ⟨rest, hrest⟩ : ∃ rest, usedSlots k = .forceHi :: rest := by cases k <;> exact ⟨_, rfl⟩
  rw [stepRoles, hrest, List.filter_cons_of_pos hpresent]
  rfl

/-! ## The group flag (R51) -/

theorem txnRead_group {ws data : List Word} {s : State} (h : s.fetch.txn = some (.group ws)) :
    txnRead data s = groupRead ws (data.getD 0 0) s := by simp only [txnRead, h]

/-- The placeholder of a step of a disabled group (R51). -/
theorem skipped_placeholder (ws : List Word) (s : State) :
    Placeholder .skipped .skipped none 0 [] ws s (asWritten ws (blankEntry s .skipped .skipped ws)) := by
  obtain ⟨b, slots, heq, hwritten, hslots⟩ := asWritten_eq ws (blankEntry s .skipped .skipped ws)
  rw [heq]
  exact ⟨rfl, rfl, rfl, rfl, rfl, rfl, rfl, rfl, rfl, rfl, rfl, hwritten, hslots⟩

section
variable {ws : List Word} {w : Word} {s : State}

theorem groupRead_of_disabled (h : w.getLsbD ((fieldByte ws 2).toNat % 32) = false) : groupRead ws w s =
    if s.settings.logSkipped = true then placeEntry (asWritten ws (blankEntry s .skipped .skipped ws)) s
    else nextIndex { s with rc := { s.rc with summary := { s.rc.summary with skipped := satSucc s.rc.summary.skipped } } } :=
  if_neg (by simp [h])

theorem groupRead_of_failed {x : ProgramError} (h : w.getLsbD ((fieldByte ws 2).toNat % 32) = true)
    (hx : firstChecks s ws = some x) : groupRead ws w s = placeProgramError x ws s := by
  unfold groupRead
  rw [if_pos h, hx]

theorem groupRead_of_passed (h : w.getLsbD ((fieldByte ws 2).toNat % 32) = true) (hx : firstChecks s ws = none) :
    groupRead ws w s = readPoints ws [] s := by
  unfold groupRead
  rw [if_pos h, hx]

end

/-! ## Checks 1 to 4 (R55) -/

section
variable {ws : List Word} {s : State}

theorem firstChecks_of_badKind (h : measKindOf (fieldByte ws 1) = none ∨ resolveBank s.fetch.bank (fieldByte ws 3) = none) :
    firstChecks s ws = some .badKind := by
  unfold firstChecks
  split
  · rfl
  · rfl
  · next hk hb => simp [hk, hb] at h

variable {k : MeasKind} {b : Nat} (hk : measKindOf (fieldByte ws 1) = some k)
  (hb : resolveBank s.fetch.bank (fieldByte ws 3) = some b)
include hk hb

theorem firstChecks_of_missing (h : ∃ n ∈ requiredSlots k, slotPresent ws n = false) : firstChecks s ws = some .missingRole := by
  simp only [firstChecks, hk, hb]
  exact if_pos (by simpa using h)

variable (hall : ∀ n ∈ requiredSlots k, slotPresent ws n = true)
include hall

theorem firstChecks_of_badIndex (h : (∃ n ∈ stepRoles k ws, 7 < slotProbe ws n ∨ s.settings.pointCount ≤ slotPoint ws n)
      ∨ ∃ l, limitIndex ws = some l ∧ s.settings.limitCount ≤ l) : firstChecks s ws = some .badIndex := by
  simp only [firstChecks, hk, hb]
  rw [if_neg (by simpa using hall)]
  by_cases hslots : ∃ n ∈ stepRoles k ws, 7 < slotProbe ws n ∨ s.settings.pointCount ≤ slotPoint ws n
  · obtain ⟨n, hn, hbad⟩ := hslots
    exact if_pos (by simpa using ⟨n, hn, by omega⟩)
  · obtain ⟨l, hl, hbad⟩ := h.resolve_left hslots
    split
    · rfl
    · exact if_pos (by simpa [hl] using hbad)

variable (hslots : ∀ n ∈ stepRoles k ws, slotProbe ws n ≤ 7 ∧ slotPoint ws n < s.settings.pointCount)
  (hlimit : ∀ l, limitIndex ws = some l → l < s.settings.limitCount)
include hslots hlimit

/-- Past checks 1 to 3 the probes of the roles decide. -/
theorem firstChecks_of_indexes : firstChecks s ws =
    if ((stepRoles k ws).map (slotProbe ws)).Nodup then none else some .sameProbeTwice := by
  have hlim : (limitIndex ws).all (fun n => decide (n < s.settings.limitCount)) = true := by
    cases hl : limitIndex ws with
    | none => rfl
    | some l => exact decide_eq_true (hlimit l hl)
  simp only [firstChecks, hk, hb]
  rw [if_neg (by simpa using hall), if_neg (by simpa using hslots), if_neg (by simp [hlim])]
  split <;> simp_all

end

/-- The first failing check of 1 to 4, each case with its detail code. -/
theorem firstChecks_refused {ws : List Word} {s : State} {d : Nat}
    (h : ((measKindOf (fieldByte ws 1) = none ∨ resolveBank s.fetch.bank (fieldByte ws 3) = none) ∧ d = 1)
      ∨ (∃ k b, measKindOf (fieldByte ws 1) = some k ∧ resolveBank s.fetch.bank (fieldByte ws 3) = some b
          ∧ ((∃ n ∈ requiredSlots k, slotPresent ws n = false) ∧ d = 5
            ∨ (∀ n ∈ requiredSlots k, slotPresent ws n = true)
              ∧ ((∃ n ∈ stepRoles k ws, 7 < slotProbe ws n ∨ s.settings.pointCount ≤ slotPoint ws n)
                  ∨ ∃ l, limitIndex ws = some l ∧ s.settings.limitCount ≤ l) ∧ d = 2
            ∨ (∀ n ∈ requiredSlots k, slotPresent ws n = true)
              ∧ (∀ n ∈ stepRoles k ws, slotProbe ws n ≤ 7 ∧ slotPoint ws n < s.settings.pointCount)
              ∧ (∀ l, limitIndex ws = some l → l < s.settings.limitCount)
              ∧ ¬((stepRoles k ws).map (slotProbe ws)).Nodup ∧ d = 4))) :
    ∃ x, programErrorCode x = d ∧ firstChecks s ws = some x := by
  rcases h with ⟨hbad, rfl⟩ | ⟨k, b, hk, hb, ⟨hmissing, rfl⟩ | ⟨hall, hbad, rfl⟩ | ⟨hall, hslots, hlimit, htwice, rfl⟩⟩
  · exact ⟨.badKind, rfl, firstChecks_of_badKind hbad⟩
  · exact ⟨.missingRole, rfl, firstChecks_of_missing hk hb hmissing⟩
  · exact ⟨.badIndex, rfl, firstChecks_of_badIndex hk hb hall hbad⟩
  · exact ⟨.sameProbeTwice, rfl, by rw [firstChecks_of_indexes hk hb hall hslots hlimit, if_neg htwice]⟩

/-! ## The reads of the records (R42) -/

section
variable {ws : List Word} {pts : List PointRec} {k : MeasKind} (hk : measKindOf (fieldByte ws 1) = some k) (s : State)
include hk

theorem readPoints_of_role {n : RoleName} (h : (stepRoles k ws)[pts.length]? = some n) : readPoints ws pts s = { s with
    fetch := { s.fetch with txn := some (.points ws pts) }
    port := { s.port with reqs := s.port.reqs ++
      [⟨.fetch, s.settings.pointBase + 32 * slotPoint ws n, .read 8, true, s.port.epoch⟩] } } := by
  simp only [readPoints, hk, h]
  rfl

theorem readPoints_of_limit {l : Nat} (h : (stepRoles k ws).length ≤ pts.length) (hl : limitIndex ws = some l) :
    readPoints ws pts s = { s with
      fetch := { s.fetch with txn := some (.limit ws pts) }
      port := { s.port with reqs := s.port.reqs ++
        [⟨.fetch, s.settings.limitBase + 32 * l, .read 8, true, s.port.epoch⟩] } } := by
  simp only [readPoints, hk, List.getElem?_eq_none h, hl]
  rfl

theorem readPoints_of_noLimit (h : (stepRoles k ws).length ≤ pts.length) (hl : limitIndex ws = none) :
    readPoints ws pts s = recordsRead ws pts false none s := by
  simp only [readPoints, hk, List.getElem?_eq_none h, hl]

end

end Sys2Proof.Machine

namespace Sys2Proof.Proofs

open Sys2Proof Sys2Proof.Machine

/-- Settles O33: by the group flag, then by the first failing check; the fields each at its place. -/
theorem measureEntryChecks : Obligations.MeasureEntryChecks := by
  unfold Obligations.MeasureEntryChecks
  refine ⟨fun ws s h hkind => ?_, fun ws w s h hkind => ?_, measKindOf_eq,
    fun k => ⟨requiredSlots_eq k, usedSlots_eq k, fun _ => rfl⟩, rfl, fun ws n => ?_, entrySlots_length, resolveBank_eq,
    limitIndex_eq⟩
  · rw [txnRead_entry h, entryRead_measure (by rw [hkind]; rfl)]
    rfl
  · have hgroup : txnRead [w] s = groupRead ws w s := txnRead_group h
    rw [hgroup]
    refine ⟨fun hoff => ?_, fun hon => ⟨fun d hd => ?_, fun k b hk hb hall hslots hlimit hnodup => ?_⟩⟩
    · rw [groupRead_of_disabled hoff]
      refine ⟨fun hlog => ?_, fun hlog => if_neg (by simp [hlog])⟩
      rw [if_pos hlog]
      have hp := skipped_placeholder ws s
      obtain ⟨hbyte, hslots⟩ := hp.written hkind
      exact ⟨_, rfl, hp.kind, hp.state, hp.cause, hp.roles, hp.snap, hp.board, hp.bank, hbyte, hslots⟩
    · obtain ⟨x, rfl, hx⟩ := firstChecks_refused hd
      obtain ⟨e, he, hp⟩ := placeProgramError_placeholder x ws s
      obtain ⟨hbyte, hslots⟩ := hp.written hkind
      rw [groupRead_of_failed hon hx, he]
      exact ⟨e, rfl, hp.kind, hp.state, hp.cause, hp.detail, hp.snap, hp.board, hp.bank, hp.roles, hp.entryByte, hbyte, hslots⟩
    · rw [groupRead_of_passed hon (by rw [firstChecks_of_indexes hk hb hall hslots hlimit, if_pos hnodup]),
        readPoints_of_role (pts := []) hk s (stepRoles_zero hall)]
  · exact ⟨slotPoint_eq ws n, slotProbe_eq ws n, slotPresent_eq ws n, _, entrySlots_getElem? ws n, rfl, rfl, rfl⟩

end Sys2Proof.Proofs
end

section
/-! PROOFS. The records of a MEASURE entry: their fields, their reads, and checks 5 to 8. -/

namespace Sys2Proof.Machine

open Sys2Proof

/-! ## Fields of the records (R60, R154) -/

theorem parsePoint_eq (data : List Word) : parsePoint data = ⟨max (-1000000) (min 1000000 (data.getD 0 0).toInt),
    max (-1000000) (min 1000000 (data.getD 1 0).toInt), BitVec.ofNat 8 (data.getD 2 0).toNat,
    (data.getD 3 0).toNat % 65536, (data.getD 3 0).toNat / 65536⟩ := by
  have hside : fieldByte data 0x08 = BitVec.ofNat 8 (data.getD 2 0).toNat :=
    BitVec.eq_of_toNat_eq (by rw [fieldByte_toNat, BitVec.toNat_ofNat, Nat.pow_zero, Nat.div_one])
  have hnet := fieldHalf_eq data (off := 0x0C) (by decide)
  have hpad := fieldHalf_eq data (off := 0x0E) (by decide)
  have hlt := (data.getD 3 0).isLt
  norm_num only [Nat.div_one] at hnet hpad
  rw [parsePoint, hside, hnet, hpad, Nat.mod_eq_of_lt (by omega : (data.getD 3 0).toNat / 65536 < 65536)]
  rfl

theorem parseLimit_eq (data : List Word) : parseLimit data =
    (if (data.getD 0 0).toNat % 256 = 1 then
      some (.abs (data.getD 3 0 ++ data.getD 2 0).toInt (data.getD 5 0 ++ data.getD 4 0).toInt)
    else if (data.getD 0 0).toNat % 256 = 2 then
      some (.nomtol (data.getD 3 0 ++ data.getD 2 0).toInt ((data.getD 4 0).toNat % 65536) ((data.getD 4 0).toNat / 65536))
    else if (data.getD 0 0).toNat % 256 = 3 then
      some (.cont (data.getD 2 0).toNat (data.getD 3 0).toNat ((data.getD 4 0).getLsbD 0))
    else none) := by
  have hform : ∀ b : Byte, fieldByte data 0 = b ↔ (data.getD 0 0).toNat % 256 = b.toNat := fun b => by
    rw [fieldByte_eq_iff, Nat.pow_zero, Nat.div_one]
  have hplus := fieldHalf_eq data (off := 0x10) (by decide)
  have hminus := fieldHalf_eq data (off := 0x12) (by decide)
  have hflag : fieldFlag data 0x10 = (data.getD 4 0).getLsbD 0 := wordByte_getLsbD_zero _
  have hlt := (data.getD 4 0).isLt
  norm_num only [Nat.div_one] at hplus hminus
  rw [Nat.mod_eq_of_lt (by omega : (data.getD 4 0).toNat / 65536 < 65536)] at hminus
  simp only [parseLimit, hform, hplus, hminus, hflag]
  rfl

/-! ## The checks 5 to 8, each as the spec words it (R55, R60, R71) -/

theorem limitFormFits_eq_false (k : MeasKind) (lim : Option LimitRec) : limitFormFits k lim = false ↔
    (k = .cont ∧ ∀ a b c, lim ≠ some (.cont a b c)) ∨ (k ≠ .cont ∧ ∃ a b c, lim = some (.cont a b c)) := by
  rcases lim with _ | ⟨lo, hi⟩ | ⟨nominal, plus, minus⟩ | ⟨a, b, c⟩ <;> cases k <;> simp [limitFormFits]

theorem limitsInverted_iff (lim : Option LimitRec) :
    limitsInverted lim = true ↔ ∃ lo hi, lim = some (.abs lo hi) ∧ hi < lo := by
  rcases lim with _ | ⟨lo, hi⟩ | ⟨nominal, plus, minus⟩ | ⟨a, b, c⟩ <;> simp [limitsInverted]

theorem probeSide_roleProbe {ws : List Word} {n : RoleName} (h : slotProbe ws n ≤ 7) :
    probeSide (roleProbe ws n) = if slotProbe ws n < 4 then .top else .bottom := by
  show (if slotProbe ws n % 8 < 4 then Side.top else Side.bottom) = _
  rw [Nat.mod_eq_of_lt (by omega)]

theorem sideOf_eq_probeSide_iff {ws : List Word} {n : RoleName} (h : slotProbe ws n ≤ 7) (b : Byte) :
    sideOf b = some (probeSide (roleProbe ws n)) ↔ (b = 0 ∧ slotProbe ws n < 4) ∨ (b = 1 ∧ 4 ≤ slotProbe ws n) := by
  rw [probeSide_roleProbe h, sideOf]
  by_cases h0 : b = 0
  · subst h0
    by_cases hp : slotProbe ws n < 4 <;> simp [hp]
  · by_cases h1 : b = 1
    · subst h1
      by_cases hp : slotProbe ws n < 4 <;> simp [hp]
      omega
    · simp only [h0, h1, if_false, false_and, or_self, reduceCtorEq]

theorem spacingConflict_iff (d : Nat) (a b : Int × Int) :
    spacingConflict d a b = true ↔ (a.1 - b.1) ^ 2 + (a.2 - b.2) ^ 2 < (d : Int) ^ 2 := by
  simp only [spacingConflict, decide_eq_true_eq, pow_two]

theorem kelvinPair_iff (k : MeasKind) (a b : RoleName) : kelvinPair k a b = true ↔ k = .res4
    ∧ (a, b) ∈ [(.forceHi, .senseHi), (.senseHi, .forceHi), (.forceLo, .senseLo), (RoleName.senseLo, RoleName.forceLo)] := by
  simp [kelvinPair, or_assoc]

/-- Two roles conflict where both have a position, on one side, too close, and are no Kelvin pair (R71). -/
theorem placedConflict_iff (k : MeasKind) (d : Nat) (x y : Placed) : placedConflict k d x y = true ↔
    ∃ a b, x.pos = some a ∧ y.pos = some b ∧ x.side = y.side ∧ kelvinPair k x.name y.name = false
      ∧ (a.1 - b.1) ^ 2 + (a.2 - b.2) ^ 2 < (d : Int) ^ 2 := by
  unfold placedConflict
  split
  · next a b ha hb =>
    simp only [Bool.and_eq_true, decide_eq_true_eq, Bool.not_eq_true', spacingConflict_iff, ha, hb, and_assoc]
    constructor
    · exact fun h => ⟨a, b, rfl, rfl, h⟩
    · rintro ⟨a', b', ⟨⟩, ⟨⟩, h⟩
      exact h
  · next hno =>
    exact ⟨nofun, fun ⟨a, b, ha, hb, _⟩ => (hno a b ha hb).elim⟩

/-- Check 8, over the roles of the step and the points read for them. -/
theorem internalConflict_placedRoles (k : MeasKind) (d : Nat) (ws : List Word) (pts : List PointRec) (s : State) :
    internalConflict k d (placedRoles s k ws pts) = true ↔
      ∃ (i j : Nat) (x y : RoleName × PointRec) (a b : Int × Int), i < j
        ∧ ((stepRoles k ws).zip pts)[i]? = some x ∧ ((stepRoles k ws).zip pts)[j]? = some y
        ∧ probeSide (roleProbe ws x.1) = probeSide (roleProbe ws y.1) ∧ kelvinPair k x.1 y.1 = false
        ∧ pointPosition s x.2 = some a ∧ pointPosition s y.2 = some b
        ∧ (a.1 - b.1) ^ 2 + (a.2 - b.2) ^ 2 < (d : Int) ^ 2 := by
  simp only [internalConflict_iff, placedRoles, List.getElem?_map, Option.map_eq_some_iff, placedConflict_iff]
  constructor
  · rintro ⟨i, j, -, -, hlt, ⟨x, hx, rfl⟩, ⟨y, hy, rfl⟩, a, b, ha, hb, hside, hkelvin, hdist⟩
    exact ⟨i, j, x, y, a, b, hlt, hx, hy, hside, hkelvin, ha, hb, hdist⟩
  · rintro ⟨i, j, x, y, a, b, hlt, hx, hy, hside, hkelvin, ha, hb, hdist⟩
    exact ⟨i, j, _, _, hlt, ⟨x, hx, rfl⟩, ⟨y, hy, rfl⟩, a, b, ha, hb, hside, hkelvin, hdist⟩

/-! ## The reads, and what follows the last (R42, R55) -/

theorem txnRead_points {ws data : List Word} {pts : List PointRec} {s : State} (h : s.fetch.txn = some (.points ws pts)) :
    txnRead data s = readPoints ws (pts ++ [parsePoint data]) s := by simp only [txnRead, h]

theorem txnRead_limit {ws data : List Word} {pts : List PointRec} {s : State} (h : s.fetch.txn = some (.limit ws pts)) :
    txnRead data s = recordsRead ws pts true (parseLimit data) s := by simp only [txnRead, h]

section
variable {ws : List Word} {pts : List PointRec} {given : Bool} {lim : Option LimitRec} {k : MeasKind} {s : State}

theorem recordsRead_of_failed {x : ProgramError} (h : lastChecks s ws pts given lim = some x) :
    recordsRead ws pts given lim s = placeProgramError x ws s := by
  simp only [recordsRead, h]

variable (hk : measKindOf (fieldByte ws 1) = some k)
include hk

theorem recordsRead_of_passed (h : lastChecks s ws pts given lim = none) :
    recordsRead ws pts given lim s = landFrom ws pts lim k 0 s := by
  simp only [recordsRead, h, hk]

/-- The checks 5 to 8 in order, over what each tests. -/
theorem lastChecks_eq {badForm inverted wrongSide tooClose : Prop} [Decidable badForm] [Decidable inverted]
    [Decidable wrongSide] [Decidable tooClose] (hprobe : ∀ n ∈ stepRoles k ws, slotProbe ws n ≤ 7)
    (hform : badForm ↔ (given = true ∧ lim = none) ∨ (k = .cont ∧ ∀ a b c, lim ≠ some (.cont a b c))
      ∨ (k ≠ .cont ∧ ∃ a b c, lim = some (.cont a b c)))
    (hinverted : inverted ↔ ∃ lo hi, lim = some (.abs lo hi) ∧ hi < lo)
    (hside : wrongSide ↔ ∃ x ∈ (stepRoles k ws).zip pts,
      ¬(x.2.side = 0 ∧ slotProbe ws x.1 < 4) ∧ ¬(x.2.side = 1 ∧ 4 ≤ slotProbe ws x.1))
    (hclose : tooClose ↔ internalConflict k s.settings.dMin (placedRoles s k ws pts) = true) :
    lastChecks s ws pts given lim = if badForm then some .badKind else if inverted then some .limitsInverted
      else if wrongSide then some .wrongSide else if tooClose then some .spacingInternal else none := by
  have hform' : ((given && lim.isNone) || !limitFormFits k lim) = true ↔ badForm := by
    rw [hform, ← limitFormFits_eq_false]
    simp
  have hside' : (!(((stepRoles k ws).zip pts).all fun rp =>
      decide (sideOf rp.2.side = some (probeSide (roleProbe ws rp.1))))) = true ↔ wrongSide := by
    rw [hside, Bool.not_eq_true', List.all_eq_false]
    refine exists_congr fun x => and_congr_right fun hx => ?_
    rw [decide_eq_true_eq, sideOf_eq_probeSide_iff (hprobe _ (List.of_mem_zip hx).1), not_or]
  have hinverted' := (limitsInverted_iff lim).trans hinverted.symm
  simp only [lastChecks, hk, hform', hside', hinverted', ← hclose]

end

end Sys2Proof.Machine

namespace Sys2Proof.Proofs

open Sys2Proof Sys2Proof.Machine

/-- Settles O34: the reads by the number of points so far, the checks by the first that fails. -/
theorem recordsChecked : Obligations.RecordsChecked := by
  unfold Obligations.RecordsChecked
  refine ⟨fun ws data pts k s hk => ⟨fun h => ⟨fun n hn => ?_, fun hlen => ⟨fun l hl => ?_, fun hl => ?_⟩⟩, txnRead_limit⟩,
    fun ws pts given lim k s badForm inverted wrongSide tooClose hk hprobe hform hinverted hside hclose => ?_,
    kelvinPair_iff, parsePoint_eq, parseLimit_eq⟩
  · rw [txnRead_points h, readPoints_of_role hk s (by simpa using hn)]
  · rw [txnRead_points h, readPoints_of_limit hk s (by simpa using hlen) hl]
  · rw [txnRead_points h, readPoints_of_noLimit hk s (by simpa using hlen) hl]
  · classical
    have hchecks := lastChecks_eq (s := s) hk hprobe hform hinverted hside
      (hclose.trans (internalConflict_placedRoles k s.settings.dMin ws pts s).symm)
    refine ⟨fun d hd => ?_, fun hb hi hw hc => ?_⟩
    · obtain ⟨x, rfl, hx⟩ : ∃ x, programErrorCode x = d ∧ lastChecks s ws pts given lim = some x := by
        rw [hchecks]
        rcases hd with ⟨hb, rfl⟩ | ⟨hb, hi, rfl⟩ | ⟨hb, hi, hw, rfl⟩ | ⟨hb, hi, hw, hc, rfl⟩
        · exact ⟨.badKind, rfl, if_pos hb⟩
        · exact ⟨.limitsInverted, rfl, by rw [if_neg hb, if_pos hi]⟩
        · exact ⟨.wrongSide, rfl, by rw [if_neg hb, if_neg hi, if_pos hw]⟩
        · exact ⟨.spacingInternal, rfl, by rw [if_neg hb, if_neg hi, if_neg hw, if_pos hc]⟩
      obtain ⟨e, he, hp⟩ := placeProgramError_placeholder x ws s
      rw [recordsRead_of_failed hx, he]
      exact ⟨e, rfl, hp.kind, hp.state, hp.cause, hp.detail, hp.roles, hp.snap, hp.board, hp.bank, hp.nets, hp.written⟩
    · rw [recordsRead_of_passed hk (by rw [hchecks, if_neg hb, if_neg hi, if_neg hw, if_neg hc])]

end Sys2Proof.Proofs
end

section
/-! PROOFS. The landing checks: what they test, what each role's checks do, and the entry placed past the last. -/

namespace Sys2Proof.Machine

open Sys2Proof

/-! ## What the landing checks test (R45, R65, R66, R96) -/

theorem inReach_iff (q : Rect) (x y : Int) :
    inReach q x y = true ↔ q.xMin ≤ x ∧ x ≤ q.xMax ∧ q.yMin ≤ y ∧ y ≤ q.yMax := by
  simp only [inReach, Bool.and_eq_true, decide_eq_true_eq, and_assoc]

theorem floorDiv_eq_iff {d : Nat} (hd : 0 < d) (n m : Int) : floorDiv n d = m ↔ m * d ≤ n ∧ n < (m + 1) * d := by
  have hd' : (0 : Int) < d := by exact_mod_cast hd
  have hle : m ≤ n / d ↔ m * d ≤ n := Int.le_ediv_iff_mul_le hd'
  have hlt : n / d < m + 1 ↔ n < (m + 1) * d := Int.ediv_lt_iff_lt_mul hd'
  rw [floorDiv, ← hle, ← hlt]
  omega

/-- A quotient lies in the 128 cells of the map exactly where the number lies below 128 cells. -/
theorem floorDiv_mapped_iff {d : Nat} (hd : 0 < d) (n : Int) :
    (0 ≤ floorDiv n d ∧ floorDiv n d ≤ 127) ↔ 0 ≤ n ∧ n < 128 * d := by
  have hd' : (0 : Int) < d := by exact_mod_cast hd
  have hle : 0 ≤ n / d ↔ 0 * (d : Int) ≤ n := Int.le_ediv_iff_mul_le hd'
  have hlt : n / d < 128 ↔ n < 128 * d := Int.ediv_lt_iff_lt_mul hd'
  rw [floorDiv, ← hlt, hle]
  omega

theorem keepOutCell_eq_some_iff {t : Settings} (ht : 0 < t.cell) (x y : Int) (i j : Nat) :
    keepOutCell t x y = some (i, j) ↔ i ≤ 127 ∧ j ≤ 127
      ∧ (i : Int) * t.cell ≤ x - t.mapX0 ∧ x - t.mapX0 < ((i : Int) + 1) * t.cell
      ∧ (j : Int) * t.cell ≤ y - t.mapY0 ∧ y - t.mapY0 < ((j : Int) + 1) * t.cell := by
  have hx := floorDiv_eq_iff ht (x - t.mapX0) i
  have hy := floorDiv_eq_iff ht (y - t.mapY0) j
  rw [← and_assoc (b := x - t.mapX0 < _), ← hx, ← hy]
  simp only [keepOutCell, Option.ite_none_right_eq_some, Option.some.injEq, Prod.mk.injEq]
  omega

theorem keepOutCell_eq_none_iff {t : Settings} (ht : 0 < t.cell) (x y : Int) : keepOutCell t x y = none ↔
    x < t.mapX0 ∨ t.mapX0 + 128 * t.cell ≤ x ∨ y < t.mapY0 ∨ t.mapY0 + 128 * t.cell ≤ y := by
  have hx := floorDiv_mapped_iff ht (x - t.mapX0)
  have hy := floorDiv_mapped_iff ht (y - t.mapY0)
  simp only [keepOutCell, ite_eq_right_iff, reduceCtorEq, imp_false]
  omega

theorem probeSide_eq (p : ProbeNo) : probeSide p = if p.val ≤ 3 then .top else .bottom := by
  simp only [probeSide, Nat.lt_succ_iff]

theorem roleProbe_of_slotProbe {ws : List Word} {n : RoleName} {p : ProbeNo} (h : slotProbe ws n = p.val) :
    roleProbe ws n = p :=
  Fin.ext (by rw [roleProbe, h]; exact Nat.mod_eq_of_lt p.isLt)

/-! ## The checks of one role (R57, R65..R67) -/

section
variable {ws : List Word} {pts : List PointRec} (lim : Option LimitRec) {k : MeasKind} {i : Nat} {s : State}

theorem landFrom_of_noRole (h : (stepRoles k ws)[i]? = none) : landFrom ws pts lim k i s = placeMeasure ws pts lim k s := by
  simp only [landFrom, h]

variable {n : RoleName} {pt : PointRec} (hn : (stepRoles k ws)[i]? = some n) (hpt : pts[i]? = some pt)

section
include hn hpt

theorem landFrom_of_unreachable (h : pointPosition s pt = none ∨ ∃ x y, pointPosition s pt = some (x, y)
      ∧ (inReach (reachOf s.settings (probeSide (roleProbe ws n))) x y = false ∨ keepOutCell s.settings x y = none)) :
    landFrom ws pts lim k i s = placeLandingRefused 1 ws pts s := by
  rcases h with hpos | ⟨x, y, hpos, hreach | hcell⟩
  · simp only [landFrom, hn, hpt, hpos]
  · simp only [landFrom, hn, hpt, hpos]
    exact if_pos (by simp [hreach])
  · simp only [landFrom, hn, hpt, hpos, hcell, ite_self]

theorem landFrom_of_cell {x y : Int} {cell : Nat × Nat} (hpos : pointPosition s pt = some (x, y))
    (hreach : inReach (reachOf s.settings (probeSide (roleProbe ws n))) x y = true)
    (hcell : keepOutCell s.settings x y = some cell) : landFrom ws pts lim k i s = { s with
      fetch := { s.fetch with txn := some (.keepOut ws pts lim i) }
      port := { s.port with reqs := s.port.reqs ++
        [⟨.fetch, keepOutAddr s.settings (probeSide (roleProbe ws n)) cell, .read 1, true, s.port.epoch⟩] } } := by
  simp only [landFrom, hn, hpt, hpos, hcell]
  exact if_neg (by simp [hreach])

end

include hpt in
theorem keepOutRead_of_cell {x y : Int} {cell : Nat × Nat} (hpos : pointPosition s pt = some (x, y))
    (hcell : keepOutCell s.settings x y = some cell) (w : Word) : keepOutRead ws pts lim k i w s =
      if w.getLsbD (cell.1 % 32) = true then placeLandingRefused 2 ws pts s else landFrom ws pts lim k (i + 1) s := by
  simp only [keepOutRead, hpt, hpos, hcell]

end

/-! ## The entry placed past the last role (R52) -/

/-- The roles of a placed MEASURE entry. -/
def measureRoles (s : State) (ws : List Word) (pts : List PointRec) (k : MeasKind) : List Role :=
  ((stepRoles k ws).zip pts).map fun rp => makeRole s ws rp.1 rp.2

theorem measureRoles_waiting {s : State} {ws : List Word} {pts : List PointRec} {k : MeasKind} {r : Role}
    (h : r ∈ measureRoles s ws pts k) : r.state = .waiting ∧ r.retouches = 0 := by
  obtain ⟨rp, -, rfl⟩ := List.mem_map.1 h
  exact ⟨rfl, rfl⟩

theorem measureRoles_names {ws : List Word} {pts : List PointRec} {k : MeasKind} (h : pts.length = (stepRoles k ws).length)
    (s : State) : (measureRoles s ws pts k).map (·.name) = stepRoles k ws
      ∧ (measureRoles s ws pts k).map (·.probe) = (stepRoles k ws).map (roleProbe ws) := by
  have hfst : ((stepRoles k ws).zip pts).map Prod.fst = stepRoles k ws := List.map_fst_zip h.ge
  refine ⟨by rw [measureRoles, List.map_map]; exact hfst, ?_⟩
  conv_rhs => rw [← hfst]
  rw [measureRoles, List.map_map, List.map_map]
  rfl

theorem measureRoles_getElem? {s : State} {ws : List Word} {pts : List PointRec} {k : MeasKind} {j : Nat} {n : RoleName}
    {pt : PointRec} {a : Int × Int} (hn : (stepRoles k ws)[j]? = some n) (hpt : pts[j]? = some pt)
    (ha : pointPosition s pt = some a) : (measureRoles s ws pts k)[j]? = some ⟨n, roleProbe ws n, slotPoint ws n, a.1, a.2,
      probeSide (roleProbe ws n), pt.net, pt.pad, .waiting, 0⟩ := by
  have hzip : ((stepRoles k ws).zip pts)[j]? = some (n, pt) := List.getElem?_zip_eq_some.2 ⟨hn, hpt⟩
  rw [measureRoles, List.getElem?_map, hzip, Option.map_some, makeRole, ha]
  rfl

/-- Placing a MEASURE entry fills in, of a blank one as written, its roles, nets, limit, bank and capture flag. -/
theorem placeMeasure_eq (ws : List Word) (pts : List PointRec) (lim : Option LimitRec) (k : MeasKind) (s : State) :
    ∃ b slots, placeMeasure ws pts lim k s = placeEntry { blankEntry s .measure .pending ws with
        measByte := b, slots := slots, roles := measureRoles s ws pts k, nets := pts.map (·.net), limit := lim
        bank := (resolveBank s.fetch.bank (fieldByte ws 3)).getD 0, capture := fieldFlag ws 8 } s
      ∧ (fieldByte ws 0 = 1 → b = fieldByte ws 1 ∧ slots = entrySlots ws) := by
  obtain ⟨b, slots, heq, hwritten, -⟩ := asWritten_eq ws (blankEntry s .measure .pending ws)
  exact ⟨b, slots, by rw [placeMeasure, heq]; rfl, hwritten⟩

end Sys2Proof.Machine

namespace Sys2Proof.Proofs

open Sys2Proof Sys2Proof.Machine

/-- Settles O35: the branches of a role's checks, the placed entry, and the tests by integer division. -/
theorem landingChecks : Obligations.LandingChecks := by
  unfold Obligations.LandingChecks
  refine ⟨fun ws pts lim k i s => ⟨fun n pt hn hpt => ⟨fun h => ?_, fun x y cell hpos hreach hcell =>
      ⟨landFrom_of_cell lim hn hpt hpos hreach hcell, fun w => ⟨fun hw => ?_, fun hw => ?_⟩⟩⟩, fun h => ?_⟩,
    inReach_iff, fun _ => ⟨rfl, rfl⟩,
    fun t x y ht => ⟨keepOutCell_eq_some_iff ht x y, keepOutCell_eq_none_iff ht x y⟩, fun _ _ _ => ⟨rfl, rfl⟩,
    fun _ _ => rfl, probeSide_eq, fun _ _ _ => roleProbe_of_slotProbe⟩
  · obtain ⟨e, he, hp⟩ := placeLandingRefused_placeholder 1 ws pts s
    rw [landFrom_of_unreachable lim hn hpt h, he]
    exact ⟨e, rfl, hp.kind, hp.state, hp.cause, hp.detail, hp.nets, hp.roles, hp.snap, hp.board, hp.bank, hp.written⟩
  · obtain ⟨e, he, hp⟩ := placeLandingRefused_placeholder 2 ws pts s
    rw [keepOutRead_of_cell lim hpt hpos hcell, if_pos hw, he]
    exact ⟨e, rfl, hp.kind, hp.state, hp.cause, hp.detail, hp.nets, hp.roles, hp.snap, hp.board, hp.bank, hp.written⟩
  · rw [keepOutRead_of_cell lim hpt hpos hcell, if_neg (by simp [hw])]
  · obtain ⟨b, slots, heq, hwritten⟩ := placeMeasure_eq ws pts lim k s
    rw [landFrom_of_noRole lim h, heq]
    exact ⟨_, rfl, rfl, rfl, rfl, rfl, rfl, fun r hr => measureRoles_waiting hr, fun hlen => measureRoles_names hlen s,
      fun j n pt a => measureRoles_getElem?, rfl, fun b hb => by simp [hb], hwritten, rfl, rfl, rfl⟩

end Sys2Proof.Proofs
end

section
/-! PROOFS. The exact arithmetic: rounding half away from zero, the mean, the transform, the resistance of a range, the spacing test. -/

namespace Sys2Proof.Machine

open Sys2Proof

/-! ## Rounding half away from zero -/

/-- Rounding is odd: the two signs are treated alike. -/
theorem roundHalfAway_neg (n : Int) {d : Nat} (hd : 0 < d) : roundHalfAway (-n) d = -roundHalfAway n d := by
  rcases lt_trichotomy n 0 with h | rfl | h
  · rw [roundHalfAway, roundHalfAway, if_pos (by omega), if_neg (by omega), neg_neg]
  · have hzero : roundHalfAway 0 d = 0 := by
      rw [roundHalfAway, if_pos le_rfl]
      exact Int.ediv_eq_zero_of_lt (by omega) (by omega)
    rw [neg_zero, hzero, neg_zero]
  · rw [roundHalfAway, roundHalfAway, if_neg (by omega), if_pos (by omega), neg_neg]

theorem roundHalfAway_bounds {n : Int} {d : Nat} (hn : 0 ≤ n) (hd : 0 < d) :
    2 * (roundHalfAway n d * d) ≤ 2 * n + d ∧ 2 * n + d < 2 * (roundHalfAway n d * d) + 2 * d := by
  rw [roundHalfAway, if_pos hn]
  have hle := Int.mul_ediv_self_le (x := 2 * n + d) (k := 2 * (d : Int)) (by omega)
  have hlt := Int.lt_mul_ediv_self_add (x := 2 * n + d) (k := 2 * (d : Int)) (by omega)
  have hcomm : 2 * ((2 * n + d) / (2 * (d : Int)) * d) = 2 * (d : Int) * ((2 * n + d) / (2 * d)) := by ring
  omega

/-- The rounded quotient is the nearest integer, and at a half the one farther from zero (spec 00). -/
theorem roundHalfAway_nearest (n : Int) {d : Nat} (hd : 0 < d) :
    2 * (n - roundHalfAway n d * d).natAbs ≤ d
      ∧ (2 * (n - roundHalfAway n d * d).natAbs = d → n.natAbs < (roundHalfAway n d * d).natAbs) := by
  rcases le_total 0 n with hn | hn
  · have h := roundHalfAway_bounds hn hd
    omega
  · have h := roundHalfAway_bounds (n := -n) (by omega) hd
    rw [roundHalfAway_neg n hd, neg_mul] at h
    omega

/-- A factor common to dividend and divisor makes no difference. -/
theorem roundHalfAway_mul_right (n : Int) (d : Nat) {c : Nat} (hc : 0 < c) :
    roundHalfAway (n * c) (d * c) = roundHalfAway n d := by
  have hscale (m : Int) : (2 * (m * c) + (d * c : Nat)) / (2 * (d * c : Nat)) = (2 * m + d) / (2 * d) := by
    rw [← Int.mul_ediv_mul_of_pos_left (2 * m + d) (2 * (d : Int)) (Int.natCast_pos.2 hc)]
    congr 1 <;> push_cast <;> ring
  have hsign : 0 ≤ n * (c : Int) ↔ 0 ≤ n := mul_nonneg_iff_of_pos_right (Int.natCast_pos.2 hc)
  simp only [roundHalfAway, hsign, ← neg_mul, hscale]

@[simp] theorem roundHalfAway_one (n : Int) : roundHalfAway n 1 = n := by
  unfold roundHalfAway
  split <;> omega

/-! ## The mean (R145) -/

@[simp] theorem meanOf_one (sum : Int) : meanOf 1 sum = sum := if_pos rfl

/-- The mean of an even number of samples is the nearest integer, a half going to the greater. -/
theorem meanOf_even_bounds {n : Nat} (heven : Even n) (hn : 0 < n) (sum : Int) :
    2 * (n * meanOf n sum) ≤ 2 * sum + n ∧ 2 * sum + n < 2 * (n * meanOf n sum) + 2 * n := by
  obtain ⟨m, rfl⟩ := heven
  have hfloor : meanOf (m + m) sum = floorDiv (sum + ((m + m) / 2 : Nat)) (m + m) := if_neg (by omega)
  obtain ⟨hle, hlt⟩ := (floorDiv_eq_iff hn _ _).1 hfloor.symm
  rw [mul_comm] at hle
  rw [add_one_mul, mul_comm] at hlt
  omega

theorem meanOf_two_pow_bounds (k : Nat) (sum : Int) :
    2 * ((2 ^ k : Nat) * meanOf (2 ^ k) sum) ≤ 2 * sum + (2 ^ k : Nat)
      ∧ 2 * sum + (2 ^ k : Nat) < 2 * ((2 ^ k : Nat) * meanOf (2 ^ k) sum) + 2 * (2 ^ k : Nat) := by
  cases k with
  | zero => rw [pow_zero, meanOf_one]; omega
  | succ k => exact meanOf_even_bounds (Nat.even_pow.2 ⟨even_two, k.succ_ne_zero⟩) (Nat.two_pow_pos _) sum

/-! ## The transform (R62, R63) -/

theorem inInt32_iff (n : Int) : inInt32 n = true ↔ -2147483648 ≤ n ∧ n ≤ 2147483647 := by
  simp only [inInt32, Bool.and_eq_true, decide_eq_true_eq]

theorem transform_of_inInt32 (k : Correction) {dx dy x y : Int} (hx : inInt32 (x + dx) = true) (hy : inInt32 (y + dy) = true) :
    transform k (dx, dy) x y = some
      (k.ox + roundHalfAway (k.c * (x + dx) - k.s * (y + dy)) 1073741824,
        k.oy + roundHalfAway (k.s * (x + dx) + k.c * (y + dy)) 1073741824) :=
  if_pos (by rw [hx, hy]; rfl)

theorem transform_of_outside (k : Correction) {dx dy x y : Int} (h : ¬(inInt32 (x + dx) = true ∧ inInt32 (y + dy) = true)) :
    transform k (dx, dy) x y = none :=
  if_neg (by rwa [Bool.and_eq_true])

/-! ## The resistance of a range (R146) -/

/-- From range 2 on the source current divides a million nanoamperes, and nothing is rounded. -/
theorem resistanceOf_exact {i : Nat} (hlow : 2 ≤ i) (hhigh : i ≤ 6) (v : Int) :
    resistanceOf i v = v * (10 : Int) ^ (i - 2) := by
  have hpow : (10 : Int) ^ (i - 2) * 10 ^ (8 - i) = 1000000 := by
    rw [← pow_add, show i - 2 + (8 - i) = 6 by omega]; norm_num
  calc resistanceOf i v
      = roundHalfAway (v * (10 : Int) ^ (i - 2) * (10 ^ (8 - i) : Nat)) (1 * 10 ^ (8 - i)) := by
        rw [resistanceOf, sourceCurrent, one_mul, ← hpow, mul_assoc]; push_cast; rfl
    _ = v * (10 : Int) ^ (i - 2) := by rw [roundHalfAway_mul_right _ _ (by positivity), roundHalfAway_one]

/-- In ranges 0 and 1 a hundredth and a tenth of the voltage are rounded. -/
theorem resistanceOf_rounded (v : Int) : resistanceOf 1 v = roundHalfAway v 10 ∧ resistanceOf 0 v = roundHalfAway v 100 :=
  ⟨roundHalfAway_mul_right v 10 (c := 1000000) (by norm_num), roundHalfAway_mul_right v 100 (c := 1000000) (by norm_num)⟩

/-! ## The spacing test (R69) -/

theorem natCast_sq_le_sq {d : Nat} {x : Int} (h : (d : Int) ≤ x.natAbs) : (d : Int) ^ 2 ≤ x ^ 2 := by
  rw [← Int.natAbs_sq x]
  exact pow_le_pow_left₀ d.cast_nonneg h 2

/-- Positions at the minimum spacing or more along one axis do not conflict. -/
theorem spacingConflict_of_far {d : Nat} {a b : Int × Int}
    (h : (d : Int) ≤ (a.1 - b.1).natAbs ∨ (d : Int) ≤ (a.2 - b.2).natAbs) : spacingConflict d a b = false := by
  rw [Bool.eq_false_iff, ne_eq, spacingConflict_iff, not_lt]
  rcases h with hx | hy
  · exact le_add_of_le_of_nonneg (natCast_sq_le_sq hx) (sq_nonneg _)
  · exact le_add_of_nonneg_of_le (sq_nonneg _) (natCast_sq_le_sq hy)

theorem spacingConflict_self (d : Nat) (a : Int × Int) : spacingConflict d a a = decide (0 < d) := by
  rw [Bool.eq_iff_iff, spacingConflict_iff, decide_eq_true_iff]
  simp [sq_pos_iff, Nat.pos_iff_ne_zero]

end Sys2Proof.Machine

namespace Sys2Proof.Proofs

open Sys2Proof Sys2Proof.Machine

/-- Settles O51: the characterisation of each rounding, and the transform, the resistance and the spacing test. -/
theorem exactArithmetic : Obligations.ExactArithmetic := by
  unfold Obligations.ExactArithmetic
  refine ⟨fun n d hd => roundHalfAway_nearest n hd, fun k sum _ => meanOf_two_pow_bounds k sum,
    fun k dx dy x y => ⟨fun hx hx' hy hy' => ?_, fun h => ?_⟩, fun i v h h' => resistanceOf_exact h h' v,
    resistanceOf_rounded, spacingConflict_iff, fun _ _ _ => spacingConflict_of_far, spacingConflict_self⟩
  · exact transform_of_inInt32 k ((inInt32_iff _).2 ⟨hx, hx'⟩) ((inInt32_iff _).2 ⟨hy, hy'⟩)
  · exact transform_of_outside k (by rw [inInt32_iff, inInt32_iff]; omega)

end Sys2Proof.Proofs
end

section
/-! PROOFS. Conflicts of a role: the probes in its conflict set, and how each is resolved. -/

namespace Sys2Proof.Machine

open Sys2Proof

/-! ## The conflict set (R68, R70) -/

theorem mem_allProbes (p : ProbeNo) : p ∈ allProbes := by revert p; decide

theorem standing_eq_some_iff (r : Probe) (a : Int × Int) :
    standing r = some a ↔ (r.state = .landed ∨ r.state = .moving ∨ r.state = .lifting) ∧ r.pos = some a := by
  unfold standing
  split <;> simp [*]

theorem standing_of_landed {r : Probe} (h : r.state = .landed) : standing r = r.pos := by
  simp only [standing, h]

theorem kelvinExempt_iff (e : Entry) (r : Role) (q : ProbeNo) (a : Int × Int) :
    kelvinExempt e r q a = true ↔ ∃ k, measKindOf e.measByte = some k
      ∧ ∃ x ∈ e.roles, x.probe = q ∧ kelvinPair k r.name x.name = true ∧ (x.x, x.y) = a := by
  unfold kelvinExempt
  split
  · next h => simp [h]
  · next k h =>
    simp only [h, List.any_eq_true, Bool.and_eq_true, decide_eq_true_eq, and_assoc, Option.some.injEq, exists_eq_left']

theorem mem_conflictSet_iff (s : State) (e : Entry) (r : Role) (q : ProbeNo) : q ∈ conflictSet s e r ↔
    q ≠ r.probe ∧ probeSide q = probeSide r.probe ∧ ∃ a, standing (probe s q) = some a
      ∧ spacingConflict s.settings.dMin (r.x, r.y) a = true ∧ ¬kelvinExempt e r q a = true := by
  rw [conflictSet, List.mem_filter]
  cases standing (probe s q) <;> simp [mem_allProbes, and_assoc]

/-! ## Entries in front and behind (R81) -/

/-- No entry in front of `a` or behind it has its number. -/
theorem uid_ne_around {s : State} {a : Entry} {before behind : List Entry} (hnodup : (s.window.map (·.uid)).Nodup)
    (hw : s.window = before ++ a :: behind) : ∀ x ∈ before ++ behind, x.uid ≠ a.uid := by
  rw [hw, List.map_append, List.map_cons, List.nodup_middle, ← List.map_append] at hnodup
  exact fun x hx heq => (List.nodup_cons.1 hnodup).1 (heq ▸ List.mem_map_of_mem hx)

section
variable {s : State} {h a : Entry} {before between behind : List Entry} (hnodup : (s.window.map (·.uid)).Nodup)
include hnodup

/-- An entry that stands in front of `a` is another one, and not younger. -/
theorem not_isYounger_of_before (hw : s.window = before ++ h :: (between ++ a :: behind)) :
    h.uid ≠ a.uid ∧ isYounger s a.uid h.uid = false := by
  have hsplit : s.window = (before ++ h :: between) ++ a :: behind := by simp [hw]
  have haround := uid_ne_around hnodup hsplit
  refine ⟨haround h (by simp), ?_⟩
  rw [isYounger_split rfl (fun x hx => haround x (List.mem_append_left _ hx)) hsplit, List.any_eq_false]
  intro x hx
  simpa using uid_ne_around hnodup hw x (by simp [hx])

/-- An entry that stands behind `a` is another one, and younger. -/
theorem isYounger_of_behind (hw : s.window = before ++ a :: (between ++ h :: behind)) :
    h.uid ≠ a.uid ∧ isYounger s a.uid h.uid = true := by
  have haround := uid_ne_around hnodup hw
  refine ⟨haround h (by simp), ?_⟩
  rw [isYounger_split rfl (fun x hx => haround x (List.mem_append_left _ hx)) hw, List.any_eq_true]
  exact ⟨h, by simp, decide_eq_true rfl⟩

end

/-! ## Resolving one conflict (R81, R82) -/

theorem atOwnPoint_iff (e : Entry) (q : ProbeNo) (pos : Option (Int × Int)) :
    atOwnPoint e q pos = true ↔ ∃ x ∈ e.roles, x.probe = q ∧ pos = some (x.x, x.y) := by
  simp only [atOwnPoint, List.any_eq_true, Bool.and_eq_true, decide_eq_true_eq]

section
variable {e : Entry} {q : ProbeNo} {s : State}

theorem resolveConflict_of_not_landed (h : (probe s q).state ≠ .landed) : resolveConflict e q s = s := if_pos h

/-- A refused LIFT leaves the conflict as it is. -/
theorem resolveConflict_of_refused (h : requestOrder q .lift s = none) : resolveConflict e q s = s := by
  have hlift : liftProbe q s = s := by rw [liftProbe, h, Option.getD_none]
  cases hh : holder s q <;> simp only [resolveConflict, hh, hlift, h, ite_self]

variable {t : State} (hl : (probe s q).state = .landed) (ht : requestOrder q .lift s = some t)
include hl ht

theorem resolveConflict_of_unheld (h : holder s q = none) : resolveConflict e q s = t := by
  simp only [resolveConflict, hl, h, liftProbe, ht, ne_eq, not_true_eq_false, if_false, Option.getD_some]

variable {h : Entry} (hh : holder s q = some h)
include hh

theorem resolveConflict_of_own (hu : h.uid = e.uid) :
    resolveConflict e q s = if ∃ x ∈ e.roles, x.probe = q ∧ (probe s q).pos = some (x.x, x.y) then s else t := by
  simp only [resolveConflict, hl, hh, hu, liftProbe, ht, standing_of_landed hl, atOwnPoint_iff, ne_eq, not_true_eq_false,
    if_false, if_true, Option.getD_some]

theorem resolveConflict_of_other (hu : h.uid ≠ e.uid) :
    resolveConflict e q s = if isYounger s e.uid h.uid = true then updateEntry h.uid (preemptedEntry q) t else s := by
  simp only [resolveConflict, hl, hh, hu, ht, if_false, ne_eq, not_true_eq_false]

end

end Sys2Proof.Machine

namespace Sys2Proof.Proofs

open Sys2Proof Sys2Proof.Machine

/-- Settles O37: membership of the conflict set, and the branches of resolveConflict by the holder of the probe. -/
theorem conflictsResolved : Obligations.ConflictsResolved := by
  unfold Obligations.ConflictsResolved
  refine ⟨fun s e r q => ?_, fun e q s => ⟨fun h => h.elim resolveConflict_of_not_landed resolveConflict_of_refused,
    fun t hl ht => ⟨resolveConflict_of_unheld hl ht, fun h hh => ⟨fun hu => ?_, fun before between behind a ha hnodup => ?_⟩⟩⟩⟩
  · simp only [mem_conflictSet_iff, standing_eq_some_iff, spacingConflict_iff, kelvinExempt_iff]
    constructor
    · rintro ⟨hne, hside, a, ⟨hstate, hpos⟩, hdist, hexempt⟩
      exact ⟨hne, hside, hstate, a, hpos, hdist, hexempt⟩
    · rintro ⟨hne, hside, hstate, a, hpos, hdist, hexempt⟩
      exact ⟨hne, hside, a, ⟨hstate, hpos⟩, hdist, hexempt⟩
  · rw [resolveConflict_of_own hl ht hh hu]
    exact ⟨fun hown => if_pos hown, fun hoff => if_neg fun ⟨x, hx, hp, hpos⟩ => hoff x hx hp hpos⟩
  · refine ⟨fun hw => ?_, fun hw => ?_⟩
    · obtain ⟨hne, hyounger⟩ := not_isYounger_of_before hnodup hw
      rw [resolveConflict_of_other hl ht hh (ha ▸ hne), ← ha, hyounger]
      rfl
    · obtain ⟨hne, hyounger⟩ := isYounger_of_behind hnodup hw
      rw [resolveConflict_of_other hl ht hh (ha ▸ hne), ← ha, hyounger]
      rfl

end Sys2Proof.Proofs
end

section
/-! PROOFS. The entries of the window: which are unmeasured, which probes they name, who holds a reservation, and when an entry
becomes READY or DONE. -/

namespace Sys2Proof.Machine

open Sys2Proof

/-! ## The oldest entry of a kind (R78, R86) -/

/-- The first member of a list that passes a test, by its place. -/
theorem find?_eq_some_iff_split {α : Type} {f : α → Bool} {l : List α} {a : α} : l.find? f = some a ↔
    ∃ before behind, l = before ++ a :: behind ∧ f a = true ∧ ∀ x ∈ before, f x = false := by
  rw [List.find?_eq_some_iff_append]
  constructor
  · rintro ⟨ha, before, behind, hl, hb⟩
    exact ⟨before, behind, hl, ha, by simpa using hb⟩
  · rintro ⟨before, behind, hl, ha, hb⟩
    exact ⟨ha, before, behind, hl, by simpa using hb⟩

theorem unmeasured_iff (e : Entry) : unmeasured e = true ↔ e.state = .pending ∨ e.state = .ready ∨ e.state = .measuring := by
  unfold unmeasured
  cases e.state <;> simp

theorem namesProbe_iff (e : Entry) (p : ProbeNo) : namesProbe e p = true ↔
    (e.kind = .measure ∧ ∃ r ∈ e.roles, r.probe = p)
    ∨ ((e.kind = .clean ∨ e.kind = .park) ∧ ∃ m ∈ e.members, m.probe = p) := by
  unfold namesProbe
  cases e.kind <;> simp

theorem holder_eq_none_iff (s : State) (p : ProbeNo) : holder s p = none ↔ ∀ e ∈ s.window, namesProbe e p = false := by
  simp [holder]

theorem holds_iff (s : State) (u : Nat) (p : ProbeNo) : holds s u p = true ↔ ∃ e, holder s p = some e ∧ e.uid = u := by
  unfold holds
  cases holder s p <;> simp

/-- Where numbers are distinct, the entry of a number is the one entry of the window that has it. -/
theorem entryOf_eq_some_iff {s : State} (hn : (s.window.map (·.uid)).Nodup) (u : Nat) (e : Entry) :
    entryOf s u = some e ↔ e ∈ s.window ∧ e.uid = u := by
  refine ⟨entryOf_some, fun ⟨he, hu⟩ => ?_⟩
  cases hf : entryOf s u with
  | none => exact absurd (decide_eq_true hu) (List.find?_eq_none.1 hf e he)
  | some x =>
    obtain ⟨hx, hxu⟩ := entryOf_some hf
    rw [List.inj_on_of_nodup_map hn hx he (hxu.trans hu.symm)]

/-! ## Changing an entry (R84, R88, R89) -/

/-- An entry of another number is found as it was. -/
theorem entryOf_updateEntry_other {u v : Nat} (h : v ≠ u) {f : Entry → Entry} (hf : ∀ e, (f e).uid = e.uid) (s : State) :
    entryOf (updateEntry u f s) v = entryOf s v := by
  have hg : ∀ e : Entry, (if e.uid = u then f e else e).uid = e.uid := fun e => by
    split
    · exact hf e
    · rfl
  unfold entryOf updateEntry
  rw [List.find?_map]
  simp only [Function.comp_def, hg]
  cases hv : s.window.find? fun e => decide (e.uid = v) with
  | none => rfl
  | some e =>
    obtain ⟨-, he⟩ := entryOf_some hv
    simp [he, h]

theorem readyIfContact_of_contact {e : Entry} (hs : e.state = .pending) (hr : ∀ r ∈ e.roles, r.state = .contactOk) :
    readyIfContact e = { e with state := .ready } := if_pos (by simpa [hs] using hr)

theorem readyIfContact_of_not {e : Entry} (h : e.state ≠ .pending ∨ ∃ r ∈ e.roles, r.state ≠ .contactOk) :
    readyIfContact e = e := if_neg (by rcases h with h | h <;> simp [h])

theorem doneIfComplete_of_complete {e : Entry} (hs : e.state = .pending) (hm : ∀ m ∈ e.members, m.state = .complete) :
    doneIfComplete e = { e with state := .done } := if_pos (by simpa [hs] using hm)

theorem doneIfComplete_of_not {e : Entry} (h : e.state ≠ .pending ∨ ∃ m ∈ e.members, m.state ≠ .complete) :
    doneIfComplete e = e := if_neg (by rcases h with h | h <;> simp [h])

end Sys2Proof.Machine
end

section
/-! PROOFS. Serving a WAITING role: stay-down, a FAULTED probe, the MOVE, or its conflicts. -/

namespace Sys2Proof.Machine

open Sys2Proof

/-! ## What resolving a conflict leaves alone (R81, R82) -/

/-- All that resolving one conflict can do: nothing, or the LIFT taken, a role or member of another entry falling back with it. -/
theorem resolveConflict_cases (e : Entry) (q : ProbeNo) (s : State) :
    resolveConflict e q s = s ∨ ∃ t, requestOrder q .lift s = some t ∧
      (resolveConflict e q s = t ∨ ∃ u, u ≠ e.uid ∧ resolveConflict e q s = updateEntry u (preemptedEntry q) t) := by
  by_cases hl : (probe s q).state = .landed
  · cases ht : requestOrder q .lift s with
    | none => exact .inl (resolveConflict_of_refused ht)
    | some t =>
      cases hh : holder s q with
      | none => exact .inr ⟨t, rfl, .inl (resolveConflict_of_unheld hl ht hh)⟩
      | some h =>
        by_cases hu : h.uid = e.uid
        · rw [resolveConflict_of_own hl ht hh hu]
          split
          · exact .inl rfl
          · exact .inr ⟨t, rfl, .inl rfl⟩
        · rw [resolveConflict_of_other hl ht hh hu]
          split
          · exact .inr ⟨t, rfl, .inr ⟨h.uid, hu, rfl⟩⟩
          · exact .inl rfl
  · exact .inl (resolveConflict_of_not_landed hl)

/-- Resolving a conflict leaves the waiting role's own entry and every other probe as they were. -/
theorem resolveConflict_leaves (e : Entry) (q : ProbeNo) (s : State) :
    entryOf (resolveConflict e q s) e.uid = entryOf s e.uid ∧ ∀ p, p ≠ q → probe (resolveConflict e q s) p = probe s p := by
  rcases resolveConflict_cases e q s with h | ⟨t, ht, h⟩
  · rw [h]
    exact ⟨rfl, fun _ _ => rfl⟩
  · obtain ⟨-, rfl⟩ := requestOrder_some ht
    have hp : ∀ p, p ≠ q → probe (takeOrder q .lift s) p = probe s p := fun p hpq => probe_takeOrder_other hpq _ _
    rcases h with h | ⟨u, hu, h⟩ <;> rw [h]
    · exact ⟨rfl, hp⟩
    · exact ⟨entryOf_updateEntry_other hu.symm (preemptedEntry_uid q) _, hp⟩

theorem resolveConflicts_leave (e : Entry) (l : List ProbeNo) (s : State) :
    entryOf (l.foldl (fun t q => resolveConflict e q t) s) e.uid = entryOf s e.uid
    ∧ ∀ p, p ∉ l → probe (l.foldl (fun t q => resolveConflict e q t) s) p = probe s p := by
  induction l generalizing s with
  | nil => exact ⟨rfl, fun _ _ => rfl⟩
  | cons q l ih =>
    obtain ⟨hentry, hprobe⟩ := ih (resolveConflict e q s)
    obtain ⟨hentry', hprobe'⟩ := resolveConflict_leaves e q s
    refine ⟨hentry.trans hentry', fun p hp => ?_⟩
    obtain ⟨hpq, hpl⟩ := not_or.1 (mt List.mem_cons.2 hp)
    exact (hprobe p hpl).trans (hprobe' p hpq)

/-! ## A waiting role (R80) -/

/-- The role's probe stands at the role's point, landed there with its contact verified (R72, R80). -/
def StandsAtPoint (s : State) (r : Role) : Prop :=
  (probe s r.probe).state = .landed ∧ (probe s r.probe).pos = some (r.x, r.y) ∧ probeSide r.probe = r.side
    ∧ (probe s r.probe).verified = true

theorem staysDown_and_verified_iff (s : State) (r : Role) :
    (decide ((probe s r.probe).state = .landed) && staysDown r.probe (probe s r.probe) r.side r.x r.y
      && (probe s r.probe).verified) = true ↔ StandsAtPoint s r := by
  simp only [StandsAtPoint, staysDown, standing_eq_some_iff, Bool.and_eq_true, decide_eq_true_eq]
  tauto

theorem not_standsAtPoint {s : State} {r : Role} (h : (probe s r.probe).state ≠ .landed
    ∨ (probe s r.probe).pos ≠ some (r.x, r.y) ∨ probeSide r.probe ≠ r.side ∨ (probe s r.probe).verified = false) :
    ¬StandsAtPoint s r := by
  rintro ⟨hstate, hpos, hside, hverified⟩
  simp [hstate, hpos, hside, hverified] at h

/-- The role or member of a probe is served: it waits, its entry is unmeasured and holds the probe, and the probe has no order. -/
def Servable (s : State) (u : Nat) (e : Entry) (waits : Prop) (p : ProbeNo) : Prop :=
  unmeasured e = true ∧ waits ∧ holds s u p = true ∧ (probe s p).order = none

theorem not_servable {s : State} {u : Nat} {e : Entry} {waits : Prop} {p : ProbeNo}
    (h : unmeasured e = false ∨ ¬waits ∨ holds s u p = false ∨ (probe s p).order ≠ none) : ¬Servable s u e waits p := by
  rintro ⟨hu, hw, hh, ho⟩
  simp [hu, hw, hh, ho] at h

theorem servable_iff {s : State} {u : Nat} {e : Entry} {waits : Prop} [Decidable waits] {p : ProbeNo} :
    (unmeasured e && decide waits && holds s u p && (probe s p).order.isNone) = true ↔ Servable s u e waits p := by
  simp [Servable, and_assoc]

section
variable {u i : Nat} {s : State} {e : Entry} {r : Role} (he : entryOf s u = some e) (hr : e.roles[i]? = some r)
include he hr

theorem serveRole_of_not_servable (h : ¬Servable s u e (r.state = .waiting) r.probe) : serveRole u i s = s := by
  simp only [serveRole, he, hr, servable_iff, h, if_false]

variable (h : Servable s u e (r.state = .waiting) r.probe)
include h

/-- A probe that stays down gives the role its contact (R72, R80, R84). -/
theorem serveRole_of_standing (hd : StandsAtPoint s r) : serveRole u i s =
    updateEntry u (fun f => readyIfContact (withRole i (fun x => { x with state := .contactOk }) f)) s := by
  simp only [serveRole, he, hr, servable_iff, h, if_true, staysDown_and_verified_iff, hd]

/-- A FAULTED probe fails the entry (R85). -/
theorem serveRole_of_faulted (hf : (probe s r.probe).state = .faulted) :
    serveRole u i s = failEntry u .motionFault (probe s r.probe).faultCode.toNat s := by
  simp only [serveRole, he, hr, servable_iff, h, if_true, hf, reduceCtorEq, decide_false, Bool.false_and, Bool.false_eq_true,
    if_false]

variable (hf : (probe s r.probe).state ≠ .faulted) (hd : ¬StandsAtPoint s r)
include hf hd

/-- With no conflict the MOVE is asked for, and the role is ORDERED once it is taken (R80). -/
theorem serveRole_of_move (hc : conflictSet s e r = []) {t : State} (ht : requestOrder r.probe (.move r.x r.y) s = some t) :
    serveRole u i s = updateEntry u (withRole i fun x => { x with state := .ordered }) t := by
  simp only [serveRole, he, hr, servable_iff, h, if_true, staysDown_and_verified_iff, hd, hf, if_false, hc, List.isEmpty_nil, ht]

/-- A refused MOVE leaves the role WAITING (R80, R99). -/
theorem serveRole_of_refused (hc : conflictSet s e r = []) (ht : requestOrder r.probe (.move r.x r.y) s = none) :
    serveRole u i s = s := by
  simp only [serveRole, he, hr, servable_iff, h, if_true, staysDown_and_verified_iff, hd, hf, if_false, hc, List.isEmpty_nil, ht]

/-- The conflicts of the role are resolved one after the other, and the role waits on (R80, R81). -/
theorem serveRole_of_conflict (hc : conflictSet s e r ≠ []) :
    serveRole u i s = (conflictSet s e r).foldl (fun t q => resolveConflict e q t) s := by
  simp only [serveRole, he, hr, servable_iff, h, if_true, staysDown_and_verified_iff, hd, hf, if_false, List.isEmpty_iff, hc]

end

end Sys2Proof.Machine

namespace Sys2Proof.Proofs

open Sys2Proof Sys2Proof.Machine

/-- Settles O36: the branches of serveRole by the probe's record and the role's conflicts, then the window's own terms. -/
theorem rolesServed : Obligations.RolesServed := by
  unfold Obligations.RolesServed
  refine ⟨fun u i s e r he hr => ⟨fun h => serveRole_of_not_servable he hr (not_servable h), fun hu hw hh ho => ?_⟩,
    fun f => ⟨readyIfContact_of_contact, readyIfContact_of_not⟩, unmeasured_iff, namesProbe_iff,
    fun s p => ⟨holder_eq_none_iff s p, fun e => find?_eq_some_iff_split, fun u => holds_iff s u p⟩,
    fun s u e hn => entryOf_eq_some_iff hn u e⟩
  have hs : Servable s u e (r.state = .waiting) r.probe := ⟨hu, hw, hh, ho⟩
  refine ⟨fun hl hp hside hv => serveRole_of_standing he hr hs ⟨hl, hp, hside, hv⟩, fun hf => ?_, fun hf hd => ?_⟩
  · rw [serveRole_of_faulted he hr hs hf]
    exact failEntry_entryFailed _ _ he hu
  · have hd := not_standsAtPoint hd
    refine ⟨fun hc t ht => serveRole_of_move he hr hs hf hd hc ht, fun hc ht => serveRole_of_refused he hr hs hf hd hc ht,
      fun hc => ?_⟩
    obtain ⟨-, rfl⟩ := entryOf_some he
    obtain ⟨hentry, hprobe⟩ := resolveConflicts_leave e (conflictSet s e r) s
    rw [serveRole_of_conflict he hr hs hf hd hc]
    exact ⟨rfl, hentry.trans he, hprobe⟩

end Sys2Proof.Proofs
end

section
/-! PROOFS. Serving a WAITING mask member, the sweep of FAULTED probes, and the order of a serving pass. -/

namespace Sys2Proof.Machine

open Sys2Proof

/-! ## A waiting member (R88, R89) -/

section
variable {u i : Nat} {s : State} {e : Entry} {m : Member} (he : entryOf s u = some e) (hm : e.members[i]? = some m)
include he hm

theorem serveMember_of_not_servable (h : ¬Servable s u e (m.state = .waiting) m.probe) : serveMember u i s = s := by
  simp only [serveMember, he, hm, servable_iff, h, if_false]

variable (h : Servable s u e (m.state = .waiting) m.probe)
include h

/-- A PARKED probe completes a PARK member with no order (R89). -/
theorem serveMember_of_parked (hk : e.kind = .park) (hp : (probe s m.probe).state = .parked) :
    serveMember u i s = updateEntry u (fun f => doneIfComplete (withMember i .complete f)) s := by
  simp only [serveMember, he, hm, servable_iff, h, hk, hp, decide_true, Bool.and_true, if_true]

/-- A FAULTED probe fails a CLEAN entry (R85). -/
theorem serveMember_of_faulted (hk : e.kind = .clean) (hf : (probe s m.probe).state = .faulted) :
    serveMember u i s = failEntry u .motionFault (probe s m.probe).faultCode.toNat s := by
  simp only [serveMember, he, hm, servable_iff, h, hk, hf, reduceCtorEq, decide_false, decide_true, Bool.and_self,
    Bool.false_eq_true, if_true, if_false]

/-- The order of a member that is neither complete already nor on a FAULTED probe to be cleaned. -/
def AsksFor (s : State) (e : Entry) (p : ProbeNo) (o : Order) : Prop :=
  (e.kind = .park ∧ (probe s p).state ≠ .parked ∧ o = .park)
    ∨ (e.kind = .clean ∧ (probe s p).state ≠ .faulted ∧ o = .clean e.cycles)

variable {o : Order} (ho : AsksFor s e m.probe o)
include ho

theorem serveMember_of_refused (ht : requestOrder m.probe o s = none) : serveMember u i s = s := by
  rcases ho with ⟨hk, hp, rfl⟩ | ⟨hk, hp, rfl⟩ <;>
    simp only [serveMember, he, hm, servable_iff, h, hk, hp, memberOrder, ht, reduceCtorEq, decide_false, Bool.and_false,
      Bool.false_and, Bool.false_eq_true, if_true, if_false]

theorem serveMember_of_ordered {t : State} (ht : requestOrder m.probe o s = some t) :
    serveMember u i s = updateEntry u (withMember i .ordered) t := by
  rcases ho with ⟨hk, hp, rfl⟩ | ⟨hk, hp, rfl⟩ <;>
    simp only [serveMember, he, hm, servable_iff, h, hk, hp, memberOrder, ht, reduceCtorEq, decide_false, Bool.and_false,
      Bool.false_and, Bool.false_eq_true, if_true, if_false]

end

/-! ## The sweep of FAULTED probes (R79, R85) -/

/-- The entry is charged with a FAULTED probe: it is unmeasured, no PARK entry, and holds the reservation of
the probe it names. -/
def Charged (s : State) (u : Nat) (e : Entry) (p : ProbeNo) : Prop :=
  unmeasured e = true ∧ holds s u p = true ∧ (probe s p).state = .faulted
    ∧ ((e.kind = .measure ∧ ∃ r ∈ e.roles, r.probe = p) ∨ (e.kind = .clean ∧ ∃ m ∈ e.members, m.probe = p))

theorem mem_namedProbes_iff (e : Entry) (p : ProbeNo) : p ∈ namedProbes e ↔
    (e.kind = .measure ∧ ∃ r ∈ e.roles, r.probe = p)
    ∨ ((e.kind = .clean ∨ e.kind = .park) ∧ ∃ m ∈ e.members, m.probe = p) := by
  unfold namedProbes
  cases e.kind <;> simp

theorem charged_iff (s : State) (u : Nat) (e : Entry) (p : ProbeNo) : Charged s u e p ↔
    (unmeasured e = true ∧ e.kind ≠ .park) ∧ p ∈ namedProbes e
      ∧ (holds s u p && decide ((probe s p).state = .faulted)) = true := by
  rw [mem_namedProbes_iff, Charged, Bool.and_eq_true, decide_eq_true_eq]
  cases e.kind <;> simp <;> tauto

/-- The sweep fails the entry for the first of the FAULTED probes it is charged with, and leaves it where there is none. -/
theorem sweepFaulted_cases {s : State} {u : Nat} {e : Entry} (he : entryOf s u = some e) :
    ((∀ p, ¬Charged s u e p) ∧ sweepFaulted u s = s)
    ∨ ∃ p, Charged s u e p ∧ sweepFaulted u s = failEntry u .motionFault (probe s p).faultCode.toNat s := by
  by_cases hk : unmeasured e = true ∧ e.kind ≠ .park
  · have hs : (decide (e.kind = .park) || !unmeasured e) = false := by simp [hk]
    cases hf : (namedProbes e).find? fun p => holds s u p && decide ((probe s p).state = .faulted) with
    | none =>
      refine .inl ⟨fun p hp => ?_, by simp only [sweepFaulted, he, hs, hf, Bool.false_eq_true, if_false]⟩
      obtain ⟨-, hn, hh⟩ := (charged_iff s u e p).1 hp
      exact List.find?_eq_none.1 hf p hn hh
    | some p =>
      have hh : (holds s u p && decide ((probe s p).state = .faulted)) = true := by simpa using List.find?_some hf
      refine .inr ⟨p, (charged_iff s u e p).2 ⟨hk, List.mem_of_find?_eq_some hf, hh⟩, ?_⟩
      simp only [sweepFaulted, he, hs, hf, Bool.false_eq_true, if_false]
  · have hs : (decide (e.kind = .park) || !unmeasured e) = true := by
      by_cases hu : unmeasured e = true <;> simp_all
    exact .inl ⟨fun p hp => hk ((charged_iff s u e p).1 hp).1, by simp only [sweepFaulted, he, hs, if_true]⟩

theorem serveEntry_eq {s : State} {u : Nat} {e : Entry} (he : entryOf s u = some e) :
    serveEntry u s = sweepFaulted u ((List.range e.members.length).foldl (fun t i => serveMember u i t)
      ((List.range e.roles.length).foldl (fun t i => serveRole u i t) s)) := by
  rw [serveEntry, he]

end Sys2Proof.Machine

namespace Sys2Proof.Proofs

open Sys2Proof Sys2Proof.Machine

/-- Settles O38: the branches of serveMember by the entry's kind and the probe's record, the sweep, and the pass. -/
theorem membersServed : Obligations.MembersServed := by
  unfold Obligations.MembersServed
  refine ⟨fun u i s e m he hm => ⟨fun h => serveMember_of_not_servable he hm (not_servable h), fun hu hw hh ho => ?_⟩,
    fun f => ⟨doneIfComplete_of_complete, doneIfComplete_of_not⟩, fun u s e charged he hc => ?_,
    fun s => ⟨fun h => if_neg h, fun h => if_pos h⟩⟩
  · have hs : Servable s u e (m.state = .waiting) m.probe := ⟨hu, hw, hh, ho⟩
    refine ⟨fun hk hp => serveMember_of_parked he hm hs hk hp, fun hk hf => ?_, fun o ha =>
      ⟨fun ht => serveMember_of_refused he hm hs ha ht, fun t ht => serveMember_of_ordered he hm hs ha ht⟩⟩
    rw [serveMember_of_faulted he hm hs hk hf]
    exact failEntry_entryFailed _ _ he hu
  · obtain rfl : charged = Charged s u e := funext fun p => propext (hc p)
    refine ⟨fun hn => ?_, fun ⟨p, hp⟩ => ?_, serveEntry_eq he⟩
    · rcases sweepFaulted_cases he with ⟨-, h⟩ | ⟨p, hp, -⟩
      · exact h
      · exact absurd hp (hn p)
    · rcases sweepFaulted_cases he with ⟨hn, -⟩ | ⟨q, hq, h⟩
      · exact absurd hp (hn p)
      · exact ⟨q, hq, h ▸ failEntry_entryFailed _ _ he hq.1⟩

end Sys2Proof.Proofs
end

section
/-! PROOFS. The wear counts of a probe with the service-due test, and a contact check that ends. -/

namespace Sys2Proof.Machine

open Sys2Proof

/-! ## The service-due test (R116) -/

@[simp] theorem Per.set_get_self {α : Type} (x : Per α) (p : ProbeNo) : x.set p (x.get p) = x := by
  unfold Per.set; split <;> rfl

/-- Which limits a record's counts have reached, by the two tests (R116). -/
theorem dueReason_cases (t : Settings) (r : Probe) :
    (¬TouchDue t r.touch ∧ ¬MissDue t r.miss ∧ dueReason t r = 0)
    ∨ (TouchDue t r.touch ∧ ¬MissDue t r.miss ∧ dueReason t r = 1)
    ∨ (¬TouchDue t r.touch ∧ MissDue t r.miss ∧ dueReason t r = 2)
    ∨ (TouchDue t r.touch ∧ MissDue t r.miss ∧ dueReason t r = 3) := by
  unfold dueReason TouchDue MissDue
  split <;> split <;> simp_all

theorem dueReason_eq_zero_iff (t : Settings) (r : Probe) :
    dueReason t r = 0 ↔ ¬TouchDue t r.touch ∧ ¬MissDue t r.miss := by
  rcases dueReason_cases t r with ⟨h1, h2, h⟩ | ⟨h1, h2, h⟩ | ⟨h1, h2, h⟩ | ⟨h1, h2, h⟩ <;> simp [h, h1, h2]

/-- A record with new counts, before the service-due test of them. -/
def countedProbe (touch miss : Nat) (r : Probe) : Probe := { r with touch := touch, miss := miss }

section
variable {p : ProbeNo} {touch miss : Nat} {s : State}

/-- Counts below the limits in force are stored, and nothing more. -/
theorem changeCounts_of_below (h : dueReason s.settings (countedProbe touch miss (probe s p)) = 0) :
    changeCounts p touch miss s = setProbe p (countedProbe touch miss (probe s p)) s := if_pos h

variable (h : dueReason s.settings (countedProbe touch miss (probe s p)) ≠ 0)
include h

/-- A limit reached again by a probe that is due for service is not reported again. -/
theorem changeCounts_of_due (hd : (probe s p).due = true) : changeCounts p touch miss s =
    setProbe p { countedProbe touch miss (probe s p) with due := true } s :=
  (if_neg h).trans (if_pos hd)

/-- A limit reached makes the probe due for service and is reported. -/
theorem changeCounts_of_newly_due (hd : (probe s p).due = false) : changeCounts p touch miss s =
    requestNotice .serviceDue (BitVec.ofNat 32 p.val)
      (BitVec.ofNat 32 (dueReason s.settings (countedProbe touch miss (probe s p)))) .plain
      (setProbe p { countedProbe touch miss (probe s p) with due := true } s) :=
  (if_neg h).trans (if_neg (by simp [hd]))

end

/-- Of the link, new counts change the one record: its counts, and its service-due flag where a limit is reached. -/
theorem changeCounts_link (p : ProbeNo) (touch miss : Nat) (s : State) :
    ∃ due, (due = true ↔ (probe s p).due = true ∨ TouchDue s.settings touch ∨ MissDue s.settings miss)
      ∧ (changeCounts p touch miss s).link = (setProbe p { probe s p with touch := touch, miss := miss, due := due } s).link := by
  have hz := dueReason_eq_zero_iff s.settings (countedProbe touch miss (probe s p))
  by_cases h : dueReason s.settings (countedProbe touch miss (probe s p)) = 0
  · obtain ⟨htouch, hmiss⟩ : ¬TouchDue s.settings touch ∧ ¬MissDue s.settings miss := hz.1 h
    rw [changeCounts_of_below h]
    exact ⟨(probe s p).due, by simp [htouch, hmiss], rfl⟩
  · have hlimit : TouchDue s.settings touch ∨ MissDue s.settings miss := by
      by_contra hn
      exact h (hz.2 (not_or.1 hn))
    refine ⟨true, by simp [hlimit], ?_⟩
    cases hd : (probe s p).due
    · rw [changeCounts_of_newly_due h hd, requestNotice_link]
      rfl
    · rw [changeCounts_of_due h hd]
      rfl

theorem probe_changeCounts_same (p : ProbeNo) (touch miss : Nat) (s : State) :
    probe (changeCounts p touch miss s) p =
      { probe s p with touch := touch, miss := miss, due := (probe (changeCounts p touch miss s) p).due } := by
  obtain ⟨due, -, h⟩ := changeCounts_link p touch miss s
  rw [probe_of_link h, probe_setProbe_same]

theorem probe_changeCounts_other {p q : ProbeNo} (hq : q ≠ p) (touch miss : Nat) (s : State) :
    probe (changeCounts p touch miss s) q = probe s q := by
  obtain ⟨due, -, h⟩ := changeCounts_link p touch miss s
  rw [probe_of_link h, probe_setProbe_other hq]

theorem changeCounts_sent (p : ProbeNo) (touch miss : Nat) (s : State) :
    (changeCounts p touch miss s).link.sent = s.link.sent := by
  obtain ⟨due, -, h⟩ := changeCounts_link p touch miss s
  rw [h]
  rfl

theorem changeCounts_stop (p : ProbeNo) (touch miss : Nat) (s : State) :
    (changeCounts p touch miss s).link.stop = s.link.stop := by
  obtain ⟨due, -, h⟩ := changeCounts_link p touch miss s
  rw [h]
  rfl

theorem changeCounts_due (p : ProbeNo) (touch miss : Nat) (s : State) : (probe (changeCounts p touch miss s) p).due = true ↔
    (probe s p).due = true ∨ TouchDue s.settings touch ∨ MissDue s.settings miss := by
  obtain ⟨due, hdue, h⟩ := changeCounts_link p touch miss s
  rw [probe_of_link h, probe_setProbe_same]
  exact hdue

/-- New counts are stored with the service-due test made of them. -/
theorem changeCounts_tested (p : ProbeNo) (touch miss : Nat) (s : State) :
    ServiceTested p touch miss s (changeCounts p touch miss s) := by
  have hdue := changeCounts_due p touch miss s
  have hcases := dueReason_cases s.settings (countedProbe touch miss (probe s p))
  refine ⟨fun h => hdue.2 (.inr h), fun h1 h2 => ?_, fun h => ?_, fun reason hr hd hf hq => ?_⟩
  · rw [Bool.eq_iff_iff, hdue]
    simp [h1, h2]
  · by_cases h0 : dueReason s.settings (countedProbe touch miss (probe s p)) = 0
    · rw [changeCounts_of_below h0]
      rfl
    · rcases h with hd | hn
      · rw [changeCounts_of_due h0 hd]
        rfl
      · exact absurd ((dueReason_eq_zero_iff _ _).2 hn) h0
  · have hreason : dueReason s.settings (countedProbe touch miss (probe s p)) = reason ∧ reason ≠ 0 := by
      simp only [countedProbe] at hcases ⊢
      rcases hr with ⟨h1, h2, rfl⟩ | ⟨h1, h2, rfl⟩ | ⟨h1, h2, rfl⟩ <;> simpa [h1, h2] using hcases
    obtain ⟨rfl, h0⟩ := hreason
    rw [changeCounts_of_newly_due h0 hd]
    exact requestNotice_queue hf hq

/-- The service-due test speaks of the settings, the notices, the time and the probe's flag alone. -/
theorem ServiceTested.congr {p : ProbeNo} {touch miss : Nat} {s t u v : State} (h : ServiceTested p touch miss s u)
    (hset : s.settings = t.settings) (hrc : s.rc = t.rc) (hn : s.notice = t.notice) (hd : (probe s p).due = (probe t p).due)
    (hn' : u.notice = v.notice) (hd' : (probe u p).due = (probe v p).due) : ServiceTested p touch miss t v := by
  unfold ServiceTested at h ⊢
  rwa [hset, hrc, hn, hd, hn', hd'] at h

/-! ## The Probe Table acts on a result (R115, R122, R123) -/

theorem setProbe_self (p : ProbeNo) (s : State) : setProbe p (probe s p) s = s := by
  rw [setProbe, probe, Per.set_get_self]

/-- The probe's contact is verified where `b` says so, and otherwise stays as it was. -/
def verifyContact (p : ProbeNo) (b : Bool) (s : State) : State :=
  setProbe p { probe s p with verified := (probe s p).verified || b } s

theorem tableResult_eq (p : ProbeNo) (c : CheckRec) (pass : Bool) (s : State) : tableResult p c pass s =
    if c.firstTouch then countFirstTouch p pass (verifyContact p (pass && atLanding (probe s p) c) s)
    else verifyContact p (pass && atLanding (probe s p) c) s := by
  have h : (if pass && atLanding (probe s p) c then setProbe p { probe s p with verified := true } s else s) =
      verifyContact p (pass && atLanding (probe s p) c) s := by
    unfold verifyContact
    split
    next hb => simp [hb]
    next hb =>
      rw [Bool.eq_false_iff.2 hb, Bool.or_false]
      exact (setProbe_self p s).symm
  rw [← h]
  rfl

/-- The consecutive-miss count that the outcome of a first-touch check leaves (R115). -/
def missAfter (pass : Bool) (miss : Nat) : Nat := if pass then 0 else min 15 (miss + 1)

theorem tableResult_of_first {c : CheckRec} (h : c.firstTouch = true) (p : ProbeNo) (pass : Bool) (s : State) :
    tableResult p c pass s = changeCounts p (probe s p).touch (missAfter pass (probe s p).miss)
      (verifyContact p (pass && atLanding (probe s p) c) s) := by
  rw [tableResult_eq, if_pos h, countFirstTouch, verifyContact, probe_setProbe_same]
  rfl

theorem tableResult_of_later {c : CheckRec} (h : c.firstTouch = false) (p : ProbeNo) (pass : Bool) (s : State) :
    tableResult p c pass s = verifyContact p (pass && atLanding (probe s p) c) s := by
  rw [tableResult_eq, if_neg (by simp [h])]

@[simp] theorem probe_verifyContact_same (p : ProbeNo) (b : Bool) (s : State) :
    probe (verifyContact p b s) p = { probe s p with verified := (probe s p).verified || b } := probe_setProbe_same _ _ _

theorem probe_verifyContact_other {p q : ProbeNo} (hq : q ≠ p) (b : Bool) (s : State) :
    probe (verifyContact p b s) q = probe s q := probe_setProbe_other hq _ _

/-- The record that a result leaves, but for its service-due flag. -/
theorem probe_tableResult_same (p : ProbeNo) (c : CheckRec) (pass : Bool) (s : State) : probe (tableResult p c pass s) p =
    { probe s p with
      miss := if c.firstTouch then missAfter pass (probe s p).miss else (probe s p).miss
      verified := (probe s p).verified || (pass && atLanding (probe s p) c)
      due := (probe (tableResult p c pass s) p).due } := by
  cases h : c.firstTouch
  · rw [tableResult_of_later h, probe_verifyContact_same]
    rfl
  · rw [tableResult_of_first h, probe_changeCounts_same, probe_verifyContact_same]
    rfl

theorem probe_tableResult_other {p q : ProbeNo} (hq : q ≠ p) (c : CheckRec) (pass : Bool) (s : State) :
    probe (tableResult p c pass s) q = probe s q := by
  cases h : c.firstTouch
  · rw [tableResult_of_later h, probe_verifyContact_other hq]
  · rw [tableResult_of_first h, probe_changeCounts_other hq, probe_verifyContact_other hq]

/-- Each first-touch result is followed by the service-due test (R122). -/
theorem tableResult_tested {c : CheckRec} (h : c.firstTouch = true) (p : ProbeNo) (pass : Bool) (s : State) :
    ServiceTested p (probe s p).touch (missAfter pass (probe s p).miss) s (tableResult p c pass s) := by
  have ht := changeCounts_tested p (probe s p).touch (missAfter pass (probe s p).miss)
    (verifyContact p (pass && atLanding (probe s p) c) s)
  rw [tableResult_of_first h]
  exact ht.congr rfl rfl rfl (by rw [probe_verifyContact_same]) rfl rfl

theorem atLanding_eq (r : Probe) (c : CheckRec) : atLanding r c = decide (r.state = .landed ∧ r.tag = c.landingTag) := by
  rw [atLanding, Bool.decide_and]

/-! ## The Step Window acts on a result (R84, R122, R124, R127) -/

/-- The result finds its role CHECKING in RUNNING, the probe at the landing that the check was made of (R122). -/
def AwaitsResult (s : State) (p : ProbeNo) (c : CheckRec) (r : Role) : Prop :=
  r.state = .checking ∧ s.rc.run = .running ∧ (probe s p).tag = c.landingTag

theorem awaitsResult_iff {s : State} {p : ProbeNo} {c : CheckRec} {r : Role} :
    (decide (r.state = .checking) && decide (s.rc.run = .running) && decide ((probe s p).tag = c.landingTag)) = true
      ↔ AwaitsResult s p c r := by
  simp [AwaitsResult, and_assoc]

section
variable {s : State} {p : ProbeNo} {c : CheckRec} {e : Entry} {r : Role} (he : entryOf s c.entry = some e)
  (hr : e.roles[c.role]? = some r)
include he hr

theorem windowResult_of_unawaited (h : ¬AwaitsResult s p c r) (pass : Bool) : windowResult p c pass s = s := by
  simp only [windowResult, he, hr, awaitsResult_iff, h, if_false]

variable (h : AwaitsResult s p c r)
include h

theorem windowResult_of_pass : windowResult p c true s =
    updateEntry e.uid (fun f => readyIfContact (withRole c.role (fun x => { x with state := .contactOk }) f)) s := by
  simp only [windowResult, he, hr, awaitsResult_iff, h, if_true]

theorem windowResult_of_fail : windowResult p c false s = checkFailed p e c.role r s := by
  simp only [windowResult, he, hr, awaitsResult_iff, h, if_true, Bool.false_eq_true, if_false]

end

/-- With the retouches of the bank used up a fail makes the entry fail with NO_CONTACT (R124). -/
theorem checkFailed_of_used_up {s : State} {e : Entry} {r : Role} (h : (bankOf s e.bank).retouchLimit ≤ r.retouches)
    (p : ProbeNo) (i : Nat) : checkFailed p e i r s = failEntry e.uid .noContact p.val s := if_neg (Nat.not_lt.2 h)

/-- Otherwise the next retouch is ordered, and counted once it is taken (R124, R127). -/
theorem checkFailed_of_retouch {s t : State} {e : Entry} {r : Role} {p : ProbeNo} {x y : Int}
    (h : r.retouches < (bankOf s e.bank).retouchLimit) (hxy : retouchTarget (r.retouches + 1) r.pad r.x r.y = (x, y))
    (ht : requestOrder p (.retouch x y) s = some t) (i : Nat) : checkFailed p e i r s =
      updateEntry e.uid (withRole i fun a => { a with state := .retouching, retouches := a.retouches + 1 }) t := by
  simp only [checkFailed, h, if_true, hxy, ht]

/-! ## CHECK_END (R120, R121, R122) -/

theorem loopPasses_iff (ohm : Nat) (loop : Option Nat) : loopPasses ohm loop = true ↔ ∃ r, loop = some r ∧ r ≤ 1000 * ohm := by
  unfold loopPasses
  cases loop <;> simp

theorem endedSlot_of_none {slot : CheckSlot} (h : slot.held = none) (idle : Bool) (r : Probe) :
    endedSlot idle r slot = ⟨none, none⟩ := by
  rw [endedSlot, h]

theorem endedSlot_of_held {slot : CheckSlot} {c : CheckRec} (h : slot.held = some c) (idle : Bool) (r : Probe) :
    endedSlot idle r slot = if idle = false then ⟨none, some c⟩
      else if r.state = .landed ∧ r.tag = c.landingTag then ⟨some c, none⟩ else ⟨none, none⟩ := by
  cases idle <;> simp [endedSlot, h, atLanding]

theorem exec_checkEnd_of_none {p : ProbeNo} {s : State} (h : (s.checks.get p).running = none) (loop : Option Nat) :
    exec (.checkEnd p loop) s = .next s := by
  show execCheckEnd p loop s = _
  rw [execCheckEnd, h]

theorem exec_checkEnd_of_running {p : ProbeNo} {s : State} {c : CheckRec} (h : (s.checks.get p).running = some c)
    {loop : Option Nat} {pass : Bool} (hp : loopPasses s.settings.contactOhm loop = pass) :
    exec (.checkEnd p loop) s = .next (sealPort (settle (windowResult p c pass (tableResult p c pass
      { s with checks := s.checks.set p (endedSlot s.unit.step.isNone (probe s p) (s.checks.get p)) })))) := by
  show execCheckEnd p loop s = _
  rw [execCheckEnd, h, ← hp]
  rfl

end Sys2Proof.Machine

namespace Sys2Proof.Proofs

open Sys2Proof Sys2Proof.Machine

/-- Settles O39: the slot by its held record, the Probe Table by whether the check was of a first touch, the window by whether
it awaits the result. -/
theorem checkEnds : Obligations.CheckEnds := by
  unfold Obligations.CheckEnds
  refine ⟨fun p loop s c pass hc hp => ?_, fun p loop s h => exec_checkEnd_of_none h loop, fun p c pass s => ?_,
    fun p c pass s e r he hr => ⟨fun h => ?_, fun hs hrun htag => ?_⟩⟩
  · refine ⟨_, exec_checkEnd_of_running hc (Bool.eq_iff_iff.2 ((loopPasses_iff _ _).trans hp.symm)),
      fun hh => endedSlot_of_none hh _ _, fun h hh => ?_⟩
    rw [endedSlot_of_held hh]
    cases s.unit.step <;> simp
  · have hsame := probe_tableResult_same p c pass s
    refine ⟨by rw [hsame]; rfl, by rw [hsame, atLanding_eq], by rw [hsame], fun h => tableResult_tested h p pass s,
      fun h => ?_, fun q hq => probe_tableResult_other hq c pass s, by simp⟩
    rw [tableResult_of_later h, probe_verifyContact_same]
    exact ⟨rfl, rfl⟩
  · refine windowResult_of_unawaited he hr (fun ⟨h1, h2, h3⟩ => ?_) pass
    simp [h1, h2, h3] at h
  · have ha : AwaitsResult s p c r := ⟨hs, hrun, htag⟩
    obtain ⟨-, hu⟩ := entryOf_some he
    refine ⟨?_, ?_, ?_⟩
    · rintro rfl
      exact windowResult_of_pass he hr ha
    · rintro rfl hlimit hun
      rw [windowResult_of_fail he hr ha, checkFailed_of_used_up hlimit]
      exact failEntry_entryFailed _ _ (hu ▸ he) hun
    · rintro rfl hlimit x y t hxy ht
      rw [windowResult_of_fail he hr ha, checkFailed_of_retouch hlimit hxy ht]
      rfl

end Sys2Proof.Proofs
end

section
/-! PROOFS. The take of the oldest unmeasured entry by the Measurement Unit. -/

namespace Sys2Proof.Machine

open Sys2Proof

/-! ## MEASUREMENT_TAKE (R86, R132, R133) -/

section
variable {s : State} {e : Entry} (he : oldestUnmeasured s = some e)
include he

theorem exec_measurementTake_of_may {k : MeasKind} (hk : measKindOf e.measByte = some k) (hm : mayTake s e = true) :
    exec .measurementTake s = .next (takeEntry e k s) := by
  show execMeasurementTake s = _
  simp only [execMeasurementTake, he, hk, hm, if_true]

theorem exec_measurementTake_of_not (hm : ¬mayTake s e = true) : exec .measurementTake s = .next s := by
  show execMeasurementTake s = _
  cases hk : measKindOf e.measByte <;> simp only [execMeasurementTake, he, hk, hm, Bool.false_eq_true, if_false]

end

theorem exec_measurementTake_of_none {s : State} (he : oldestUnmeasured s = none) : exec .measurementTake s = .next s := by
  show execMeasurementTake s = _
  rw [execMeasurementTake, he]

/-- The probe of a role is that of the one role of the name. -/
theorem probeInRole_of_unique {n : RoleName} {e : Entry} {r : Role} (hr : r ∈ e.roles) (hn : r.name = n)
    (hu : ∀ x ∈ e.roles, x.name = n → x = r) : probeInRole n e = r.probe := by
  unfold probeInRole
  cases hf : e.roles.find? fun r => decide (r.name = n) with
  | none => exact absurd (decide_eq_true hn) (List.find?_eq_none.1 hf r hr)
  | some x =>
    have hx : x.name = n := by simpa using List.find?_some hf
    rw [hu x (List.mem_of_find?_eq_some hf) hx]
    rfl

end Sys2Proof.Machine

namespace Sys2Proof.Proofs

open Sys2Proof Sys2Proof.Machine

/-- Settles O40: the take under the conditions of `mayTake_iff`, nothing where one of them fails. -/
theorem measurementTaken : Obligations.MeasurementTaken := by
  unfold Obligations.MeasurementTaken
  refine ⟨fun s e k he hk hstep hrun hkind hstate hroles => ?_, fun s h => ?_, fun s e => find?_eq_some_iff_split⟩
  · refine ⟨takenStep s e k, exec_measurementTake_of_may he hk ((mayTake_iff s e).2 ⟨hstep, hrun, hkind, hstate, hroles⟩),
      rfl, rfl, rfl, rfl, rfl, rfl, fun r hr hn hu => probeInRole_of_unique hr hn hu,
      fun r hr hn hu => probeInRole_of_unique hr hn hu, rfl, rfl, ?_, rfl, rfl, rfl⟩
    cases k <;> rfl
  · cases he : oldestUnmeasured s with
    | none => exact exec_measurementTake_of_none he
    | some e =>
      refine exec_measurementTake_of_not he fun hm => ?_
      obtain ⟨hstep, hrun, hkind, hstate, hroles⟩ := (mayTake_iff s e).1 hm
      rcases h with h | h | h | ⟨f, hf, h⟩
      · exact h hstep
      · exact h hrun
      · simp [h] at he
      · obtain rfl : f = e := Option.some.inj (hf.symm.trans he)
        rcases h with h | h | ⟨r, hr, h⟩
        · exact h hkind
        · exact h hstate
        · obtain ⟨hlanded, hverified⟩ := hroles r hr
          simp [hlanded, hverified] at h

end Sys2Proof.Proofs
end

section
/-! PROOFS. Reports that complete an order: the record, the touch counted, the role or mask member moved on. -/

namespace Sys2Proof.Machine

open Sys2Proof

/-! ## A report that answers its order (R101, R102) -/

/-- A report with the probe's own tag answers its outstanding order. -/
theorem answered_own_tag (p : ProbeNo) (s : State) : answered p (probe s p).tag s = (probe s p).order := if_pos rfl

theorem exec_landed_of_order {p : ProbeNo} {s : State} {first : Bool}
    (h : (first = true ∧ ∃ x y, (probe s p).order = some (.move x y))
      ∨ (first = false ∧ ∃ x y, (probe s p).order = some (.retouch x y))) :
    exec (.landed p (probe s p).tag) s = .next (sealPort (settle (landProbe p first s))) := by
  show execLanded p _ s = _
  rcases h with ⟨rfl, x, y, h⟩ | ⟨rfl, x, y, h⟩ <;> (rw [execLanded, answered_own_tag, h]; rfl)

theorem exec_lifted_of_order {p : ProbeNo} {s : State} (h : (probe s p).order = some .lift) :
    exec (.lifted p (probe s p).tag) s = .next (sealPort (settle (endOrder p (completedProbe .lifted (probe s p)) s))) := by
  show execLifted p _ s = _
  rw [execLifted, answered_own_tag, h]
  rfl

theorem exec_parked_of_order {p : ProbeNo} {s : State} (h : (probe s p).order = some .park) :
    exec (.parked p (probe s p).tag) s =
      .next (sealPort (settle (memberCompleted p .park (endOrder p (completedProbe .parked (probe s p)) s)))) := by
  show execParked p _ s = _
  rw [execParked, answered_own_tag, h]
  rfl

theorem exec_cleaned_of_order {p : ProbeNo} {s : State} {n : Nat} (h : (probe s p).order = some (.clean n)) :
    exec (.cleaned p (probe s p).tag) s =
      .next (sealPort (settle (memberCompleted p .clean (endOrder p (cleanedProbe (probe s p)) s)))) := by
  show execCleaned p _ s = _
  rw [execCleaned, answered_own_tag, h]
  rfl

/-! ## A touch counted (R102, R114, R116) -/

/-- The probe has landed and its touch is counted; what is left is its role. -/
def touchCounted (p : ProbeNo) (s : State) : State := addTouch p (endOrder p (completedProbe .landed (probe s p)) s)

theorem landProbe_eq (p : ProbeNo) (first : Bool) (s : State) : landProbe p first s = roleLanded p first (touchCounted p s) := rfl

theorem touchCounted_eq (p : ProbeNo) (s : State) : touchCounted p s = changeCounts p (min 65535 ((probe s p).touch + 1))
    (probe s p).miss (endOrder p (completedProbe .landed (probe s p)) s) := by
  rw [touchCounted, addTouch, probe_endOrder_same]
  rfl

theorem probe_touchCounted_same (p : ProbeNo) (s : State) : probe (touchCounted p s) p = { probe s p with
    state := .landed, order := none, deadline := none, verified := false
    touch := min 65535 ((probe s p).touch + 1), due := (probe (touchCounted p s) p).due } := by
  rw [touchCounted_eq, probe_changeCounts_same, probe_endOrder_same]
  rfl

theorem probe_touchCounted_other {p q : ProbeNo} (hq : q ≠ p) (s : State) : probe (touchCounted p s) q = probe s q := by
  rw [touchCounted_eq, probe_changeCounts_other hq, probe_endOrder_other hq]

theorem touchCounted_tested (p : ProbeNo) (s : State) :
    ServiceTested p (min 65535 ((probe s p).touch + 1)) (probe s p).miss s (touchCounted p s) := by
  have ht := changeCounts_tested p (min 65535 ((probe s p).touch + 1)) (probe s p).miss
    (endOrder p (completedProbe .landed (probe s p)) s)
  rw [touchCounted_eq]
  exact ht.congr rfl rfl rfl (by rw [probe_endOrder_same]; rfl) rfl rfl

/-- What a landing leaves alone before its role is looked at. -/
theorem touchCounted_leaves (p : ProbeNo) (s : State) :
    (touchCounted p s).window = s.window ∧ (touchCounted p s).checks = s.checks ∧ (touchCounted p s).unit = s.unit
    ∧ (touchCounted p s).mem = s.mem ∧ (touchCounted p s).rc = s.rc ∧ (touchCounted p s).link.stop = s.link.stop
    ∧ (touchCounted p s).link.sent = s.link.sent.erase p := by
  rw [touchCounted_eq, changeCounts_stop, changeCounts_sent]
  exact ⟨by simp, by simp, by simp, by simp, by simp, rfl, rfl⟩

theorem holder_congr {s t : State} (h : s.window = t.window) (p : ProbeNo) : holder s p = holder t p := by
  rw [holder, h, holder]

/-! ## The role that owns the order (R83, R119) -/

theorem owningRole_some {e : Entry} {p : ProbeNo} {i : Nat} (h : owningRole e p = some i) :
    ∃ r, e.roles[i]? = some r ∧ r.probe = p ∧ (r.state = .ordered ∨ r.state = .retouching) := by
  obtain ⟨hi, hr, -⟩ := List.findIdx?_eq_some_iff_getElem.1 h
  exact ⟨e.roles[i], List.getElem?_eq_getElem hi, by simpa using hr⟩

theorem owningRole_eq_none_iff (e : Entry) (p : ProbeNo) :
    owningRole e p = none ↔ ∀ r ∈ e.roles, r.probe = p → r.state ≠ .ordered ∧ r.state ≠ .retouching := by
  simp [owningRole]

theorem roleLanded_of_unowned {s : State} {p : ProbeNo}
    (h : holder s p = none ∨ ∃ e, holder s p = some e ∧ owningRole e p = none) (first : Bool) : roleLanded p first s = s := by
  rcases h with h | ⟨e, h, ho⟩
  · rw [roleLanded, h]
  · simp only [roleLanded, h, ho]

theorem roleLanded_of_owned {s : State} {p : ProbeNo} {e : Entry} {i : Nat} (h : holder s p = some e)
    (ho : owningRole e p = some i) (first : Bool) : roleLanded p first s =
      requestCheck p ⟨e.uid, i, (probe s p).tag, first⟩
        (updateEntry e.uid (withRole i fun r => { r with state := .checking }) s) := by
  simp only [roleLanded, h, ho]

/-! ## The mask member that owns the order (R83, R88, R89) -/

/-- The ORDERED member of the probe is COMPLETE. -/
def memberDone (p : ProbeNo) (e : Entry) : Entry := { e with
  members := e.members.map fun m => if m.probe = p ∧ m.state = .ordered then { m with state := .complete } else m }

theorem memberCompleted_of_none {s : State} {p : ProbeNo} (h : holder s p = none) (k : EntryKind) :
    memberCompleted p k s = s := by
  rw [memberCompleted, h]

theorem memberCompleted_of_other {s : State} {p : ProbeNo} {e : Entry} (h : holder s p = some e) {k : EntryKind}
    (hk : e.kind ≠ k) : memberCompleted p k s = s := by
  simp only [memberCompleted, h, hk, if_false]

theorem memberCompleted_of_kind {s : State} {p : ProbeNo} {e : Entry} (h : holder s p = some e) {k : EntryKind}
    (hk : e.kind = k) : memberCompleted p k s = updateEntry e.uid (fun f => doneIfComplete (memberDone p f)) s := by
  simp only [memberCompleted, h, hk, if_true]
  rfl

/-- The last of its members makes a PENDING service entry DONE. -/
theorem doneIfComplete_memberDone {p : ProbeNo} {e : Entry} (hs : e.state = .pending)
    (hm : ∀ m ∈ e.members, (m.probe = p ∧ m.state = .ordered) ∨ m.state = .complete) :
    doneIfComplete (memberDone p e) = { memberDone p e with state := .done } := by
  refine doneIfComplete_of_complete hs fun m hmem => ?_
  obtain ⟨x, hx, rfl⟩ := List.mem_map.1 hmem
  split
  next => rfl
  next hn => exact (hm x hx).resolve_left hn

/-- A completed PARK or CLEAN in the terms of the statement: the window by the entry that holds the probe. -/
theorem memberCompleted_window (p : ProbeNo) (k : EntryKind) (s : State) :
    (holder s p = none → (memberCompleted p k s).window = s.window)
    ∧ (∀ e, holder s p = some e →
      (e.kind ≠ k → (memberCompleted p k s).window = s.window)
      ∧ (e.kind = k → (memberCompleted p k s).window =
          s.window.map fun f => if f.uid = e.uid then doneIfComplete (memberDone p f) else f))
    ∧ ∀ e, holder s p = some e → e.kind = k → e.state = .pending →
      (∀ m ∈ e.members, (m.probe = p ∧ m.state = .ordered) ∨ m.state = .complete) →
      ∃ f ∈ (memberCompleted p k s).window, f.uid = e.uid ∧ f.state = .done ∧ f.snap = e.snap := by
  refine ⟨fun h => by rw [memberCompleted_of_none h], fun e h => ⟨fun hk => by rw [memberCompleted_of_other h hk],
    fun hk => by rw [memberCompleted_of_kind h hk]; rfl⟩, fun e h hk hs hm => ?_⟩
  have hmem := mem_updateEntry (fun f => doneIfComplete (memberDone p f)) (List.mem_of_find?_eq_some h) rfl
  rw [memberCompleted_of_kind h hk]
  rw [doneIfComplete_memberDone hs hm] at hmem
  exact ⟨_, hmem, rfl, rfl, rfl⟩

theorem probe_memberCompleted (p q : ProbeNo) (k : EntryKind) (s : State) : probe (memberCompleted p k s) q = probe s q :=
  probe_of_link (memberCompleted_link p k s) q

end Sys2Proof.Machine

namespace Sys2Proof.Proofs

open Sys2Proof Sys2Proof.Machine

/-- Settles O26: a landing by the role that owns it, a PARK or CLEAN by the entry that holds the probe, each probe's record by
`endOrder`. -/
theorem ordersComplete : Obligations.OrdersComplete := by
  unfold Obligations.OrdersComplete
  refine ⟨fun p s first h => ⟨_, exec_landed_of_order h, ?_⟩, fun p s h => ⟨_, exec_lifted_of_order h, rfl, ?_, ?_⟩,
    fun p s h => ⟨_, exec_parked_of_order h, ?_⟩, fun p s n h => ⟨_, exec_cleaned_of_order h, ?_⟩,
    fun e p => ⟨fun i => owningRole_some, owningRole_eq_none_iff e p⟩, fun idle c slot => ?_⟩
  · obtain ⟨hwindow, hchecks, hunit, hmem, hrc, hstop, hsent⟩ := touchCounted_leaves p s
    have hprobe : ∀ q, probe (landProbe p first s) q = probe (touchCounted p s) q := fun q =>
      probe_of_link (roleLanded_link _ _ _) q
    have hholder := holder_congr hwindow p
    refine ⟨by rw [hprobe, ← probe_touchCounted_same], ?_, by rw [landProbe_eq, roleLanded_link, hsent],
      fun q hq => by rw [hprobe, probe_touchCounted_other hq], by rw [landProbe_eq, roleLanded_mem, hmem],
      by rw [landProbe_eq, roleLanded_rc, hrc], by rw [landProbe_eq, roleLanded_link, hstop], fun e i he hi => ?_, fun hn => ?_⟩
    · exact (touchCounted_tested p s).congr rfl rfl rfl rfl (roleLanded_notice _ _ _).symm (by rw [hprobe])
    · have htag : (probe (touchCounted p s) p).tag = (probe s p).tag := by rw [probe_touchCounted_same]
      rw [landProbe_eq, roleLanded_of_owned (hholder.trans he) hi, htag, ← hwindow, ← hchecks, ← hunit]
      exact ⟨rfl, rfl⟩
    · rw [landProbe_eq, roleLanded_of_unowned (by rwa [hholder])]
      exact ⟨hwindow, hchecks⟩
  · exact probe_endOrder_same _ _ _
  · exact fun q hq => probe_endOrder_other hq _ _
  · obtain ⟨hnone, hsome, hdone⟩ := memberCompleted_window p .park (endOrder p (completedProbe .parked (probe s p)) s)
    refine ⟨by rw [probe_memberCompleted, probe_endOrder_same]; rfl,
      fun q hq => by rw [probe_memberCompleted, probe_endOrder_other hq], by simp, by simp, by simp, hnone, hsome, hdone⟩
  · obtain ⟨hnone, hsome, hdone⟩ := memberCompleted_window p .clean (endOrder p (cleanedProbe (probe s p)) s)
    refine ⟨by rw [probe_memberCompleted, probe_endOrder_same]; rfl,
      fun q hq => by rw [probe_memberCompleted, probe_endOrder_other hq], by simp, by simp, by simp, hnone, hsome, hdone⟩
  · rfl

end Sys2Proof.Proofs
end

section
/-! PROOFS. The completion of a classified step, and the capture hand-off to the logger. -/

namespace Sys2Proof.Machine

open Sys2Proof

/-! ## The step completes (R87, R121, R139) -/

/-- A step that completes takes the held contact checks as an aborted one does. -/
theorem completeStep_deferred {s t : State} (hs : s.unit.step ≠ none) (hc : t.checks = s.checks) (hl : t.link = s.link)
    (r : StepRec) (g : Reading) : DeferredTaken s (completeStep r g t) := by
  refine (abortMeasurement_deferred hs).congr rfl ?_ fun p => ?_
  · rw [abortMeasurement_of_measuring hs]
    show Per.make (fun p => startHeld (s.link.probes.get p) (s.checks.get p)) =
      Per.make fun p => startHeld (t.link.probes.get p) (t.checks.get p)
    rw [hc, hl]
  · rw [probe_of_link (abortMeasurement_link s), probe_of_link (completeStep_link r g t), probe_of_link hl]

theorem completeStep_window (r : StepRec) (g : Reading) (s : State) : (completeStep r g s).window =
    s.window.map fun f => if f.uid = r.entry then measuredEntry g f else f := rfl

theorem measuredEntry_of_pass {g : Reading} (h : g.cls = .pass) (e : Entry) :
    measuredEntry g e = { e with state := .done, result := some g } := by
  rw [measuredEntry, h]
  rfl

/-- The causes and details of the four failing classifications (R87). -/
theorem measuredEntry_of_failure {g : Reading} {c : Cause} {d : Nat}
    (h : (g.cls = .failLow ∧ c = .measureFail ∧ d = 1) ∨ (g.cls = .failHigh ∧ c = .measureFail ∧ d = 2)
      ∨ (g.cls = .marginal ∧ c = .measureFail ∧ d = 3) ∨ (g.cls = .overrange ∧ c = .overrange ∧ d = 0)) (e : Entry) :
    measuredEntry g e = { e with state := .failed, cause := some c, detail := d, result := some g } := by
  rcases h with ⟨h, rfl, rfl⟩ | ⟨h, rfl, rfl⟩ | ⟨h, rfl, rfl⟩ | ⟨h, rfl, rfl⟩ <;> (rw [measuredEntry, h]; rfl)

section
variable {r : StepRec} {g : Reading} {s t : State} {u : Nat} (hw : t.window = s.window) (hu : u = r.entry)
include hw hu

theorem completeStep_window_of_pass (h : g.cls = .pass) : (completeStep r g t).window =
    s.window.map fun f => if f.uid = u then { f with state := .done, result := some g } else f := by
  simp only [completeStep_window, measuredEntry_of_pass h, hw, hu]

theorem completeStep_window_of_failure {c : Cause} {d : Nat}
    (h : (g.cls = .failLow ∧ c = .measureFail ∧ d = 1) ∨ (g.cls = .failHigh ∧ c = .measureFail ∧ d = 2)
      ∨ (g.cls = .marginal ∧ c = .measureFail ∧ d = 3) ∨ (g.cls = .overrange ∧ c = .overrange ∧ d = 0)) :
    (completeStep r g t).window = s.window.map fun f =>
      if f.uid = u then { f with state := .failed, cause := some c, detail := d, result := some g } else f := by
  simp only [completeStep_window, measuredEntry_of_failure h, hw, hu]

end

theorem measuredEntry_result (g : Reading) (e : Entry) : (measuredEntry g e).result = some g := by
  unfold measuredEntry
  split <;> rfl

/-- An entry of another number is in the window as it was. -/
theorem mem_updateEntry_other {s : State} {u : Nat} {f : Entry} (g : Entry → Entry) (hf : f ∈ s.window) (hu : f.uid ≠ u) :
    f ∈ (updateEntry u g s).window := List.mem_map.2 ⟨f, hf, if_neg hu⟩

/-- Besides the entry with its results a completed step leaves every entry as it was. -/
theorem completeStep_entries {r : StepRec} {s t : State} {e : Entry} (hw : t.window = s.window) (he : e ∈ s.window)
    (hu : e.uid = r.entry) (g : Reading) :
    (∀ f ∈ s.window, f.uid ≠ e.uid → f ∈ (completeStep r g t).window)
    ∧ ∃ f ∈ (completeStep r g t).window, f.uid = e.uid ∧ f.result = some g := by
  rw [← hw] at he ⊢
  exact ⟨fun _ hf hne => mem_updateEntry_other (measuredEntry g) hf (hu ▸ hne),
    measuredEntry g e, mem_updateEntry (measuredEntry g) he hu, measuredEntry_uid g e, measuredEntry_result g e⟩

/-! ## CLASSIFICATION_RETURNED (R138, R139) -/

theorem wantsCapture_iff {s : State} {r : StepRec} {e : Entry} (he : entryOf s r.entry = some e) (cls : Classification) :
    wantsCapture s r cls = true ↔ cls = .pass ∧ r.kind ≠ .cap ∧ e.capture = true := by
  simp [wantsCapture, he, and_assoc]

section
variable {s : State} {r : StepRec} (hr : s.unit.step = some r) (hp : r.phase = .classifying)
include hr hp

theorem exec_classificationReturned_of_complete (h : ¬wantsCapture s r (finalClass s r) = true) :
    exec .classificationReturned s = .next (sealPort (settle (completeStep r
      (readingOf r (finalValue s r) (finalClass s r) (isOverrange r.kind r.attempt) none) s))) := by
  show execClassificationReturned s = _
  simp only [execClassificationReturned, hr, hp, if_true, h]
  rfl

theorem exec_classificationReturned_of_capture (h : wantsCapture s r (finalClass s r) = true) :
    exec .classificationReturned s = .next (setStep { r with
      phase := .handoff, final := some (finalValue s r, finalClass s r, isOverrange r.kind r.attempt) } s) := by
  show execClassificationReturned s = _
  simp only [execClassificationReturned, hr, hp, if_true, h]

end

theorem finalClass_eq {s : State} {r : StepRec} {e : Entry} (he : entryOf s r.entry = some e) :
    finalClass s r = classify r.kind e.limit r.attempt (finalValue s r) := by
  rw [finalClass, he]
  rfl

/-! ## CAPTURE_HANDOFF (R178) -/

/-- The sample writes: at the fill offset what fits up to the end of the ring, from its start the rest. -/
theorem issueCapture_eq (ws : List Word) (s : State) : issueCapture ws s = { s with port := { s.port with reqs := s.port.reqs
    ++ [⟨.capture, s.settings.capBase + s.log.capFill, .write (ws.take ((s.settings.capSize - s.log.capFill) / 4)), true,
        s.port.epoch⟩]
    ++ (if ws.length ≤ (s.settings.capSize - s.log.capFill) / 4 then []
      else [⟨.capture, s.settings.capBase, .write (ws.drop ((s.settings.capSize - s.log.capFill) / 4)), true,
        s.port.epoch⟩]) } } := by
  unfold issueCapture
  dsimp only
  split
  · rw [List.append_nil]
    rfl
  · rfl

theorem exec_captureHandoff_of_free {s : State} {r : StepRec} (hr : s.unit.step = some r) (hp : r.phase = .handoff)
    (hb : s.log.busy = false) : exec .captureHandoff s = .next (sealPort (issueCapture (sampleWords r.attempt)
      (setStep { r with phase := .captureWriting } { s with log := { s.log with busy := true } }))) := by
  show execCaptureHandoff s = _
  simp only [execCaptureHandoff, hr, hp, hb, and_self, if_true]
  rfl

/-! ## CAPTURE_WRITE_COMPLETE (R142, R178) -/

theorem exec_captureWriteComplete_of_served {s s1 : State} {q : Request} {ws : List Word}
    (h : serve .capture s = some (q, ws, s1)) :
    exec .captureWriteComplete s = .next (sealPort (settle (captureAcked q.live s1))) := by
  show execCaptureWriteComplete s = _
  simp only [execCaptureWriteComplete, h]
  rfl

theorem captureAcked_of_more {s : State} (h : hasReq .capture s = true) (live : Bool) : captureAcked live s = s := if_pos h

theorem captureAcked_of_last {s : State} {r : StepRec} (h : hasReq .capture s = false) (hr : s.unit.step = some r)
    (hp : r.phase = .captureWriting) : captureAcked true s = captureTaken r s := by
  simp only [captureAcked, h, hr, hp, Bool.false_eq_true, if_true, if_false]

/-- The fill offset after the words of a number of samples (R178). -/
def capFillAfter (s : State) (n : Nat) : Nat := (s.log.capFill + 4 * n) % s.settings.capSize

/-- The fill offset advanced and its word written. -/
def captureAdvanced (n : Nat) (s : State) : State :=
  issue .captureFill (s.settings.anchorBase + 0x108) (.write [BitVec.ofNat 32 (capFillAfter s n)])
    { s with log := { s.log with capFill := capFillAfter s n } }

/-- And the mark of the advance requested. -/
def captureMarked (n : Nat) (s : State) : State := captureMarks s.log.capFill (capFillAfter s n) (captureAdvanced n s)

/-- And the logger freed; what is left is to complete the step. -/
def captureFreed (n : Nat) (s : State) : State :=
  { captureMarked n s with log := { (captureMarked n s).log with busy := false } }

theorem captureTaken_of_final {r : StepRec} {value : Int} {cls : Classification} {ovr : Bool}
    (h : r.final = some (value, cls, ovr)) (s : State) : captureTaken r s = completeStep r
      (readingOf r value cls ovr (some (s.log.capFill, r.attempt.samples.length))) (captureFreed r.attempt.samples.length s) := by
  simp only [captureTaken, h]
  rfl

theorem captureFreed_log (n : Nat) (s : State) :
    (captureFreed n s).log = { s.log with capFill := capFillAfter s n, busy := false } := by
  simp [captureFreed, captureMarked, captureAdvanced]

/-- What the end of a hand-off leaves alone. -/
theorem captureFreed_leaves (n : Nat) (s : State) :
    (captureFreed n s).window = s.window ∧ (captureFreed n s).checks = s.checks ∧ (captureFreed n s).mem = s.mem
    ∧ (captureFreed n s).link = s.link ∧ (captureFreed n s).rc = s.rc := by
  simp [captureFreed, captureMarked, captureAdvanced]

theorem mem_captureMarks_reqs {q : Request} {s : State} (old new : Nat) (hq : q ∈ s.port.reqs) :
    q ∈ (captureMarks old new s).port.reqs := by
  unfold captureMarks
  split
  · exact mem_requestNotice_reqs _ _ _ _ hq
  · split
    · exact mem_requestNotice_reqs _ _ _ _ hq
    · exact hq

/-- The write of the fill word is outstanding once the hand-off has ended. -/
theorem mem_captureFreed_reqs (n : Nat) (s : State) :
    ⟨.captureFill, s.settings.anchorBase + 0x108, .write [BitVec.ofNat 32 (capFillAfter s n)], true, s.port.epoch⟩
      ∈ (captureFreed n s).port.reqs :=
  mem_captureMarks_reqs _ _ (List.mem_append_right _ (List.mem_singleton.2 rfl))

/-- The notice of an advance of the capture fill offset (R178). -/
theorem captureMarks_queue {s : State} (old new : Nat) (hi : s.notice.inForce = true) (hq : s.notice.queue.length < 16) :
    (captureMarks old new s).notice.queue = s.notice.queue ++
      (if new < old then [⟨.captureWrap, BitVec.ofNat 32 new, 0, s.rc.time, .plain⟩]
       else if old < s.settings.capSize / 2 ∧ s.settings.capSize / 2 ≤ new then
        [⟨.captureHalf, BitVec.ofNat 32 new, 0, s.rc.time, .plain⟩]
       else []) := by
  unfold captureMarks
  split
  · exact requestNotice_queue hi hq
  · split
    · exact requestNotice_queue hi hq
    · exact (List.append_nil _).symm

end Sys2Proof.Machine

namespace Sys2Proof.Proofs

open Sys2Proof Sys2Proof.Machine

/-- Settles O43: the classification by whether a capture is wanted, the hand-off, and its last acknowledged write. -/
theorem stepCompletes : Obligations.StepCompletes := by
  unfold Obligations.StepCompletes
  intro s r e hr he
  have hwants := wantsCapture_iff he (finalClass s r)
  have hstep : s.unit.step ≠ none := by simp [hr]
  obtain ⟨hmem, hu⟩ := entryOf_some he
  refine ⟨fun hp => ⟨fun h => ?_, fun hpass hcap hkind => ?_⟩, fun hp hb => ?_,
    fun q ws s1 value cls ovr hserve hlive hp hfinal => ⟨fun h => ?_, fun h => ?_⟩, finalClass_eq he⟩
  · have hno : ¬wantsCapture s r (finalClass s r) = true := fun hc => by
      obtain ⟨h1, h2, h3⟩ := hwants.1 hc
      simp [h1, h2, h3] at h
    refine ⟨_, exec_classificationReturned_of_complete hr hp hno, rfl, rfl, rfl, rfl, rfl, rfl, rfl,
      completeStep_deferred hstep rfl rfl r _, ?_⟩
    rintro g rfl
    exact ⟨fun hpass => completeStep_window_of_pass rfl hu hpass, fun c d hc => completeStep_window_of_failure rfl hu hc⟩
  · exact exec_classificationReturned_of_capture hr hp (hwants.2 ⟨hpass, hkind, hcap⟩)
  · rw [exec_captureHandoff_of_free hr hp hb, issueCapture_eq, sampleWords, List.length_map]
    rfl
  · rw [exec_captureWriteComplete_of_served hserve, captureAcked_of_more h]
  · obtain ⟨m, reqs, rfl⟩ := serve_eq hserve
    obtain ⟨hwindow, hchecks, hmemory, hlink, hrc⟩ := captureFreed_leaves r.attempt.samples.length
      { s with mem := m, port := { s.port with reqs := reqs } }
    rw [exec_captureWriteComplete_of_served hserve, hlive, captureAcked_of_last h hr hp, captureTaken_of_final hfinal]
    refine ⟨_, rfl, captureFreed_log _ _, rfl, hmemory, completeStep_deferred hstep hchecks hlink r _, ?_,
      mem_captureFreed_reqs _ _, rfl, rfl, hlink, hrc, ?_⟩
    · rintro old new rfl rfl hi hq
      exact captureMarks_queue _ _ hi hq
    · rintro g rfl
      exact ⟨fun hpass => completeStep_window_of_pass hwindow hu hpass, completeStep_entries hwindow hmem hu _⟩

end Sys2Proof.Proofs
end

section
/-! PROOFS. Orders taken and refused, and what an order does to the probe's record. -/

namespace Sys2Proof.Machine

open Sys2Proof

/-! ## When an order is taken (R99) -/

theorem isPark_iff (o : Order) : isPark o = true ↔ o = .park := by cases o <;> simp [isPark]

/-- The conditions of R99 one by one. -/
theorem mayOrder_iff_conditions (p : ProbeNo) (o : Order) (s : State) : mayOrder p o s = true ↔
    (probe s p).order = none ∧ s.link.stop = none ∧ s.rc.guardLine.filtered = false ∧ s.link.up = true
      ∧ ((probe s p).state ≠ .faulted ∨ o = .park) := by
  rw [mayOrder_iff, ordersBarred_iff, isPark_iff]
  simp [and_assoc]

theorem requestOrder_of_may {p : ProbeNo} {o : Order} {s : State} (h : mayOrder p o s = true) :
    requestOrder p o s = some (takeOrder p o s) := requestOrder_eq_some_iff.2 ⟨h, rfl⟩

/-! ## The record after an order (R100) -/

theorem orderedProbe_faultCode (t : Settings) (o : Order) (r : Probe) : (orderedProbe t o r).faultCode = r.faultCode := by
  cases o <;> rfl

/-- Only a CLEAN runs under the longer deadline. -/
theorem orderedProbe_deadline_of_not_clean {t : Settings} {o : Order} (h : ∀ n, o ≠ .clean n) (r : Probe) :
    (orderedProbe t o r).deadline = some t.moveDeadline := by
  cases o with
  | clean n => exact absurd rfl (h n)
  | move | retouch | lift | park => rfl

end Sys2Proof.Machine

namespace Sys2Proof.Proofs

open Sys2Proof Sys2Proof.Machine

/-- Settles O30: an order that R99 lets be taken leaves the record of R100, read off it order by order. -/
theorem ordersTakenOrRefused : Obligations.OrdersTakenOrRefused := by
  unfold Obligations.OrdersTakenOrRefused
  intro p o s
  refine ⟨fun horder hstop hguard hup hfault => ?_, fun hbar => ?_⟩
  · have hmay := (mayOrder_iff_conditions p o s).2 ⟨horder, hstop, hguard, hup, hfault⟩
    refine ⟨takeOrder p o s, requestOrder_of_may hmay, rfl, hstop, hup, takeOrder_sent p o s,
      fun q hq => probe_takeOrder_other hq o s, ?_⟩
    rw [probe_takeOrder_same]
    obtain ⟨ho, htag, hverified, htouch, hmiss, hdue⟩ := orderedProbe_order s.settings o (probe s p)
    refine ⟨ho, htag, hverified, htouch, hmiss, hdue, orderedProbe_faultCode _ _ _, ?_, ?_, ?_, ?_, ?_,
      fun hclean => orderedProbe_deadline_of_not_clean hclean _⟩
    · rintro x y rfl
      exact ⟨rfl, rfl⟩
    · rintro x y rfl
      exact ⟨rfl, rfl⟩
    · rintro rfl
      exact ⟨rfl, rfl⟩
    · rintro rfl
      exact ⟨rfl, rfl⟩
    · rintro n rfl
      exact ⟨rfl, rfl, rfl⟩
  · rw [requestOrder_eq_none_iff, Bool.eq_false_iff, ne_eq, mayOrder_iff_conditions]
    rintro ⟨horder, hstop, hguard, hup, hfault⟩
    rcases hbar with h | h | h | h | ⟨hf, ho⟩
    · exact h horder
    · exact h hstop
    · simp [hguard] at h
    · simp [hup] at h
    · exact hfault.elim (fun hn => hn hf) ho

end Sys2Proof.Proofs
end

section
/-! PROOFS. Stale reports: a report that answers no outstanding order is only counted. -/

namespace Sys2Proof.Machine

open Sys2Proof

/-! ## Which order a report answers (R101) -/

theorem answered_eq_some_iff (p : ProbeNo) (tag : BitVec 4) (s : State) (o : Order) :
    answered p tag s = some o ↔ (probe s p).tag = tag ∧ (probe s p).order = some o := by
  unfold answered
  split
  next h => simp [h]
  next h => simp [h]

/-! ## Reports that answer no order of their kind (R103) -/

theorem exec_landed_of_stale {p : ProbeNo} {tag : BitVec 4} {s : State}
    (h : ∀ o, answered p tag s = some o → ∀ x y, o ≠ .move x y ∧ o ≠ .retouch x y) :
    exec (.landed p tag) s = .next (countStale s) := by
  change execLanded p tag s = _
  unfold execLanded
  split
  next x y ha => exact absurd rfl (h _ ha x y).1
  next x y ha => exact absurd rfl (h _ ha x y).2
  all_goals rfl

theorem exec_lifted_of_stale {p : ProbeNo} {tag : BitVec 4} {s : State}
    (h : ∀ o, answered p tag s = some o → o ≠ .lift) : exec (.lifted p tag) s = .next (countStale s) := by
  change execLifted p tag s = _
  unfold execLifted
  split
  next ha => exact absurd rfl (h _ ha)
  all_goals rfl

theorem exec_parked_of_stale {p : ProbeNo} {tag : BitVec 4} {s : State}
    (h : ∀ o, answered p tag s = some o → o ≠ .park) : exec (.parked p tag) s = .next (countStale s) := by
  change execParked p tag s = _
  unfold execParked
  split
  next ha => exact absurd rfl (h _ ha)
  all_goals rfl

theorem exec_cleaned_of_stale {p : ProbeNo} {tag : BitVec 4} {s : State}
    (h : ∀ o, answered p tag s = some o → ∀ n, o ≠ .clean n) : exec (.cleaned p tag) s = .next (countStale s) := by
  change execCleaned p tag s = _
  unfold execCleaned
  split
  next n ha => exact absurd rfl (h _ ha n)
  all_goals rfl

theorem exec_stopped_of_no_stop {s : State} (h : s.link.stop = none) : exec .stopped s = .next (countStale s) := by
  change execStopped s = _
  simp [execStopped, h, staleReport]

end Sys2Proof.Machine

namespace Sys2Proof.Proofs

open Sys2Proof Sys2Proof.Machine

/-- Settles O27: a report whose answered order is not of its kind, or that answers none, is stale. -/
theorem staleReportsOnlyCounted : Obligations.StaleReportsOnlyCounted := by
  unfold Obligations.StaleReportsOnlyCounted
  rintro p tag s t rfl
  refine ⟨fun h => ?_, fun o ho => ?_, exec_stopped_of_no_stop⟩
  · have hnone : ∀ o, answered p tag s ≠ some o := fun o ha => by
      obtain ⟨htag, horder⟩ := (answered_eq_some_iff p tag s o).1 ha
      exact h.elim (fun hn => by simp [hn] at horder) (fun hne => hne htag.symm)
    exact ⟨exec_landed_of_stale fun o ha => absurd ha (hnone o), exec_lifted_of_stale fun o ha => absurd ha (hnone o),
      exec_parked_of_stale fun o ha => absurd ha (hnone o), exec_cleaned_of_stale fun o ha => absurd ha (hnone o)⟩
  · have hown : ∀ a, answered p tag s = some a → a = o := fun a ha =>
      Option.some.inj (((answered_eq_some_iff p tag s a).1 ha).2.symm.trans ho)
    exact ⟨fun h => exec_landed_of_stale fun a ha => hown a ha ▸ h, fun h => exec_lifted_of_stale fun a ha => hown a ha ▸ h,
      fun h => exec_parked_of_stale fun a ha => hown a ha ▸ h, fun h => exec_cleaned_of_stale fun a ha => hown a ha ▸ h⟩

end Sys2Proof.Proofs
end

section
/-! PROOFS. The nudge of a pad and the targets of the seven retouches (R125, R126). -/

namespace Sys2Proof.Machine

open Sys2Proof

/-! ## The nudge and the offsets (R125, R126) -/

theorem clampNat_mem_bounds {lo hi : Nat} (h : lo ≤ hi) (n : Nat) : lo ≤ clampNat lo hi n ∧ clampNat lo hi n ≤ hi :=
  ⟨le_max_left _ _, max_le h (min_le_left _ _)⟩

/-- The table of R126, row by row. -/
theorem retouchOffset_of_mem {k : Nat} {dx dy : Int}
    (h : (k, dx, dy) ∈ [(1, 1, 0), (2, -1, 0), (3, 0, 1), (4, 0, -1), (5, 1, 1), (6, -1, -1), (7, 1, -1)]) :
    retouchOffset k = (dx, dy) := by
  simp only [List.mem_cons, Prod.mk.injEq, List.not_mem_nil, or_false] at h
  obtain ⟨rfl, rfl, rfl⟩ | ⟨rfl, rfl, rfl⟩ | ⟨rfl, rfl, rfl⟩ | ⟨rfl, rfl, rfl⟩ | ⟨rfl, rfl, rfl⟩ | ⟨rfl, rfl, rfl⟩ |
    ⟨rfl, rfl, rfl⟩ := h <;> rfl

theorem retouchTarget_eq_of_offset {k : Nat} {dx dy : Int} (h : retouchOffset k = (dx, dy)) (pad : Nat) (x y : Int) :
    retouchTarget k pad x y = (toInt32 (x + dx * nudge pad), toInt32 (y + dy * nudge pad)) := by
  rw [retouchTarget, h]

end Sys2Proof.Machine

namespace Sys2Proof.Proofs

open Sys2Proof Sys2Proof.Machine

/-- Settles O54: the nudge is a clamped quarter of the pad, and each target is its table row's offset, clamped. -/
theorem retouchTargets : Obligations.RetouchTargets := by
  unfold Obligations.RetouchTargets
  refine ⟨fun pad => ?nudge, fun k pad x y dx dy hrow => ?target⟩
  case nudge => exact ⟨rfl, clampNat_mem_bounds (by decide) (pad / 4)⟩
  case target => exact retouchTarget_eq_of_offset (retouchOffset_of_mem hrow) pad x y

end Sys2Proof.Proofs
end

section
/-! PROOFS. An attempt of the Measurement Unit: its settle time, samples and ramps, and its judgement. -/

namespace Sys2Proof.Machine

open Sys2Proof

/-! ## Settling and acquisition (R134, R135, R136) -/

theorem isSaturating_eq (v : BitVec 20) : isSaturating v = decide (v.toInt = -524288 ∨ v.toInt = 524287) :=
  (Bool.decide_or _ _).symm

/-- One more sample makes the attempt longer by one (R135). -/
theorem addSample_samples_length (v : BitVec 20) (t : Attempt) : (addSample v t).samples.length = t.samples.length + 1 :=
  List.length_append

section
variable {s : State} {r : StepRec} (hr : s.unit.step = some r)
include hr

theorem exec_settleElapsed_of_settling (hp : r.phase = .settling) : exec .settleElapsed s =
    .next (setStep { r with phase := .acquiring, elapsed := r.elapsed + 100 * (bankOf s r.bank).settle } s) := by
  show execSettleElapsed s = _
  simp only [execSettleElapsed, hr, hp, if_true]

section
variable (hp : r.phase = .acquiring)
include hp

theorem exec_sample_of_acquiring (hk : r.kind ≠ .cap) (v : BitVec 20) :
    exec (.sample v) s = .next (setStep (sampledStep (bankOf s r.bank) v r) s) := by
  show execSample v s = _
  simp only [execSample, hr]
  exact if_pos ⟨hp, hk⟩

theorem exec_rampCrossing_of_acquiring (hk : r.kind = .cap) {n : Nat} (hlow : 1 ≤ n) (hhigh : n ≤ (bankOf s r.bank).tMax) :
    exec (.rampCrossing n) s = .next (setStep (rampedStep n true r) s) := by
  show execRampCrossing n s = _
  simp only [execRampCrossing, hr]
  exact if_pos ⟨hp, hk, hlow, hhigh⟩

theorem exec_rampTimeLimit_of_acquiring (hk : r.kind = .cap) :
    exec .rampTimeLimit s = .next (setStep (rampedStep (bankOf s r.bank).tMax false r) s) := by
  show execRampTimeLimit s = _
  simp only [execRampTimeLimit, hr]
  exact if_pos ⟨hp, hk⟩

end

/-! ## Judging (R137, R138) -/

theorem exec_attemptJudged_of_judging (hp : r.phase = .judging) (us : Nat) :
    exec (.attemptJudged us) s = .next (judgeAttempt { r with elapsed := r.elapsed + 100 * us } s) := by
  show execAttemptJudged us s = _
  simp only [execAttemptJudged, hr, hp, if_true]

end

/-- The range one up or one down is the target of a wish for it (R137). -/
theorem wishTarget_eq_some {w : Wish} {i : Nat} {target : Int}
    (h : (w = .up ∧ target = i + 1) ∨ (w = .down ∧ target = (i : Int) - 1)) : wishTarget w i = some target := by
  rcases h with ⟨rfl, rfl⟩ | ⟨rfl, rfl⟩ <;> rfl

theorem grantsRange_iff (b : Bank) (r : StepRec) (target : Int) : grantsRange b r target = true ↔
    b.autoInForce = true ∧ (b.floor : Int) ≤ target ∧ target ≤ b.ceiling ∧ target.toNat ∉ r.tried
      ∧ r.changes < b.maxChanges := by
  simp [grantsRange, and_assoc]

theorem judgeAttempt_of_keep {r : StepRec} {s : State} (h : attemptWish r.kind (bankOf s r.bank) r.attempt = .keep) :
    judgeAttempt r s = finalAttempt false r s := by
  rw [judgeAttempt, h]
  rfl

section
variable {r : StepRec} {s : State} {target : Int}
  (ht : wishTarget (attemptWish r.kind (bankOf s r.bank) r.attempt) r.range = some target)
include ht

theorem judgeAttempt_of_granted (hg : grantsRange (bankOf s r.bank) r target = true) :
    judgeAttempt r s = setStep (rangedStep (bankOf s r.bank) target.toNat r) s := by
  simp only [judgeAttempt, ht, hg, if_true]

theorem judgeAttempt_of_refused (hg : ¬grantsRange (bankOf s r.bank) r target = true) :
    judgeAttempt r s = finalAttempt true r s := by
  simp only [judgeAttempt, ht, hg, Bool.false_eq_true, if_false]

end

/-! ## The wishes (R150, R151) -/

/-- A resistance wishes by the saturated flag and the size of the mean (R150). -/
theorem attemptWish_resistance {kind : MeasKind} (hk : kind = .res2 ∨ kind = .res4) (b : Bank) (t : Attempt) :
    attemptWish kind b t =
      (if t.saturated = true ∨ 458752 < (meanOf (2 ^ b.k) t.sum).natAbs then .up
       else if (meanOf (2 ^ b.k) t.sum).natAbs < 16384 then .down else .keep) := by
  rcases hk with rfl | rfl <;> exact if_congr (by rw [Bool.or_eq_true, decide_eq_true_iff]; rfl) rfl rfl

/-- A capacitance wishes by its ramp (R151). -/
theorem attemptWish_cap (b : Bank) (t : Attempt) :
    attemptWish .cap b t = (if t.crossed = false then .down else if t.ticks < 1000 then .up else .keep) := by
  simp only [attemptWish, Bool.not_eq_true']

end Sys2Proof.Machine

namespace Sys2Proof.Proofs

open Sys2Proof Sys2Proof.Machine

/-- Settles O41: each event's equation; a sample's saturation test and count by those of `addSample`. -/
theorem attemptAcquires : Obligations.AttemptAcquires := by
  unfold Obligations.AttemptAcquires
  intro s r hr
  refine ⟨exec_settleElapsed_of_settling hr, fun v hp hk => ?_,
    fun n hp hk hlow hhigh => exec_rampCrossing_of_acquiring hr hp hk hlow hhigh, exec_rampTimeLimit_of_acquiring hr⟩
  rw [exec_sample_of_acquiring hr hp hk, ← isSaturating_eq, ← addSample_samples_length v]
  rfl

/-- Settles O42: the judgement by the wish, a range change by the conditions of `grantsRange_iff`. -/
theorem attemptJudged : Obligations.AttemptJudged := by
  unfold Obligations.AttemptJudged
  refine ⟨fun s r us hr hp => ⟨fun hkeep => ?keep, fun target hw => ⟨fun hauto hfloor hceil htried hchanges => ?granted,
    fun h => ?refused⟩⟩, fun kind b t hk => attemptWish_resistance hk b t, fun b t => ⟨attemptWish_cap b t, rfl, rfl⟩⟩
  case keep => exact (exec_attemptJudged_of_judging hr hp us).trans (congrArg _ (judgeAttempt_of_keep hkeep))
  case granted =>
    have hgrants := (grantsRange_iff (bankOf s r.bank) r target).2 ⟨hauto, hfloor, hceil, htried, hchanges⟩
    exact (exec_attemptJudged_of_judging hr hp us).trans
      (congrArg _ (judgeAttempt_of_granted (wishTarget_eq_some hw) hgrants))
  case refused =>
    have hno : ¬grantsRange (bankOf s r.bank) r target = true := by
      rw [grantsRange_iff]
      rintro ⟨hauto, hfloor, hceil, htried, hchanges⟩
      rcases h with h | h | h | h | h
      · exact Bool.false_ne_true (h.symm.trans hauto)
      · exact hfloor.not_gt h
      · exact hceil.not_gt h
      · exact htried h
      · exact h.not_gt hchanges
    exact (exec_attemptJudged_of_judging hr hp us).trans (congrArg _ (judgeAttempt_of_refused (wishTarget_eq_some hw) hno))

end Sys2Proof.Proofs
end

section
/-! PROOFS. The value of an attempt of each kind and its bounds. -/

namespace Sys2Proof.Machine

open Sys2Proof

/-! ## The bounds of a mean and of a rounded quotient -/

/-- Samples that average between two bounds have their rounded mean between them too (R145). -/
theorem meanOf_two_pow_mem_bounds {lo hi sum : Int} (k : Nat) (hlow : lo * (2 ^ k : Nat) ≤ sum)
    (hhigh : sum ≤ hi * (2 ^ k : Nat)) : lo ≤ meanOf (2 ^ k) sum ∧ meanOf (2 ^ k) sum ≤ hi := by
  obtain ⟨hle, hlt⟩ := meanOf_two_pow_bounds k sum
  have hpos : (0 : Int) < (2 ^ k : Nat) := Int.natCast_pos.2 (Nat.two_pow_pos k)
  constructor <;> by_contra! h <;> nlinarith

/-- A rounded quotient that is not negative, from below. -/
theorem le_roundHalfAway_iff {n : Int} {d : Nat} (hn : 0 ≤ n) (hd : 0 < d) (m : Int) :
    m ≤ roundHalfAway n d ↔ m * (2 * d) ≤ 2 * n + d := by
  rw [roundHalfAway, if_pos hn]
  exact Int.le_ediv_iff_mul_le (by omega)

theorem roundHalfAway_nonneg {n : Int} {d : Nat} (hn : 0 ≤ n) (hd : 0 < d) : 0 ≤ roundHalfAway n d :=
  (le_roundHalfAway_iff hn hd 0).2 (by omega)

theorem roundHalfAway_le_of_nonneg {n m : Int} {d : Nat} (hd : 0 < d) (hn : 0 ≤ n) (h : n ≤ m) :
    roundHalfAway n d ≤ roundHalfAway m d :=
  (le_roundHalfAway_iff (hn.trans h) hd _).2 (((le_roundHalfAway_iff hn hd _).1 le_rfl).trans (by omega))

/-- Rounding keeps order: below zero because it is odd, across zero by the signs of the quotients. -/
theorem roundHalfAway_mono {d : Nat} (hd : 0 < d) : Monotone (roundHalfAway · d) := by
  intro n m h
  rcases le_total 0 n with hn | hn
  · exact roundHalfAway_le_of_nonneg hd hn h
  have hneg : roundHalfAway n d = -roundHalfAway (-n) d := by rw [roundHalfAway_neg n hd, neg_neg]
  show roundHalfAway n d ≤ roundHalfAway m d
  rw [hneg]
  rcases le_total 0 m with hm | hm
  · exact (neg_nonpos.2 (roundHalfAway_nonneg (neg_nonneg.2 hn) hd)).trans (roundHalfAway_nonneg hm hd)
  · rw [neg_le, ← roundHalfAway_neg m hd]
    exact roundHalfAway_le_of_nonneg hd (neg_nonneg.2 hm) (neg_le_neg h)

/-- A multiple of the divisor is divided without rounding. -/
theorem roundHalfAway_mul_self (m : Int) {d : Nat} (hd : 0 < d) : roundHalfAway (m * d) d = m := by
  simpa using roundHalfAway_mul_right m 1 hd

theorem roundHalfAway_le {n m : Int} {d : Nat} (hd : 0 < d) (h : n ≤ m * d) : roundHalfAway n d ≤ m :=
  (roundHalfAway_mono hd h).trans_eq (roundHalfAway_mul_self m hd)

/-! ## The bounds of a resistance and of a capacitance (R146, R147, R149) -/

theorem resistanceOf_mono (range : Nat) : Monotone (resistanceOf range) := fun _ _ h =>
  roundHalfAway_mono (Nat.pow_pos (by decide)) (mul_le_mul_of_nonneg_right h (by decide))

/-- The resistances at the ends of the converter, in each range. -/
theorem resistanceOf_converter_ends : ∀ range ≤ 6,
    -20971520000 ≤ resistanceOf range (-2097152) ∧ resistanceOf range 2097148 ≤ 20971480000 := by decide

theorem resistanceOf_mem_bounds {range : Nat} {v : Int} (hr : range ≤ 6) (hlow : -2097152 ≤ v) (hhigh : v ≤ 2097148) :
    -20971520000 ≤ resistanceOf range v ∧ resistanceOf range v ≤ 20971480000 := by
  obtain ⟨hmin, hmax⟩ := resistanceOf_converter_ends range hr
  exact ⟨hmin.trans (resistanceOf_mono range hlow), (resistanceOf_mono range hhigh).trans hmax⟩

/-- In range 1, the range of CONT, a tenth of the voltage is rounded. -/
theorem resistanceOf_one_mem_bounds {v : Int} (hlow : -2097152 ≤ v) (hhigh : v ≤ 2097148) :
    -209715 ≤ resistanceOf 1 v ∧ resistanceOf 1 v ≤ 209715 :=
  ⟨(show _ ≤ resistanceOf 1 (-2097152) by decide).trans (resistanceOf_mono 1 hlow),
    (resistanceOf_mono 1 hhigh).trans (by decide)⟩

theorem sourceCurrent_mem_bounds {range : Nat} (hr : range ≤ 6) :
    100 ≤ sourceCurrent range ∧ sourceCurrent range ≤ 100000000 :=
  ⟨Nat.pow_le_pow_right (show 10 > 0 by decide) (show 2 ≤ 8 - range by omega),
    Nat.pow_le_pow_right (show 10 > 0 by decide) (Nat.sub_le 8 range)⟩

/-- One tick at the least current and the greatest V_th is a half, which rounds to 1 fF. -/
theorem capacitanceOf_mem_bounds {range ticks vth : Nat} (hr : range ≤ 6) (ht : 1 ≤ ticks) (ht' : ticks ≤ 2147483648)
    (hv : 200 ≤ vth) (hv' : vth ≤ 2000) :
    1 ≤ capacitanceOf range ticks vth ∧ capacitanceOf range ticks vth ≤ 10737418240000000 := by
  obtain ⟨hmin, hmax⟩ := sourceCurrent_mem_bounds hr
  have hlow : 100 * 1 ≤ sourceCurrent range * ticks := Nat.mul_le_mul hmin ht
  have hhigh : sourceCurrent range * ticks ≤ 100000000 * 2147483648 := Nat.mul_le_mul hmax ht'
  exact ⟨(le_roundHalfAway_iff (Int.natCast_nonneg _) (by omega) 1).2 (by omega), roundHalfAway_le (by omega) (by omega)⟩

/-! ## The value of the final attempt (R130, R132) -/

theorem nullOf_of_res2 {s : State} {r : StepRec} (h : r.kind = .res2) : nullOf s r = (s.unit.resNull.get r.hi).get r.lo := by
  rw [nullOf, h]

theorem nullOf_of_cap {s : State} {r : StepRec} (h : r.kind = .cap) : nullOf s r = (s.unit.capNull.get r.hi).get r.lo := by
  rw [nullOf, h]

theorem nullOf_of_other {s : State} {r : StepRec} (h2 : r.kind ≠ .res2) (hc : r.kind ≠ .cap) : nullOf s r = 0 := by
  cases hk : r.kind with
  | res2 => exact absurd hk h2
  | cap => exact absurd hk hc
  | res4 | diode | cont => rw [nullOf, hk]

theorem bankOf_of_getElem? {s : State} {n : Nat} {b : Bank} (h : s.unit.banks[n]? = some b) : bankOf s n = b := by
  rw [bankOf, List.getD_eq_getElem?_getD, h]
  rfl

end Sys2Proof.Machine

namespace Sys2Proof.Proofs

open Sys2Proof Sys2Proof.Machine

/-- Settles O52: the bounds of each kind from those of the voltage, the resistance and the capacitance. -/
theorem readingValueBounds : Obligations.ReadingValueBounds := by
  unfold Obligations.ReadingValueBounds
  refine ⟨?value, fun s r => ⟨fun h => ?_, fun h => ?_, fun h2 hc => ?_, fun n b => bankOf_of_getElem?⟩, ?bounds⟩
  case value =>
    rintro range null b t volts rfl
    exact ⟨rfl, rfl, rfl, rfl, rfl⟩
  · rw [finalValue, nullOf_of_res2 h, h]
  · rw [finalValue, nullOf_of_cap h, h]
  · rw [finalValue, nullOf_of_other h2 hc]
  case bounds =>
    intro kind range null b t _ hrange hcont hres2 hcap hlow hhigh ht ht' hv hv'
    obtain ⟨hmin, hmax⟩ := meanOf_two_pow_mem_bounds b.k hlow hhigh
    have hvmin : -2097152 ≤ voltsOf (meanOf (sampleCount b) t.sum) := by unfold voltsOf sampleCount; omega
    have hvmax : voltsOf (meanOf (sampleCount b) t.sum) ≤ 2097148 := by unfold voltsOf sampleCount; omega
    have hres := resistanceOf_mem_bounds hrange hvmin hvmax
    have hcapacitance := capacitanceOf_mem_bounds hrange ht ht' hv hv'
    cases kind with
    | res2 =>
      have hnull := hres2 rfl
      simp only [attemptValue]
      omega
    | cap =>
      have hnull := hcap rfl
      simp only [attemptValue]
      omega
    | res4 | diode =>
      simp only [attemptValue]
      omega
    | cont =>
      obtain rfl := hcont rfl
      have hone := resistanceOf_one_mem_bounds hvmin hvmax
      simp only [attemptValue]
      omega

end Sys2Proof.Proofs
end

section
/-! PROOFS. The bounds of a limit copy and the classification of a final attempt. -/

namespace Sys2Proof.Machine

open Sys2Proof

/-! ## The bounds of a limit copy (R155) -/

theorem floorDiv_mul_self {d : Nat} (hd : 0 < d) (m : Int) : floorDiv (m * d) d = m :=
  Int.mul_ediv_cancel m (by omega)

theorem ceilDiv_mul_self {d : Nat} (hd : 0 < d) (m : Int) : ceilDiv (m * d) d = m := by
  rw [ceilDiv, ← neg_mul, Int.mul_ediv_cancel _ (by omega), neg_neg]

theorem floorDiv_le {d : Nat} (hd : 0 < d) {n m : Int} (h : n ≤ m * d) : floorDiv n d ≤ m :=
  (Int.ediv_le_ediv (by omega) h).trans_eq (floorDiv_mul_self hd m)

theorem le_ceilDiv {d : Nat} (hd : 0 < d) {n m : Int} (h : m * d ≤ n) : m ≤ ceilDiv n d :=
  le_neg_of_le_neg (floorDiv_le hd (by rw [neg_mul]; exact neg_le_neg h))

/-- The floor on the tl side of a nominal, the low bound unless it is exchanged. -/
def tlBound (nominal : Int) (tl : Nat) : Int := floorDiv (nominal * (10000 - (min 10000 tl : Nat))) 10000

/-- The ceiling on the th side of a nominal, the high bound unless it is exchanged. -/
def thBound (nominal : Int) (th : Nat) : Int := ceilDiv (nominal * (10000 + (th : Nat))) 10000

theorem tlBound_le {nominal : Int} (hn : 0 ≤ nominal) (tl : Nat) : tlBound nominal tl ≤ nominal :=
  floorDiv_le (by decide) (mul_le_mul_of_nonneg_left (by omega) hn)

theorem le_thBound {nominal : Int} (hn : 0 ≤ nominal) (th : Nat) : nominal ≤ thBound nominal th :=
  le_ceilDiv (by decide) (mul_le_mul_of_nonneg_left (by omega) hn)

theorem tlBound_zero_tolerance (nominal : Int) : tlBound nominal 0 = nominal := floorDiv_mul_self (by decide) nominal

theorem thBound_zero_tolerance (nominal : Int) : thBound nominal 0 = nominal := ceilDiv_mul_self (by decide) nominal

theorem tlBound_zero_nominal (tl : Nat) : tlBound 0 tl = 0 := by simp [tlBound, floorDiv]

theorem thBound_zero_nominal (th : Nat) : thBound 0 th = 0 := by simp [thBound, ceilDiv]

/-- The exchange takes the lesser of the two sides as the low bound. -/
theorem limitBounds_nomtol (nominal : Int) (tl th : Nat) :
    limitBounds (.nomtol nominal tl th) =
      some (min (tlBound nominal tl) (thBound nominal th), max (tlBound nominal tl) (thBound nominal th)) := by
  have hbounds : limitBounds (.nomtol nominal tl th) =
      if thBound nominal th < tlBound nominal tl then some (thBound nominal th, tlBound nominal tl)
      else some (tlBound nominal tl, thBound nominal th) := by
    simp only [limitBounds, clampNat_zero]
    rfl
  rw [hbounds]
  split_ifs with h
  · rw [min_eq_right h.le, max_eq_left h.le]
  · rw [min_eq_left (not_lt.1 h), max_eq_right (not_lt.1 h)]

/-! ## The classification of a final attempt (R153, R156, R157) -/

theorem isOverrange_of_ne_cont {kind : MeasKind} (hk : kind ≠ .cont) (t : Attempt) :
    (isOverrange kind t = true ↔ (kind ≠ .cap ∧ t.saturated = true) ∨ (kind = .cap ∧ t.crossed = false))
    ∧ (isOverrange kind t = false ↔ (kind ≠ .cap ∧ t.saturated = false) ∨ (kind = .cap ∧ t.crossed = true)) := by
  cases kind with
  | cont => exact absurd rfl hk
  | res2 | res4 | diode | cap => simp [isOverrange]

theorem classify_of_overrange {kind : MeasKind} {t : Attempt} (h : isOverrange kind t = true) (lim : Option LimitRec)
    (v : Int) : classify kind lim t v = .overrange := if_pos h

section
variable {kind : MeasKind} {t : Attempt} (h : isOverrange kind t = false) (v : Int)
include h

theorem classify_none : classify kind none t v = .pass := by
  simp [classify, h]

theorem classify_of_bounds {l : LimitRec} {lo hi : Int} (hl : limitBounds l = some (lo, hi)) :
    classify kind (some l) t v = boundsClass lo hi v := by
  cases l with
  | cont => cases hl
  | abs | nomtol => simp [classify, h, hl]

theorem classify_contLimit (short openMin : Nat) (isolated : Bool) :
    classify kind (some (.cont short openMin isolated)) t v
      = contClass isolated (contOutcome short openMin t.saturated v) := by
  simp [classify, h]

end

theorem boundsClass_of_lt {lo v : Int} (h : v < lo) (hi : Int) : boundsClass lo hi v = .failLow := if_pos h

theorem boundsClass_of_gt {lo hi v : Int} (hlo : lo ≤ v) (h : hi < v) : boundsClass lo hi v = .failHigh := by
  rw [boundsClass, if_neg hlo.not_gt, if_pos h]

theorem boundsClass_of_mem {lo hi v : Int} (hlo : lo ≤ v) (hhi : v ≤ hi) : boundsClass lo hi v = .pass := by
  rw [boundsClass, if_neg hlo.not_gt, if_neg hhi.not_gt]

theorem boundsClass_ne_overrange (lo hi v : Int) : boundsClass lo hi v ≠ .overrange := by
  unfold boundsClass
  split_ifs <;> decide

theorem contClass_ne_overrange : ∀ (isolated : Bool) (o : ContOutcome), contClass isolated o ≠ .overrange
  | true, .connected | true, .isolated | true, .marginal
  | false, .connected | false, .isolated | false, .marginal => nofun

/-- Only the first line of the table answers OVERRANGE. -/
theorem classify_eq_overrange_iff (kind : MeasKind) (lim : Option LimitRec) (t : Attempt) (v : Int) :
    classify kind lim t v = .overrange ↔ isOverrange kind t = true := by
  refine ⟨fun hclass => ?_, fun h => classify_of_overrange h lim v⟩
  by_contra hover
  have h := Bool.eq_false_of_not_eq_true hover
  match lim with
  | none => exact absurd ((classify_none h v).symm.trans hclass) nofun
  | some (.cont short openMin isolated) =>
    exact contClass_ne_overrange _ _ ((classify_contLimit h v short openMin isolated).symm.trans hclass)
  | some (.abs lo hi) => exact boundsClass_ne_overrange _ _ _ ((classify_of_bounds h v rfl).symm.trans hclass)
  | some (.nomtol nominal tl th) =>
    exact boundsClass_ne_overrange _ _ _ ((classify_of_bounds h v (limitBounds_nomtol nominal tl th)).symm.trans hclass)

/-! ## The outcome of a CONT step, line by line (R156) -/

theorem contOutcome_isolated {short openMin : Nat} {saturated : Bool} {v : Int}
    (h : saturated = true ∨ ((short : Int) < v ∧ (openMin : Int) ≤ v)) : contOutcome short openMin saturated v = .isolated := by
  rcases h with hsat | ⟨hshort, hopen⟩
  · exact if_pos hsat
  · rw [contOutcome, if_neg hshort.not_ge, if_pos hopen, ite_self]

theorem contOutcome_connected {short : Nat} {v : Int} (h : v ≤ short) (openMin : Nat) :
    contOutcome short openMin false v = .connected := if_pos h

theorem contOutcome_marginal {short openMin : Nat} {v : Int} (hshort : (short : Int) < v) (hopen : v < openMin) :
    contOutcome short openMin false v = .marginal := by
  rw [contOutcome, if_neg Bool.false_ne_true, if_neg hshort.not_ge, if_neg hopen.not_ge]

end Sys2Proof.Machine

namespace Sys2Proof.Proofs

open Sys2Proof Sys2Proof.Machine

/-- Settles O53: the bounds as the lesser and the greater of the two sides, then each line of the tables of R156 and R157. -/
theorem limitsAndClassification : Obligations.LimitsAndClassification := by
  unfold Obligations.LimitsAndClassification
  refine ⟨fun nominal tl th => ?bounds, fun _ _ => rfl, fun kind lim t v hk => ?lines,
    fun short openMin isolated t v => ?cont, fun kind lim t v => ⟨?overrange, classify_eq_overrange_iff kind lim t v⟩⟩
  case bounds =>
    refine ⟨_, _, limitBounds_nomtol nominal tl th, min_le_max, fun hn => ?nonneg, ?negative, ?zero, ?noTolerance⟩
    case nonneg =>
      have hle : tlBound nominal tl ≤ thBound nominal th := (tlBound_le hn tl).trans (le_thBound hn th)
      exact ⟨min_eq_left hle, max_eq_right hle⟩
    case negative =>
      rintro - a b rfl rfl
      exact ⟨rfl, rfl⟩
    case zero =>
      rintro rfl
      rw [tlBound_zero_nominal, thBound_zero_nominal]
      exact ⟨min_self 0, max_self 0⟩
    case noTolerance =>
      rintro rfl rfl
      rw [tlBound_zero_tolerance, thBound_zero_tolerance]
      exact ⟨min_self nominal, max_self nominal⟩
  case lines =>
    obtain ⟨hover, hin⟩ := isOverrange_of_ne_cont hk t
    refine ⟨fun h => classify_of_overrange (hover.2 h) lim v, fun h => ⟨classify_none (hin.2 h) v, ?_⟩⟩
    rintro l lo hi rfl hl
    rw [classify_of_bounds (hin.2 h) v hl]
    exact ⟨fun hlow => boundsClass_of_lt hlow hi, boundsClass_of_gt, boundsClass_of_mem⟩
  case cont =>
    rw [classify_contLimit rfl]
    refine ⟨fun h => ?_, fun hsat h => ?_, fun hsat hshort hopen => ?_⟩
    · rw [contOutcome_isolated h, contClass]
    · rw [hsat, contOutcome_connected h, contClass]
    · rw [hsat, contOutcome_marginal hshort hopen, contClass]
  case overrange => cases kind <;> rfl

end Sys2Proof.Proofs
end

section
/-! PROOFS. What the Diversion Unit makes of a removed entry: the retry bookkeeping, the decision of a failure, the tip-service test. -/

namespace Sys2Proof.Machine

open Sys2Proof

/-! ## The table, the causes and the service-due probes (R116, R158, R159, R181) -/

theorem tableEntry_of_code {c : Cause} {p : ProbeNo} (h : causeCode c = p.val + 1) (s : State) :
    tableEntry s c = s.div.table.get p := by
  have hp : probeOfNat p.val = p := Fin.ext (Nat.mod_eq_of_lt p.isLt)
  rw [tableEntry, h, Nat.add_sub_cancel, hp]

theorem causeCode_le (c : Cause) : causeCode c ≤ 8 := by cases c <;> decide

theorem wordOfHalves_eq {h0 : Nat} (hlow : h0 < 65536) (h1 : Nat) :
    wordOfHalves h0 h1 = BitVec.ofNat 32 (h0 + 65536 * h1) := by
  apply BitVec.eq_of_toNat_eq
  rw [wordOfHalves, BitVec.toNat_append, ← Nat.shiftLeft_add_eq_or_of_lt (BitVec.isLt _), Nat.shiftLeft_eq]
  simp only [BitVec.toNat_ofNat]
  omega

theorem anyDue_iff (s : State) : anyDue s = true ↔ ∃ p, (probe s p).due = true := by
  simp [anyDue, mem_allProbes]

theorem anyDue_eq_false_iff (s : State) : anyDue s = false ↔ ∀ p, (probe s p).due = false := by
  simp [anyDue, mem_allProbes]

/-! ## The retry record and the action of a failure (R161, R162) -/

/-- The state with another retry record. -/
def withRetries (n : Nat) (o : Option Origin) (s : State) : State :=
  { s with div := { s.div with retryCount := n, retryOrigin := o } }

/-- The retry bookkeeping of a failed entry: a failure of the origin being retried keeps the count. -/
def failureBooked (e : Entry) (s : State) : State :=
  { s with div :=
    if s.div.retryOrigin = some e.snap.origin then s.div else { s.div with retryCount := 0, retryOrigin := none } }

/-- The action of a failure: that of an exhausted budget when the origin being retried fails with its budget spent. -/
def failureAction (e : Entry) (c : Cause) (s : State) : DivAction :=
  if s.div.retryOrigin = some e.snap.origin ∧ (tableEntry s c).budget ≤ s.div.retryCount
  then (tableEntry s c).exhausted else (tableEntry s c).action

theorem failureBooked_eq_withRetries (e : Entry) (s : State) : ∃ n o, failureBooked e s = withRetries n o s := by
  unfold failureBooked
  split
  · exact ⟨s.div.retryCount, s.div.retryOrigin, rfl⟩
  · exact ⟨0, none, rfl⟩

theorem failureBooked_active (e : Entry) (s : State) : (failureBooked e s).div.active = s.div.active := by
  obtain ⟨n, o, hbooked⟩ := failureBooked_eq_withRetries e s
  rw [hbooked, withRetries]

/-- Where the bookkeeping clears the record, the origin is not the one being retried, so the budget is not spent before or after. -/
theorem failureAction_failureBooked (e : Entry) (c : Cause) (s : State) :
    failureAction e c (failureBooked e s) = failureAction e c s := by
  by_cases ho : s.div.retryOrigin = some e.snap.origin
  · rw [show failureBooked e s = s by rw [failureBooked, if_pos ho]]
  · simp [failureAction, failureBooked, ho, tableEntry]

theorem retryBookkeeping_of_active {s : State} (ha : s.div.active = true) (e : Entry) : retryBookkeeping e s = s := if_pos ha

section
variable {s : State} {e : Entry} (ha : s.div.active = false)
include ha

theorem retryBookkeeping_of_unfailed (hf : e.state ≠ .failed) : retryBookkeeping e s = withRetries 0 none s := by
  simp [retryBookkeeping, ha, hf, withRetries]

theorem retryBookkeeping_of_failed (hf : e.state = .failed) : retryBookkeeping e s = failureBooked e s := by
  by_cases ho : s.div.retryOrigin = some e.snap.origin <;> simp [retryBookkeeping, failureBooked, ha, hf, ho]

end

/-! ## A flush, a diversion entered, a halt (R93, R163, R164, R168) -/

@[simp] theorem flush_window (s : State) : (flush s).window = [] := rfl

@[simp] theorem flush_step (s : State) : (flush s).unit.step = none := abortMeasurement_step s

@[simp] theorem flush_fetch (s : State) : (flush s).fetch = { s.fetch with held := none, txn := none } := by
  simp [flush, clearWindow]

/-- A notice requested in a state with the run control and the notices of `s`. -/
theorem requestNotice_requested_of_same {s t : State} (hrc : t.rc = s.rc) (hn : t.notice = s.notice) (k : NoticeKind)
    (x y : Word) (m : NoticeMark) : NoticeRequested ⟨k, x, y, s.rc.time, m⟩ s (requestNotice k x y m t) := by
  rw [← hrc]
  exact (requestNotice_requested k x y m t).congr hn

theorem rewindRecovery_fetch (list bank : Nat) (snap : Snapshot) (s : State) :
    (rewindRecovery list bank snap s).fetch = { s.fetch with
      list := list, index := 0, recovery := true, stack := s.fetch.stack.take snap.depth, bank := bank, held := none
      txn := none, stopped := false } := rfl

section
variable (after : Bool) (c : Cause) (snap : Snapshot) (s : State)

theorem enterDiversion_div : (enterDiversion after c snap s).div = { s.div with
    active := true, returnPoint := some snap, returnAfter := after, savedBank := snap.bank
    firstCause := some c, secondCause := none } := by
  simp [enterDiversion]

theorem enterDiversion_fetch : (enterDiversion after c snap s).fetch = { s.fetch with
    list := (tableEntry s c).list, index := 0, recovery := true, stack := s.fetch.stack.take snap.depth
    bank := (tableEntry s c).bank, held := none, txn := none, stopped := false } := by
  simp [enterDiversion, rewindRecovery_fetch]

theorem enterDiversion_window : (enterDiversion after c snap s).window = [] := by simp [enterDiversion]

theorem enterDiversion_step : (enterDiversion after c snap s).unit.step = none := by simp [enterDiversion]

/-- The retry record plays no part in the notice of a diversion entered. -/
theorem enterDiversion_requested (n : Nat) (o : Option Origin) : NoticeRequested ⟨.divertEntered,
    BitVec.ofNat 32 (causeCode c), BitVec.ofNat 32 snap.origin.index, s.rc.time, .plain⟩ s
    (enterDiversion after c snap (withRetries n o s)) := by
  unfold enterDiversion
  exact requestNotice_requested_of_same (by simp [withRetries]) (by simp [withRetries]) _ _ _ _

end

/-- A halt by the table: its causes word, and the window emptied. -/
theorem haltByTable_causes {s : State} (h : s.rc.run ≠ .halted) :
    (haltByTable s).rc.endCauses = tableHaltCauses s ∧ (haltByTable s).window = [] := by
  have hrun : (flush s).rc.run ≠ .halted := by rwa [flush_rc]
  obtain ⟨q, hrc⟩ := enterHalted_rc .haltedByTable (tableHaltCauses s) hrun
  obtain ⟨-, hwindow, -⟩ := enterHalted_blocks .haltedByTable (tableHaltCauses s) hrun
  exact ⟨by rw [haltByTable, hrc], hwindow⟩

theorem tableHaltCauses_of_inactive {s : State} (ha : s.div.active = false) : tableHaltCauses s = 0 := by
  simp [tableHaltCauses, ha]

theorem tableHaltCauses_of_first {s : State} {c : Cause} (ha : s.div.active = true) (hc : s.div.firstCause = some c) :
    tableHaltCauses s = BitVec.ofNat 32 (causeCode c) := by
  simp [tableHaltCauses, ha, hc, causeCodeOpt]

/-- Outside a diversion a halt by the table has no cause to report, and the Diversion Unit stays as it is (R163, R181). -/
theorem haltByTable_of_inactive {s : State} (ha : s.div.active = false) (h : s.rc.run ≠ .halted) :
    (haltByTable s).rc.run = .halted ∧ (haltByTable s).rc.endCode = .haltedByTable
    ∧ (haltByTable s).rc.endCauses = 0 ∧ (haltByTable s).div = s.div ∧ (haltByTable s).window = [] := by
  obtain ⟨hrun, hcode, hdiv⟩ := haltByTable_halted h
  obtain ⟨hcauses, hwindow⟩ := haltByTable_causes h
  have hsame : { s.div with active := false } = s.div := by rw [← ha]
  exact ⟨hrun, hcode, hcauses.trans (tableHaltCauses_of_inactive ha), hdiv.trans hsame, hwindow⟩

/-- A second failure halts the run with both causes (R168, R181). -/
theorem haltDoubleFault_halted (c : Cause) {c1 : Cause} {s : State} (h : s.rc.run ≠ .halted)
    (hc : s.div.firstCause = some c1) :
    (haltDoubleFault c s).rc.run = .halted ∧ (haltDoubleFault c s).rc.endCode = .doubleFault
    ∧ (haltDoubleFault c s).rc.endCauses = BitVec.ofNat 32 (causeCode c1 + 65536 * causeCode c)
    ∧ (haltDoubleFault c s).div = { s.div with active := false, secondCause := some c } := by
  have hrun : (flush { s with div := { s.div with secondCause := some c } }).rc.run ≠ .halted := by rwa [flush_rc]
  have hcauses : wordOfHalves (causeCodeOpt s.div.firstCause) (causeCode c)
      = BitVec.ofNat 32 (causeCode c1 + 65536 * causeCode c) := by
    rw [hc]
    exact wordOfHalves_eq ((causeCode_le c1).trans_lt (by decide)) _
  obtain ⟨q, hrc⟩ := enterHalted_rc .doubleFault (wordOfHalves (causeCodeOpt s.div.firstCause) (causeCode c)) hrun
  obtain ⟨-, -, hdiv, -⟩ := enterHalted_blocks .doubleFault (wordOfHalves (causeCodeOpt s.div.firstCause) (causeCode c)) hrun
  unfold haltDoubleFault
  dsimp only
  rw [hrc, hdiv, flush_div]
  exact ⟨rfl, rfl, hcauses, rfl⟩

/-! ## The actions of the table carried out (R162, R163, R167) -/

/-- An action of the table, carried out for a cause from the snapshot of the removed entry. -/
def carryOut (act : DivAction) (after : Bool) (c : Cause) (snap : Snapshot) (s : State) : State :=
  match act with
  | .continue_ => s
  | .divert => enterDiversion after c snap s
  | .halt => haltByTable s

theorem decideFailure_eq_carryOut (c : Cause) (e : Entry) (s : State) :
    decideFailure c e s = carryOut (failureAction e c s) false c e.snap s := by
  have hact : (if budgetSpent (tableEntry s c) e s then (tableEntry s c).exhausted else (tableEntry s c).action)
      = failureAction e c s := by
    simp [budgetSpent, failureAction]
  unfold decideFailure
  dsimp only
  rw [hact]
  cases failureAction e c s <;> rfl

theorem failureStep_of_unfailed {e : Entry} (hf : e.state ≠ .failed) (s : State) : failureStep e s = s := by
  unfold failureStep
  split
  · next h _ => exact absurd h hf
  · rfl

theorem failureStep_of_active {e : Entry} {c : Cause} {s : State} (hf : e.state = .failed) (hc : e.cause = some c)
    (ha : s.div.active = true) : failureStep e s = decideRecoveryFailure c s := by
  simp [failureStep, hf, hc, ha]

theorem failureStep_of_inactive {e : Entry} {c : Cause} {s : State} (hf : e.state = .failed) (hc : e.cause = some c)
    (ha : s.div.active = false) : failureStep e s = carryOut (failureAction e c s) false c e.snap s := by
  simp [failureStep, hf, hc, ha, decideFailure_eq_carryOut]

theorem tipService_of_active {s : State} (ha : s.div.active = true) (e : Entry) : tipService e s = s := by
  simp [tipService, ha]

theorem tipService_of_halted {s : State} (hr : s.rc.run = .halted) (e : Entry) : tipService e s = s := by
  simp [tipService, hr]

theorem tipService_of_none_due {s : State} (hd : ∀ p, (probe s p).due = false) (e : Entry) : tipService e s = s := by
  simp [tipService, (anyDue_eq_false_iff s).2 hd]

theorem tipService_of_due {s : State} (ha : s.div.active = false) (hr : s.rc.run ≠ .halted)
    (hd : ∃ p, (probe s p).due = true) (e : Entry) :
    tipService e s = carryOut (tableEntry s .tipService).action true .tipService e.snap s := by
  rw [tipService, if_neg (by simp [ha, hr, (anyDue_iff s).2 hd])]
  cases (tableEntry s .tipService).action <;> rfl

/-! ## A removal, step by step (R161) -/

/-- The removal has neither entered a diversion nor halted, and comes to the tip-service test with the state `t`. -/
def ReachesTipTest (e : Entry) (s t : State) : Prop :=
  takeRemoval e s = tipService e t ∧ ∃ n o, t = withRetries n o s

section
variable {s : State} {e : Entry}

section
variable (ha : s.div.active = false)
include ha

theorem reachesTipTest_of_unfailed (hf : e.state ≠ .failed) : ReachesTipTest e s (withRetries 0 none s) := by
  refine ⟨?_, 0, none, rfl⟩
  rw [takeRemoval, retryBookkeeping_of_unfailed ha hf, failureStep_of_unfailed hf]

theorem takeRemoval_of_failed {c : Cause} (hf : e.state = .failed) (hc : e.cause = some c) :
    takeRemoval e s = tipService e (carryOut (failureAction e c s) false c e.snap (failureBooked e s)) := by
  rw [takeRemoval, retryBookkeeping_of_failed ha hf,
    failureStep_of_inactive hf hc ((failureBooked_active e s).trans ha), failureAction_failureBooked]

theorem reachesTipTest_of_continue {c : Cause} (hf : e.state = .failed) (hc : e.cause = some c)
    (hact : failureAction e c s = .continue_) : ReachesTipTest e s (failureBooked e s) := by
  refine ⟨?_, failureBooked_eq_withRetries e s⟩
  rw [takeRemoval_of_failed ha hf hc, hact, carryOut]

/-- Nothing follows a diversion that a failure has entered. -/
theorem takeRemoval_of_divert {c : Cause} (hf : e.state = .failed) (hc : e.cause = some c)
    (hact : failureAction e c s = .divert) :
    ∃ n o, takeRemoval e s = enterDiversion false c e.snap (withRetries n o s) := by
  obtain ⟨n, o, hbooked⟩ := failureBooked_eq_withRetries e s
  refine ⟨n, o, ?_⟩
  rw [takeRemoval_of_failed ha hf hc, hact, hbooked]
  exact tipService_of_active (congrArg DivUnit.active (enterDiversion_div ..)) e

/-- Nothing follows a halt that a failure has made. -/
theorem takeRemoval_of_halt {c : Cause} (hf : e.state = .failed) (hc : e.cause = some c)
    (hact : failureAction e c s = .halt) (hr : s.rc.run ≠ .halted) :
    ∃ n o, takeRemoval e s = haltByTable (withRetries n o s) := by
  obtain ⟨n, o, hbooked⟩ := failureBooked_eq_withRetries e s
  obtain ⟨hrun, -⟩ := haltByTable_halted (s := withRetries n o s) hr
  refine ⟨n, o, ?_⟩
  rw [takeRemoval_of_failed ha hf hc, hact, hbooked]
  exact tipService_of_halted hrun e

end

section
variable (ha : s.div.active = true)
include ha

/-- In a recovery list no retry is counted and a removal without a failure does nothing. -/
theorem takeRemoval_of_active_unfailed (hf : e.state ≠ .failed) : takeRemoval e s = s := by
  rw [takeRemoval, retryBookkeeping_of_active ha, failureStep_of_unfailed hf, tipService_of_active ha]

theorem takeRemoval_of_recovery_failure {c : Cause} (hf : e.state = .failed) (hc : e.cause = some c) :
    takeRemoval e s = tipService e (decideRecoveryFailure c s) := by
  rw [takeRemoval, retryBookkeeping_of_active ha, failureStep_of_active hf hc ha]

theorem takeRemoval_of_recovery_continue {c : Cause} (hf : e.state = .failed) (hc : e.cause = some c)
    (hact : (tableEntry s c).action = .continue_) : takeRemoval e s = s := by
  rw [takeRemoval_of_recovery_failure ha hf hc, decideRecoveryFailure, hact]
  exact tipService_of_active ha e

theorem takeRemoval_of_recovery_halt {c : Cause} (hf : e.state = .failed) (hc : e.cause = some c)
    (hact : (tableEntry s c).action = .halt) (hr : s.rc.run ≠ .halted) : takeRemoval e s = haltByTable s := by
  obtain ⟨hrun, -⟩ := haltByTable_halted hr
  rw [takeRemoval_of_recovery_failure ha hf hc, decideRecoveryFailure, hact]
  exact tipService_of_halted hrun e

theorem takeRemoval_of_recovery_divert {c c1 : Cause} (hf : e.state = .failed) (hc : e.cause = some c)
    (hfirst : s.div.firstCause = some c1) (hact : (tableEntry s c).action = .divert) (hr : s.rc.run ≠ .halted) :
    takeRemoval e s = haltDoubleFault c s := by
  obtain ⟨hrun, -⟩ := haltDoubleFault_halted c hr hfirst
  rw [takeRemoval_of_recovery_failure ha hf hc, decideRecoveryFailure, hact]
  exact tipService_of_halted hrun e

end

theorem ReachesTipTest.of_none_due {t : State} (h : ReachesTipTest e s t) (hd : ∀ p, (probe s p).due = false) :
    takeRemoval e s = t := by
  obtain ⟨htake, n, o, rfl⟩ := h
  rw [htake]
  exact tipService_of_none_due (s := withRetries n o s) hd e

theorem ReachesTipTest.of_due {t : State} (h : ReachesTipTest e s t) (ha : s.div.active = false)
    (hr : s.rc.run ≠ .halted) (hd : ∃ p, (probe s p).due = true) :
    takeRemoval e s = carryOut (tableEntry s .tipService).action true .tipService e.snap t := by
  obtain ⟨htake, n, o, rfl⟩ := h
  rw [htake]
  exact tipService_of_due (s := withRetries n o s) ha hr hd e

end

end Sys2Proof.Machine

namespace Sys2Proof.Proofs

open Sys2Proof Sys2Proof.Machine

/-- Settles O49: by whether a diversion is active, then by the action; the tip-service test where the removal reaches it. -/
theorem removalsDecided : Obligations.RemovalsDecided := by
  unfold Obligations.RemovalsDecided
  refine ⟨fun s e ha => ⟨fun hf hd => ?unfailed, fun c act hf hc hact => ?failed⟩,
    fun s e => takeRemoval_of_active_unfailed, fun s e c c1 ha hfirst hf hc hr => ?recovery,
    fun s t e ha hr hd ht => ?tip, rfl, rfl, fun _ => rfl, fun s c p h => tableEntry_of_code h s⟩
  case unfailed => exact (reachesTipTest_of_unfailed ha hf).of_none_due hd
  case failed =>
    change act = failureAction e c s at hact
    subst hact
    refine ⟨fun hact hd => (reachesTipTest_of_continue ha hf hc hact).of_none_due hd, fun hact => ?divert,
      fun hact hr => ?halt⟩
    case divert =>
      obtain ⟨n, o, htake⟩ := takeRemoval_of_divert ha hf hc hact
      rw [htake, enterDiversion_div, enterDiversion_rc, enterDiversion_link, enterDiversion_mem]
      exact ⟨rfl, rfl, rfl, rfl, rfl, rfl, enterDiversion_fetch .., enterDiversion_window .., enterDiversion_step ..,
        rfl, rfl, rfl, enterDiversion_requested ..⟩
    case halt =>
      obtain ⟨n, o, htake⟩ := takeRemoval_of_halt ha hf hc hact hr
      obtain ⟨hrun, hcode, hcauses, -, hwindow⟩ := haltByTable_of_inactive (s := withRetries n o s) ha hr
      rw [htake]
      exact ⟨hrun, hcode, hcauses, hwindow, haltByTable_link _⟩
  case recovery =>
    refine ⟨takeRemoval_of_recovery_continue ha hf hc, fun hact => ?halt, fun hact => ?divert⟩
    case halt =>
      obtain ⟨hrun, hcode, hdiv⟩ := haltByTable_halted hr
      obtain ⟨hcauses, -⟩ := haltByTable_causes hr
      rw [takeRemoval_of_recovery_halt ha hf hc hact hr]
      exact ⟨hrun, hcode, hcauses.trans (tableHaltCauses_of_first ha hfirst), hdiv⟩
    case divert =>
      rw [takeRemoval_of_recovery_divert ha hf hc hfirst hact hr]
      exact haltDoubleFault_halted c hr hfirst
  case tip =>
    have hreach : ReachesTipTest e s t := by
      rcases ht with ⟨hf, rfl⟩ | ⟨c, hf, hc, hact, rfl⟩
      · exact reachesTipTest_of_unfailed ha hf
      · exact reachesTipTest_of_continue ha hf hc hact
    have htake := hreach.of_due ha hr hd
    obtain ⟨-, n, o, rfl⟩ := hreach
    refine ⟨fun hact => ?goOn, fun hact => ?divert, fun hact => ?halt⟩ <;> rw [hact] at htake
    case goOn => exact htake
    case divert =>
      rw [htake]
      exact ⟨enterDiversion_div .., enterDiversion_fetch .., enterDiversion_window .., enterDiversion_step ..,
        enterDiversion_rc .., enterDiversion_link .., enterDiversion_mem .., enterDiversion_requested true .tipService e.snap s n o⟩
    case halt =>
      rw [htake]
      exact haltByTable_of_inactive (s := withRetries n o s) ha hr

end Sys2Proof.Proofs
end

section
/-! PROOFS. The log record: its bytes and halves, its flags, the byte of each role, the values of its result, its classification. -/

namespace Sys2Proof.Machine

open Sys2Proof

/-! ## Words made of bytes and of halves (R184) -/

/-- A number in two bytes is the number in a half word. -/
theorem byteOf_append_byteOf (n : Nat) : byteOf (n / 256) ++ byteOf n = BitVec.ofNat 16 n := by
  apply BitVec.eq_of_toNat_eq
  rw [BitVec.toNat_append, ← Nat.shiftLeft_add_eq_or_of_lt (BitVec.isLt _), Nat.shiftLeft_eq]
  simp only [byteOf, BitVec.toNat_ofNat]
  omega

section
variable (b0 b1 b2 b3 : Byte)

theorem wordOfBytes_eq_halves : wordOfBytes b0 b1 b2 b3 = (b3 ++ b2) ++ (b1 ++ b0) := by
  rw [wordOfBytes, BitVec.append_assoc, BitVec.cast_eq]

@[simp] theorem wordOfBytes_low : (wordOfBytes b0 b1 b2 b3).extractLsb' 0 16 = b1 ++ b0 := by
  rw [wordOfBytes_eq_halves, BitVec.extractLsb'_append_eq_right]

@[simp] theorem wordOfBytes_high : (wordOfBytes b0 b1 b2 b3).extractLsb' 16 16 = b3 ++ b2 := by
  rw [wordOfBytes_eq_halves, BitVec.extractLsb'_append_eq_left]

@[simp] theorem wordOfBytes_byte0 : (wordOfBytes b0 b1 b2 b3).extractLsb' 0 8 = b0 := BitVec.extractLsb'_append_eq_right

@[simp] theorem wordOfBytes_byte1 : (wordOfBytes b0 b1 b2 b3).extractLsb' 8 8 = b1 := by
  rw [wordOfBytes, BitVec.extractLsb'_append_eq_of_le (by decide), BitVec.extractLsb'_append_eq_right]

@[simp] theorem wordOfBytes_byte2 : (wordOfBytes b0 b1 b2 b3).extractLsb' 16 8 = b2 := by
  rw [wordOfBytes_eq_halves, BitVec.extractLsb'_append_eq_of_le (by decide), BitVec.extractLsb'_append_eq_right]

@[simp] theorem wordOfBytes_byte3 : (wordOfBytes b0 b1 b2 b3).extractLsb' 24 8 = b3 := by
  rw [wordOfBytes_eq_halves, BitVec.extractLsb'_append_eq_of_le (by decide), BitVec.extractLsb'_append_eq_left]

/-- A bit of the highest byte. -/
theorem wordOfBytes_getLsbD_high (i : Nat) : (wordOfBytes b0 b1 b2 b3).getLsbD (24 + i) = b3.getLsbD i := by
  rw [wordOfBytes_eq_halves, BitVec.getLsbD_append, if_neg (by omega), BitVec.getLsbD_append, if_neg (by omega)]
  congr 1
  omega

end

theorem wordOfHalves_low (m n : Nat) : (wordOfHalves m n).extractLsb' 0 16 = BitVec.ofNat 16 m :=
  BitVec.extractLsb'_append_eq_right

theorem wordOfHalves_high (m n : Nat) : (wordOfHalves m n).extractLsb' 16 16 = BitVec.ofNat 16 n :=
  BitVec.extractLsb'_append_eq_left

theorem bitAt_getLsbD {n : Nat} (h : n < 8) (b : Bool) (i : Nat) : (bitAt n b).getLsbD i = (b && decide (n = i)) := by
  cases b
  · exact BitVec.getLsbD_zero
  · have htwo : bitAt n true = BitVec.twoPow 8 n := BitVec.eq_of_toNat_eq (by simp [bitAt])
    rw [htwo, BitVec.getLsbD_twoPow]
    simp [h]

/-! ## The flags of a record (R172) -/

/-- The flags byte that `recordWords` puts into word 7. -/
def recordFlags (e : Entry) : Byte :=
  bitAt 0 e.result.isSome ||| bitAt 1 (!e.nets.isEmpty) ||| bitAt 2 (e.result.bind (·.capture)).isSome
    ||| bitAt 3 (e.result.elim false (·.rangeLimited)) ||| bitAt 4 (decide (e.snap.origin.area = .recovery))

theorem recordWords_word7 (seq : Nat) (now : Word) (e : Entry) : (recordWords seq now e).getD 7 0 =
    wordOfBytes (slotByte (recordSlots e) .guard) e.mask (byteOf e.cycles) (recordFlags e) := rfl

/-- The flags by bit; from bit 5 on they are clear. -/
theorem recordFlags_getLsbD (e : Entry) (i : Nat) : (recordFlags e).getLsbD i =
    ((e.result.isSome && decide (0 = i)) || (!e.nets.isEmpty && decide (1 = i))
      || ((e.result.bind (·.capture)).isSome && decide (2 = i)) || (e.result.elim false (·.rangeLimited) && decide (3 = i))
      || (decide (e.snap.origin.area = .recovery) && decide (4 = i))) := by
  simp only [recordFlags, BitVec.getLsbD_or, bitAt_getLsbD (by decide : (0 : Nat) < 8), bitAt_getLsbD (by decide : 1 < 8),
    bitAt_getLsbD (by decide : 2 < 8), bitAt_getLsbD (by decide : 3 < 8), bitAt_getLsbD (by decide : 4 < 8)]

section
variable (seq : Nat) (now : Word) (e : Entry)

theorem recordWords_flag (i : Nat) : ((recordWords seq now e).getD 7 0).getLsbD (24 + i) = (recordFlags e).getLsbD i := by
  rw [recordWords_word7, wordOfBytes_getLsbD_high]

theorem recordWords_measured : ((recordWords seq now e).getD 7 0).getLsbD 24 = e.result.isSome := by
  rw [recordWords_flag seq now e 0, recordFlags_getLsbD]
  simp

theorem recordWords_named : ((recordWords seq now e).getD 7 0).getLsbD 25 = decide (e.nets ≠ []) := by
  rw [recordWords_flag seq now e 1, recordFlags_getLsbD]
  cases e.nets <;> simp

theorem recordWords_captured : ((recordWords seq now e).getD 7 0).getLsbD 26 = (e.result.bind (·.capture)).isSome := by
  rw [recordWords_flag seq now e 2, recordFlags_getLsbD]
  simp

theorem recordWords_rangeLimited :
    ((recordWords seq now e).getD 7 0).getLsbD 27 = true ↔ ∃ g, e.result = some g ∧ g.rangeLimited = true := by
  rw [recordWords_flag seq now e 3, recordFlags_getLsbD]
  cases e.result <;> simp

theorem recordWords_recovery :
    ((recordWords seq now e).getD 7 0).getLsbD 28 = decide (e.snap.origin.area = .recovery) := by
  rw [recordWords_flag seq now e 4, recordFlags_getLsbD]
  simp

theorem recordWords_flags_clear : ((recordWords seq now e).getD 7 0).extractLsb' 29 3 = 0 := by
  ext i hi
  have hbit := recordWords_flag seq now e (5 + i)
  rw [← Nat.add_assoc, recordFlags_getLsbD] at hbit
  rw [BitVec.getElem_extractLsb', hbit]
  simp
  omega

end

/-! ## The probes by role (R172) -/

theorem slotByte_of_slot {slots : List RoleSlot} {n : RoleName} {x : RoleSlot} (h : slots[roleIndex n]? = some x) :
    slotByte slots n = if x.present = true then 0x80 ||| (x.probe &&& 7) else 0 := by
  obtain ⟨present, p, q⟩ := x
  cases present <;> simp [slotByte, h]

theorem slotByte_nil (n : RoleName) : slotByte [] n = 0 := rfl

/-- The records of the other kinds MEASURE and PROGRAM show the slots as written. -/
theorem recordSlots_of_written {e : Entry} (h : e.kind = .skipped ∨ e.kind = .programError) : recordSlots e = e.slots := by
  rcases h with h | h <;> simp [recordSlots, h]

theorem recordSlots_of_mask {e : Entry} (h : e.kind = .mark ∨ e.kind = .clean ∨ e.kind = .park) : recordSlots e = [] := by
  rcases h with h | h | h <;> simp [recordSlots, h]

theorem roleIndex_lt (n : RoleName) : roleIndex n < slotOrder.length := by cases n <;> decide

theorem slotOrder_roleIndex (n : RoleName) : slotOrder[roleIndex n]? = some n := by cases n <;> rfl

/-- A measured entry shows the roles that its measurement kind uses. -/
theorem recordSlots_of_roles {e : Entry} {n : RoleName} {x : RoleSlot} {k : MeasKind}
    (h : e.kind = .measure ∨ e.kind = .landingRefused) (hx : e.slots[roleIndex n]? = some x)
    (hk : measKindOf e.measByte = some k) :
    (recordSlots e)[roleIndex n]? = some ⟨x.present && (usedSlots k).contains n, x.probe, x.point⟩ := by
  rcases h with h | h <;> simp [recordSlots, h, slotOrder_roleIndex, hk, hx]

theorem recordSlots_of_no_kind {e : Entry} {n : RoleName} (h : e.kind = .measure ∨ e.kind = .landingRefused)
    (hk : measKindOf e.measByte = none) : (recordSlots e)[roleIndex n]? = some ⟨false, 0, 0⟩ := by
  rcases h with h | h <;> simp [recordSlots, h, hk, roleIndex_lt]

/-- The record of the entry shows the role of a present slot. -/
def ShowsRole (e : Entry) (n : RoleName) : Prop :=
  e.kind = .skipped ∨ e.kind = .programError
    ∨ ((e.kind = .measure ∨ e.kind = .landingRefused) ∧ ∃ k, measKindOf e.measByte = some k ∧ n ∈ usedSlots k)

section
variable {e : Entry} {n : RoleName} {x : RoleSlot} (hx : e.slots[roleIndex n]? = some x)
include hx

theorem slotByte_of_shown (hs : ShowsRole e n) :
    slotByte (recordSlots e) n = if x.present = true then 0x80 ||| (x.probe &&& 7) else 0 := by
  rw [ShowsRole, ← or_assoc] at hs
  rcases hs with hw | ⟨hr, k, hk, hn⟩
  · rw [recordSlots_of_written hw, slotByte_of_slot hx]
  · rw [slotByte_of_slot (recordSlots_of_roles hr hx hk), List.contains_iff_mem.2 hn, Bool.and_true]

theorem slotByte_of_hidden (hs : ¬ ShowsRole e n) : slotByte (recordSlots e) n = 0 := by
  simp only [ShowsRole, not_or] at hs
  obtain ⟨hskipped, hprogram, hrole⟩ := hs
  by_cases hr : e.kind = .measure ∨ e.kind = .landingRefused
  · cases hk : measKindOf e.measByte with
    | none => rw [slotByte_of_slot (recordSlots_of_no_kind hr hk), if_neg Bool.false_ne_true]
    | some k =>
      have hn : (usedSlots k).contains n = false :=
        Bool.eq_false_iff.2 fun h => hrole ⟨hr, k, hk, List.contains_iff_mem.1 h⟩
      rw [slotByte_of_slot (recordSlots_of_roles hr hx hk), hn, Bool.and_false, if_neg Bool.false_ne_true]
  · have hm : e.kind = .mark ∨ e.kind = .clean ∨ e.kind = .park := by
      cases h : e.kind <;> simp_all
    rw [recordSlots_of_mask hm, slotByte_nil]

end

/-- The byte of each role stands in word 6 or, for the guard, in word 7. -/
theorem recordWords_slot (seq : Nat) (now : Word) (e : Entry) (n : RoleName) :
    ((recordWords seq now e).getD (6 + roleIndex n / 4) 0).extractLsb' (8 * (roleIndex n % 4)) 8 =
      slotByte (recordSlots e) n := by
  cases n
  case forceHi => exact wordOfBytes_byte0 ..
  case forceLo => exact wordOfBytes_byte1 ..
  case senseHi => exact wordOfBytes_byte2 ..
  case senseLo => exact wordOfBytes_byte3 ..
  case guard => exact wordOfBytes_byte0 ..

/-! ## The result of the step in the record (R172) -/

section
variable (seq : Nat) (now : Word) {e : Entry}

/-- The two words of the value are the signed 64-bit value. -/
theorem recordWords_value {g : Reading} (h : e.result = some g) :
    (recordWords seq now e).getD 10 0 ++ (recordWords seq now e).getD 9 0 = BitVec.ofInt 64 g.value := by
  have hw : (recordWords seq now e).getD 10 0 ++ (recordWords seq now e).getD 9 0 =
      BitVec.ofInt 64 (e.result.elim 0 (·.value)) := BitVec.extractLsb'_append_extractLsb' (w := 32) (len := 32)
  rw [hw, h]
  rfl

theorem recordWords_of_result {g : Reading} (h : e.result = some g) :
    ((recordWords seq now e).getD 8 0).extractLsb' 16 8 = BitVec.ofNat 8 g.range
    ∧ ((recordWords seq now e).getD 8 0).extractLsb' 24 8 = BitVec.ofNat 8 g.changes
    ∧ (recordWords seq now e).getD 12 0 = g.start ∧ (recordWords seq now e).getD 13 0 = BitVec.ofNat 32 g.duration := by
  simp [recordWords, h, byteOf]

theorem recordWords_of_no_result (h : e.result = none) :
    ((recordWords seq now e).getD 8 0).extractLsb' 16 16 = 0 ∧ (recordWords seq now e).getD 9 0 = 0
    ∧ (recordWords seq now e).getD 10 0 = 0 ∧ (recordWords seq now e).getD 12 0 = now
    ∧ (recordWords seq now e).getD 13 0 = 0 := by
  simp [recordWords, h, byteOf]

theorem recordWords_of_capture {o n : Nat} (h : e.result.bind (·.capture) = some (o, n)) :
    (recordWords seq now e).getD 14 0 = BitVec.ofNat 32 o
    ∧ ((recordWords seq now e).getD 11 0).extractLsb' 16 16 = BitVec.ofNat 16 n := by
  simp [recordWords, h, wordOfHalves_high]

theorem recordWords_of_no_capture (h : e.result.bind (·.capture) = none) :
    (recordWords seq now e).getD 14 0 = 0 ∧ ((recordWords seq now e).getD 11 0).extractLsb' 16 16 = 0 := by
  simp [recordWords, h, wordOfHalves_high]

end

/-! ## The classification of a record (R173) -/

section
variable {e : Entry} (hk : e.kind = .measure ∨ e.kind = .clean ∨ e.kind = .park)
include hk

theorem entryClass_of_done (h : e.state = .done) : entryClass e = .pass := by
  rcases hk with hk | hk | hk <;> simp [entryClass, hk, h]

theorem entryClass_of_noContact (h : e.state = .failed) (hc : e.cause = some .noContact) : entryClass e = .noContact := by
  rcases hk with hk | hk | hk <;> simp [entryClass, hk, h, hc]

theorem entryClass_of_motionFault (h : e.state = .failed) (hc : e.cause = some .motionFault) :
    entryClass e = .motionFault := by
  rcases hk with hk | hk | hk <;> simp [entryClass, hk, h, hc]

theorem entryClass_of_motionTimeout (h : e.state = .failed) (hc : e.cause = some .motionTimeout) :
    entryClass e = .motionTimeout := by
  rcases hk with hk | hk | hk <;> simp [entryClass, hk, h, hc]

/-- A step that failed by its measurement has the classification of its reading. -/
theorem entryClass_of_reading {g : Reading} (h : e.state = .failed) (hc : e.cause = some .measureFail ∨ e.cause = some .overrange)
    (hg : e.result = some g) : entryClass e = g.cls := by
  rcases hk with hk | hk | hk <;> rcases hc with hc | hc <;> simp [entryClass, hk, h, hc, hg]

end

end Sys2Proof.Machine

namespace Sys2Proof.Proofs

open Sys2Proof Sys2Proof.Machine

/-- Settles O45: word by word, then the classification by the entry's state and cause. -/
theorem recordFields : Obligations.RecordFields := by
  unfold Obligations.RecordFields
  refine ⟨?fields, fun e => ⟨?skipped, ?refused, ?program, fun hk => ?steps⟩, rfl, rfl, rfl, rfl, rfl⟩
  case fields =>
    rintro seq now e w rfl
    refine ⟨rfl, rfl, rfl, ?kind, wordOfBytes_byte1 .., ?detail, ?area, wordOfBytes_byte1 .., ?measKind, wordOfBytes_byte3 ..,
      rfl, rfl, fun n x hx => ?slot, wordOfBytes_byte1 .., wordOfBytes_byte2 .., recordWords_measured .., recordWords_named ..,
      recordWords_captured .., recordWords_rangeLimited .., recordWords_recovery .., recordWords_flags_clear ..,
      (wordOfBytes_low ..).trans (byteOf_append_byteOf _), wordOfHalves_low .., rfl, recordWords_of_no_result seq now,
      fun g hg => ?result, fun o n => recordWords_of_capture seq now, recordWords_of_no_capture seq now⟩
    case kind =>
      refine (wordOfBytes_byte0 ..).trans ?_
      cases e.kind <;> rfl
    case detail => exact (wordOfBytes_high ..).trans (byteOf_append_byteOf _)
    case area =>
      refine (wordOfBytes_byte0 ..).trans ?_
      cases e.snap.origin.area <;> rfl
    case measKind =>
      refine (wordOfBytes_byte2 ..).trans ?_
      unfold recordKindByte
      cases e.kind <;> rfl
    case slot =>
      rw [recordWords_slot]
      by_cases hs : ShowsRole e n
      · rw [slotByte_of_shown hx hs]
        exact if_congr (and_iff_left hs).symm rfl rfl
      · rw [slotByte_of_hidden hx hs]
        exact (if_neg fun h => hs h.2).symm
    case result =>
      obtain ⟨hrange, hchanges, hstart, hduration⟩ := recordWords_of_result seq now hg
      exact ⟨hrange, hchanges, recordWords_value seq now hg, hstart, hduration⟩
  case skipped => exact fun h => by simp [entryClass, h, classCode]
  case refused => exact fun h => by simp [entryClass, h, classCode]
  case program => exact fun h => by simp [entryClass, h, classCode]
  case steps =>
    exact ⟨fun h => by rw [entryClass_of_done hk h]; rfl, fun h hc => by rw [entryClass_of_noContact hk h hc]; rfl,
      fun h hc => by rw [entryClass_of_motionFault hk h hc]; rfl, fun h hc => by rw [entryClass_of_motionTimeout hk h hc]; rfl,
      fun g h hc hg => entryClass_of_reading hk h hc hg⟩

end Sys2Proof.Proofs
end

section
/-! PROOFS. Notices: a request queued or held, the oldest one's record written, and what an acknowledged record does to the ring. -/

namespace Sys2Proof.Machine

open Sys2Proof

/-! ## The oldest request's record (R180) -/

/-- One record at a time: nothing is begun while one is being written, or without a request. -/
theorem startNotice_of_idle {s : State} (h : hasLive .notice s = true ∨ s.notice.queue = []) : startNotice s = s := by
  unfold startNotice
  split
  · rfl
  next hno => rw [h.resolve_left hno]

theorem startNotice_of_front {s : State} {n : Notice} {q : List Notice} (hno : hasLive .notice s = false)
    (hq : s.notice.queue = n :: q) : startNotice s =
      issue .notice (s.notice.base + 16 * s.notice.fill) (.write (noticeWords n)) s := by
  rw [startNotice, if_neg (by simp [hno]), hq]

/-! ## A request made while the ring is in force (R179, R180) -/

theorem requestNotice_of_room {s : State} (k : NoticeKind) (x y : Word) (m : NoticeMark) (hi : s.notice.inForce = true)
    (hq : s.notice.queue.length < 16) : requestNotice k x y m s =
      startNotice { s with notice := { s.notice with queue := s.notice.queue ++ [⟨k, x, y, s.rc.time, m⟩] } } := by
  rw [requestNotice, if_neg (by simp [hi])]
  exact if_pos hq

theorem requestNotice_of_full {s : State} (k : NoticeKind) (x y : Word) (m : NoticeMark) (hi : s.notice.inForce = true)
    (hq : 16 ≤ s.notice.queue.length) : requestNotice k x y m s =
      { s with notice := { s.notice with held := s.notice.held ++ [⟨k, x, y, s.rc.time, m⟩] } } := by
  rw [requestNotice, if_neg (by simp [hi])]
  exact if_neg (Nat.not_lt.2 hq)

/-! ## The acknowledged record (R180) -/

/-- The wrap count after one notice. -/
def wrapAfter (n : NoticeUnit) : Nat := if n.fill = 127 then (n.wrap + 1) % 65536 else n.wrap

/-- The write of the fill word after one notice. -/
def fillWrite (s : State) : Request :=
  ⟨.noticeFill, s.settings.anchorBase + 0x10C,
    .write [BitVec.ofNat 32 ((s.notice.fill + 1) % 128 + 65536 * wrapAfter s.notice)], true, s.port.epoch⟩

/-- What waits for a notice concerns neither the ring nor its queue. -/
theorem afterNotice_ring (m : NoticeMark) (s : State) :
    (afterNotice m s).notice = { s.notice with pend := (afterNotice m s).notice.pend }
    ∧ (afterNotice m s).notice.pend.notice = s.notice.pend.notice := by
  cases m <;> exact ⟨rfl, rfl⟩

/-- The notice unit once the record of `n`, before `q` in the queue, has been acknowledged in `s`. -/
def NoticeAdvanced (n : Notice) (q : List Notice) (s t : State) : Prop :=
  t.notice.base = s.notice.base ∧ t.notice.fill = (s.notice.fill + 1) % 128 ∧ t.notice.wrap = wrapAfter s.notice
  ∧ t.notice.queue = q ++ s.notice.held.take (16 - q.length) ∧ t.notice.held = s.notice.held.drop (16 - q.length)
  ∧ t.notice.pend.notice = (s.notice.pend.notice || s.settings.noticeMask.getLsbD n.kind.code)
  ∧ t.port = { s.port with reqs := s.port.reqs ++ [fillWrite s] }

/-- The acknowledged record leaves the queue and the ring advances before the next record is begun. -/
theorem noticeWritten_advanced {s : State} {n : Notice} {q : List Notice} (h : s.notice.queue = n :: q) :
    ∃ t, noticeWritten s = startNotice t ∧ NoticeAdvanced n q s t := by
  refine ⟨_, by rw [noticeWritten, h], ?_⟩
  dsimp only
  generalize hr : refillNotices _ = r
  obtain ⟨hring, hpend⟩ := afterNotice_ring n.mark r
  rw [NoticeAdvanced, hpend, hring, afterNotice_port, ← hr]
  cases s.settings.noticeMask.getLsbD n.kind.code
  · exact ⟨rfl, rfl, rfl, rfl, rfl, (Bool.or_false _).symm, rfl⟩
  · exact ⟨rfl, rfl, rfl, rfl, rfl, (Bool.or_true _).symm, rfl⟩

section
variable {s t : State} {n : Notice} {q : List Notice} (h : NoticeAdvanced n q s t)
include h

/-- The fill word is no record: whether one is being written stays as it was. -/
theorem NoticeAdvanced.hasLive_notice : hasLive .notice t = hasLive .notice s := by
  obtain ⟨-, -, -, -, -, -, hport⟩ := h
  refine hasLive_of_reqs_append (more := [fillWrite s]) (by rw [hport]) fun r hr => ?_
  obtain rfl := List.mem_singleton.1 hr
  exact nofun

/-- The write of the fill word is outstanding, whatever is begun behind it. -/
theorem NoticeAdvanced.fillWrite_mem : fillWrite s ∈ (startNotice t).port.reqs := by
  obtain ⟨more, hmore⟩ := startNotice_eq t
  obtain ⟨-, -, -, -, -, -, hport⟩ := h
  rw [hmore, hport]
  exact List.mem_append_left _ (List.mem_append_right _ (.head _))

/-- With no request left, or a record being written, only the fill word is written. -/
theorem NoticeAdvanced.reqs_of_idle (hno : t.notice.queue = [] ∨ hasLive .notice s = true) :
    (startNotice t).port.reqs = s.port.reqs ++ [fillWrite s] := by
  rw [startNotice_of_idle (hno.symm.imp_left h.hasLive_notice.trans)]
  obtain ⟨-, -, -, -, -, -, hport⟩ := h
  rw [hport]

/-- The next record is begun behind the fill word. -/
theorem NoticeAdvanced.reqs_of_next {m : Notice} {rest : List Notice} (hq : t.notice.queue = m :: rest)
    (hno : hasLive .notice s = false) : (startNotice t).port.reqs = s.port.reqs ++
      [fillWrite s, ⟨.notice, s.notice.base + 16 * t.notice.fill, .write (noticeWords m), true, s.port.epoch⟩] := by
  rw [startNotice_of_front (h.hasLive_notice.trans hno) hq, issue]
  obtain ⟨hbase, -, -, -, -, -, hport⟩ := h
  rw [hport, hbase]
  exact List.append_assoc ..

end

theorem exec_noticeWriteComplete {s s1 : State} {r : Request} {ws : List Word} (h : serve .notice s = some (r, ws, s1))
    (hl : r.live = true) : exec .noticeWriteComplete s = .next (sealPort (settle (noticeWritten s1))) := by
  show execNoticeWriteComplete s = _
  rw [execNoticeWriteComplete, completeNotice_of_live h hl]
  rfl

/-- A notice for which nothing waits leaves the Run Controller as it was. -/
theorem noticeWritten_rc_of_plain {s : State} {n : Notice} {q : List Notice} (h : s.notice.queue = n :: q)
    (hm : n.mark = .plain) : (noticeWritten s).rc = s.rc := by
  obtain ⟨t, ht, hrc, -⟩ := noticeWritten_eq h
  rw [ht, startNotice_rc, hm]
  exact hrc

end Sys2Proof.Machine

namespace Sys2Proof.Proofs

open Sys2Proof Sys2Proof.Machine

/-- Settles O47: the acknowledged record, then the record begun, then the request by the ring and the queue. -/
theorem noticeWritten : Obligations.NoticeWritten := by
  unfold Obligations.NoticeWritten
  refine ⟨fun s s1 r ws n q h hl hq => ?written, fun s => ⟨startNotice_of_idle, fun n q => startNotice_of_front⟩,
    fun k x y m s => ⟨requestNotice_of_no_ring, requestNotice_of_room k x y m, requestNotice_of_full k x y m⟩, rfl⟩
  case written =>
    have hq1 : s1.notice.queue = n :: q := (serve_notice h).symm ▸ hq
    have hrc := noticeWritten_rc_of_plain hq1
    have hmem := noticeWritten_mem s1
    have hlink := noticeWritten_link s1
    have hwindow := noticeWritten_window s1
    have hexec := exec_noticeWriteComplete h hl
    obtain ⟨t, ht, hadv⟩ := noticeWritten_advanced hq1
    rw [ht] at hrc hmem hlink hwindow hexec
    have ⟨_, hfill, hwrap, hqueue, hheld, hpend, _⟩ := hadv
    obtain ⟨mem, reqs, rfl⟩ := serve_eq h
    refine ⟨startNotice t, hexec, hmem, ?_⟩
    rw [startNotice_notice, hfill, hwrap]
    refine ⟨rfl, rfl, hadv.fillWrite_mem, hqueue, hheld, hadv.reqs_of_idle, fun m rest hm hno => ?_, hpend,
      fun hp => ⟨hrc hp, hlink, hwindow⟩⟩
    rw [hadv.reqs_of_next hm hno, hfill]
    rfl

end Sys2Proof.Proofs
end
